-- ==== Sys2Proof/Word.lean ====
section
/-!
DEFINITION. The plain types of the GT840 model: bytes, the sets the manual names by their members, stamps and elapsed
times, and the two containers State is built of (a vector of a fixed number of like things, and a sparse table by key).
-/
namespace Sys2Proof

/-- One byte of a frame, an entry or a check (11, Layouts). -/
abbrev Byte := BitVec 8

/-- A subset of lanes 0–7: bit L stands for lane L. -/
abbrev LaneSet := BitVec 8

/-- A subset of the bell outputs B0–B7. -/
abbrev BellSet := BitVec 8

/-- A level, or a membership mark, for each of the general inputs G0–G15. -/
abbrev InputSet := BitVec 16

/-- A subset of the eight day types: bits 0–6 are Monday to Sunday, bit 7 is HOL (R10, R96). -/
abbrev DayMask := BitVec 8

/-- A stamp, held as its absolute second: day number × 86,400 + second of day (00, Time; log entry 34). -/
abbrev Stamp := Nat

/-- Milliseconds of elapsed time (R4). -/
abbrev Elapsed := Nat

/-- A lane number, 0–7. -/
abbrev LaneId := Fin 8

/-- A bell output number, 0–7. -/
abbrev BellId := Fin 8

/-- A watch number, 0–3. -/
abbrev WatchId := Fin 4

/-- A sparse table by key: the pairs whose value differs from what an unlisted key reads as, in rising key order (log
entry 30). -/
structure Tab (α : Type) where
  cells : List (Nat × α)
deriving DecidableEq, Repr

/-- The seconds of a day. -/
def daySeconds : Nat := 86400

/-- All eight lanes, in rising order. -/
def allLanes : List LaneId := [0, 1, 2, 3, 4, 5, 6, 7]

/-- All eight bell outputs, in rising order. -/
def allBells : List BellId := [0, 1, 2, 3, 4, 5, 6, 7]

/-- All four watches, in index order. -/
def allWatches : List WatchId := [0, 1, 2, 3]

end Sys2Proof
end

