-- ==== Sys2Proof/Syntax.lean ====
section
/-!
DEFINITION. The words of the GT840's commands: the named values of its orders and events, and `Instr`, one constructor
for each row of spec/opcode_table.json. An order's numbers are natural numbers as sent, so that a number out of range can
be refused or clamped by the rule that takes it; an order's enumerated fields are `Choice`s, so that a value that names
none of the listed ones can be refused BAD_ORDER (R64, R156, R188).
-/
namespace Sys2Proof

/-- A value sent for an enumerated field: one of those listed, or a code that names none of them (R188 check 4). -/
inductive Choice (α : Type) where
  | listed (a : α)
  | unlisted (code : Nat)
deriving DecidableEq, Repr

/-- The direction of a passage: IN for an entry head, OUT for an exit head (R42). -/
inductive Dir where
  | inward
  | outward
deriving DecidableEq, Repr

/-- A reader head: lane L's entry head has address 2L+1 and its exit head 2L+2 (00, Names). -/
structure Head where
  lane : LaneId
  dir : Dir
deriving DecidableEq, Repr

/-- The intent key of a punch (R42). -/
inductive Intent where
  | normal
  | breakKey
deriving DecidableEq, Repr

/-- The kind of a lane (R64). -/
inductive LaneKind where
  | door
  | turnstile
  | unused
deriving DecidableEq, Repr

/-- The release mode of a DOOR lane (R64). -/
inductive ReleaseMode where
  | pulse
  | untilOpen
deriving DecidableEq, Repr

/-- The passback policy of a lane (R50). -/
inductive PassbackPolicy where
  | off
  | soft
  | hard
deriving DecidableEq, Repr

/-- What a lane does with a badge the roster does not hold (R45). -/
inductive MissPolicy where
  | deny
  | admitNoted
deriving DecidableEq, Repr

/-- The fail mode of a lane's release output in supply hold (R93). -/
inductive FailMode where
  | failSafe
  | failSecure
deriving DecidableEq, Repr

/-- A lane's mode (R68). -/
inductive LaneMode where
  | secure
  | free
  | locked
  | egress
deriving DecidableEq, Repr

/-- A mode that an order, a schedule entry or a watch can ask for, and that a lane can remember (R69). -/
inductive AskMode where
  | secure
  | free
  | locked
deriving DecidableEq, Repr

/-- The lane mode that a request asks for. -/
def AskMode.toLaneMode : AskMode → LaneMode
  | .secure => .secure
  | .free => .free
  | .locked => .locked

/-- The kind of a bell output (R139). -/
inductive BellKind where
  | relay
  | tone
deriving DecidableEq, Repr

/-- The mode of a watch (R157). -/
inductive WatchMode where
  | change
  | equals
deriving DecidableEq, Repr

/-- The class of a station, ranking VIEW, then PAYROLL, then OPERATOR (R188). -/
inductive StationClass where
  | view
  | payroll
  | operator
deriving DecidableEq, Repr

/-- The three groups of sampled lines (R154). -/
inductive LineGroup where
  | general
  | contacts
  | encoders
deriving DecidableEq, Repr

/-- The blocks that take boundaries, step notices and resumption notices (R7, R8, R9). -/
inductive Receiver where
  | recordUnit
  | scheduleUnit
  | bankStore
deriving DecidableEq, Repr

/-- What PRESENCE SET may ask for, and what presence reads as (R27, R28). -/
inductive PresenceRead where
  | inside
  | outside
  | unknown
deriving DecidableEq, Repr

/-- Which slots ROSTER READ names (R25). -/
inductive RosterKey where
  | byBadge (badge : Nat)
  | byAddress (first count : Nat)
deriving DecidableEq, Repr

/-- The enrol fields of a RULING, the same as ROSTER ENROL's but for the badge (R59). -/
structure EnrolFields where
  payClass : Nat
  pattern : Nat
  lanes : LaneSet
deriving DecidableEq, Repr

/-- The decision of a RULING (R59). -/
inductive Decision where
  | allow
  | deny
deriving DecidableEq, Repr

/-- The three rounding modes of a pay class (R117, R118). -/
inductive RoundingMode where
  | nearest
  | plant
  | worker
deriving DecidableEq, Repr

/-- One row of the pay class table, its fields as stored (06, Pay classes; R170). DESIGN CHOICE (log entry 48): a yes or no field
holds one of its two values and no other, so that no row can be loaded with one of them out of range. -/
structure PayClass where
  unit : Nat
  rounding : Choice RoundingMode
  inEarly : Nat
  inLate : Nat
  outEarly : Nat
  outLate : Nat
  earlyPaid : Bool
  latePaid : Bool
  paidBreak : Nat
  mealThreshold : Nat
  mealLength : Nat
  dailyThreshold : Nat
  weeklyThreshold : Nat
  overtimeRate : Nat
  nightPremium : Nat
  holidayRate : Nat
  nightStart : Nat
  nightEnd : Nat
  autoClose : Nat
  admitEarly : Nat
  admitLate : Nat
  anyTime : Bool
deriving DecidableEq, Repr

/-- One row of the shift pattern table (R167). -/
structure ShiftPattern where
  start : Nat
  length : Nat
  mask : DayMask
deriving DecidableEq, Repr

/-- The kind of a schedule entry (R135). -/
inductive EntryKind where
  | ring
  | laneMode
deriving DecidableEq, Repr

/-- The basis of a schedule entry (R135). -/
inductive Basis where
  | fixed
  | anchored
deriving DecidableEq, Repr

/-- The anchor point of an ANCHORED entry (R137). -/
inductive AnchorPoint where
  | start
  | finish
deriving DecidableEq, Repr

/-- One row of the schedule table, its fields as stored (R135). -/
structure ScheduleEntry where
  kind : Choice EntryKind
  basis : Choice Basis
  second : Nat
  pattern : Nat
  anchor : Choice AnchorPoint
  offset : Int
  mask : DayMask
  bells : BellSet
  tone : Nat
  duration : Nat
  lanes : LaneSet
  mode : Choice LaneMode
deriving DecidableEq, Repr

/-- One row of the tone pattern table (R139). -/
structure TonePattern where
  frequency : Nat
  onTime : Nat
  offTime : Nat
deriving DecidableEq, Repr

/-- The five tables of a bank (R167). -/
inductive TableName where
  | payClasses
  | patterns
  | schedule
  | tones
  | holidays
deriving DecidableEq, Repr

/-- A row of one of the five tables; a holiday row is a day number, or EMPTY (R167). -/
inductive Row where
  | payClass (r : PayClass)
  | pattern (r : ShiftPattern)
  | entry (r : ScheduleEntry)
  | tone (r : TonePattern)
  | holiday (day : Option Nat)
deriving DecidableEq, Repr

/-- The start kind of LOAD BEGIN (R169). -/
inductive LoadKind where
  | copy
  | empty
deriving DecidableEq, Repr

/-- The time of BANK SWITCH (R172). -/
inductive SwitchTime where
  | nextMinute
  | named (day minute : Nat)
deriving DecidableEq, Repr

/-- The bank TABLE READ names (R175). -/
inductive BankSelector where
  | bankA
  | bankB
  | active
  | standby
deriving DecidableEq, Repr

/-- A group's debounce setting: sample period in ms and count K (R154). -/
structure DebounceSetting where
  period : Nat
  count : Nat
deriving DecidableEq, Repr

/-- The general part of the setup record, as sent and as held (R191). -/
structure GeneralSetup where
  repeatGuard : Nat
  referralTimeout : Nat
  offlineTimeout : Nat
  weekStart : Nat
  generalDebounce : DebounceSetting
  contactDebounce : DebounceSetting
  encoderDebounce : DebounceSetting
deriving DecidableEq, Repr

/-- The bells part of a SETUP WRITE: a kind for each of B0–B7, the evacuation outputs and the evacuation tone (R139). -/
structure BellSetupRequest where
  kinds : List (Choice BellKind)
  evacOutputs : BellSet
  evacTone : Nat
deriving DecidableEq, Repr

/-- A complete lane setup as a SETUP WRITE carries it (R64). -/
structure LaneSetupRequest where
  kind : Choice LaneKind
  entryEnable : Bool
  exitEnable : Bool
  releaseTime : Nat
  releaseMode : Choice ReleaseMode
  heldLimit : Nat
  passageStep : Nat
  passback : Choice PassbackPolicy
  referral : Bool
  miss : Choice MissPolicy
  partner : Option Nat
  deadTime : Nat
  waitLimit : Nat
  fail : Choice FailMode
deriving DecidableEq, Repr

/-- The action of a watch as a SETUP WRITE carries it (R156). -/
inductive WatchActionRequest where
  | alarm
  | evacuate
  | lanes (set : LaneSet) (mode : Choice LaneMode)
  | bell (index : Nat)
deriving DecidableEq, Repr

/-- The settings of a watch as a SETUP WRITE carries them (R156). -/
structure WatchRequest where
  enable : Bool
  mask : InputSet
  compare : InputSet
  mode : Choice WatchMode
  action : Choice WatchActionRequest
deriving DecidableEq, Repr

/-- The part of the setup record a SETUP WRITE carries (R191). -/
inductive SetupPart where
  | general (g : GeneralSetup)
  | bells (b : BellSetupRequest)
  | lane (index : Nat) (l : LaneSetupRequest)
  | watch (index : Nat) (w : WatchRequest)
  | stations (entries : List (Option (Nat × Choice StationClass)))
deriving DecidableEq, Repr

/-- The part of the setup record a SETUP READ names (R191). -/
inductive SetupName where
  | general
  | bells
  | lane (index : Nat)
  | watch (index : Nat)
  | stations
deriving DecidableEq, Repr

/-- What OUTPUT HOLD asks for its outputs: hold off, or hold on with a held level (R161). -/
inductive HoldRequest where
  | off
  | held (level : Bool)
deriving DecidableEq, Repr

/-- The levels sampled at one sample of one group (R154): level 1 of a contact is OPEN, of a request-to-exit active
(log entry 15). -/
inductive Sample where
  | general (levels : InputSet)
  | contacts (doors exits : LaneSet)
  | encoders (a b : LaneSet)
deriving DecidableEq, Repr

/-- The orders a station can send (R188). -/
inductive OrderName where
  | clockSet | clockSlew | clockTrim | clockRead
  | rosterEnrol | rosterAmend | rosterWithdraw | rosterRead | rosterPurge | presenceSet | presenceClear
  | ruling
  | laneMode | laneRelease | laneRead
  | bellRing | bellStop
  | outputHold | egressEnd
  | loadBegin | loadRows | loadEnd | bankSwitch | tableRead
  | spoolTake | spoolClear
  | status | setupWrite | setupRead | restart
deriving DecidableEq, Repr

/-- The commands of the GT840: one constructor for each row of spec/opcode_table.json. -/
inductive Instr where
  /-- CLOCK SET order (R12). -/
  | clockSet (day second offset : Nat)
  /-- CLOCK SLEW order (R13). -/
  | clockSlew (seconds : Int)
  /-- CLOCK TRIM order (R14). -/
  | clockTrim (trim : Int)
  /-- CLOCK READ order (R15). -/
  | clockRead
  /-- The current second of plant time ends (R1). -/
  | secondEnd
  /-- A receiving block takes the boundary it has been given (R7). -/
  | secondBoundary (receiver : Receiver)
  /-- The deadline list's head is due at the boundary the Record Unit has been given (R102). -/
  | deadlineExpiry
  /-- A receiving block takes a step notice (R8). -/
  | stepNotice (receiver : Receiver)
  /-- A receiving block takes a resumption notice (R9). -/
  | resumptionNotice (receiver : Receiver)
  /-- The pending switch is due at the minute boundary the Bank Store has been given (R173). -/
  | pendingSwitchDue
  /-- ROSTER ENROL order (R21). -/
  | rosterEnrol (badge payClass pattern : Nat) (lanes : LaneSet)
  /-- ROSTER AMEND order (R22). -/
  | rosterAmend (badge : Nat) (payClass pattern : Option Nat) (lanes : Option LaneSet) (resetUnrecorded : Bool)
  /-- ROSTER WITHDRAW order (R23). -/
  | rosterWithdraw (badge : Nat) (force : Bool)
  /-- ROSTER READ order (R25). -/
  | rosterRead (key : RosterKey)
  /-- ROSTER PURGE order (R26). -/
  | rosterPurge (address : Nat)
  /-- PRESENCE SET order (R28). -/
  | presenceSet (badge : Nat) (value : Choice PresenceRead)
  /-- PRESENCE CLEAR order (R29). -/
  | presenceClear
  /-- The part sends its oldest verdict and polls the next head (R38). -/
  | poll
  /-- The reply window of the poll closes (R39). -/
  | pollTimeout
  /-- A well-formed IDLE frame arrives from a head (R38). -/
  | idle (head : Head)
  /-- A garbled answer arrives (R38). -/
  | garbledAnswer
  /-- Characters arrive outside a reply window (R38). -/
  | strayCharacters
  /-- A well-formed PUNCH frame arrives from a head (R42). -/
  | punch (head : Head) (badge : BitVec 32) (intent : Intent)
  /-- A lane's referral timeout expires (R61). -/
  | referralTimeout (lane : LaneId)
  /-- RULING order (R59). -/
  | ruling (lane badge : Nat) (decision : Choice Decision) (fields : Option EnrolFields)
  /-- A lane's debounced door contact goes OPEN (R75). -/
  | doorOpening (lane : LaneId)
  /-- A lane's debounced door contact goes CLOSED (R74). -/
  | doorClosing (lane : LaneId)
  /-- A lane's release expiry is reached (R76). -/
  | releaseExpiry (lane : LaneId)
  /-- A lane's held-open timer expires (R79). -/
  | heldOpenExpiry (lane : LaneId)
  /-- A lane's debounced request-to-exit input becomes active (R80). -/
  | requestToExit (lane : LaneId)
  /-- A lane's exit allowance runs out (R80). -/
  | exitAllowanceExpiry (lane : LaneId)
  /-- A lane's debounced encoder pair changes to (a, b) (R81). -/
  | encoderChange (lane : LaneId) (a b : Bool)
  /-- A waiting grant's wait limit runs out (R87). -/
  | interlockWaitExpiry (lane : LaneId)
  /-- A lane's dead time after its partner's last closing comes to its end (R86). -/
  | deadTimeEnd (lane : LaneId)
  /-- LANE MODE order (R88). -/
  | laneMode (lanes : LaneSet) (mode : Choice LaneMode)
  /-- LANE RELEASE order (R89). -/
  | laneRelease (lane : Nat) (dir : Choice Dir)
  /-- LANE READ order (R90). -/
  | laneRead (lane : Nat)
  /-- BELL RING order (R143). -/
  | bellRing (outputs : BellSet) (tone duration : Nat)
  /-- BELL STOP order (R144). -/
  | bellStop (outputs : BellSet)
  /-- A ring reaches its end (R141). -/
  | ringEnd (bell : BellId)
  /-- A ring's cadence passes between its phases (R140). -/
  | cadencePhaseChange (bell : BellId)
  /-- One group's lines are sampled (R154). -/
  | debounceSample (sample : Sample)
  /-- A watch that a delivery or a status has made to fire performs its firing (R158). -/
  | watchFire (watch : WatchId)
  /-- OUTPUT HOLD order (R161). -/
  | outputHold (releases : LaneSet) (bells : BellSet) (hold : HoldRequest)
  /-- EGRESS END order (R164). -/
  | egressEnd
  /-- LOAD BEGIN order (R169). -/
  | loadBegin (kind : Choice LoadKind)
  /-- LOAD ROWS order (R170). -/
  | loadRows (table : Choice TableName) (first : Nat) (rows : List Row)
  /-- LOAD END order (R171). -/
  | loadEnd
  /-- BANK SWITCH order (R172). -/
  | bankSwitch (time : SwitchTime)
  /-- TABLE READ order (R175). -/
  | tableRead (bank : Choice BankSelector) (table : Choice TableName) (first count : Nat)
  /-- SPOOL TAKE order (R182). -/
  | spoolTake (start count : Nat)
  /-- SPOOL CLEAR order (R183). -/
  | spoolClear (through : Nat)
  /-- The Record Unit moves waiting totals after a room report (R110). -/
  | moveWaitingTotals
  /-- STATUS order (R192). -/
  | status
  /-- SETUP WRITE order (R191). -/
  | setupWrite (part : SetupPart)
  /-- SETUP READ order (R191). -/
  | setupRead (name : SetupName)
  /-- RESTART order (R193). -/
  | restart
  /-- Each block takes the warm restart (R193). -/
  | warmRestart
  /-- The bytes of one plant link frame, from its start mark to its last byte, have arrived (R187). -/
  | frameReceipt (bytes : List Byte)
  /-- A frame stops for more than 50 ms before its last byte (R187). -/
  | receiveTimeout
  /-- The oldest buffered frame is dispatched (R188). -/
  | frameDispatch
  /-- The oldest frame of the transmit queue has been sent (R189). -/
  | frameSent
  /-- The silence timer expires (R190). -/
  | silenceTimeout
  /-- The main supply falls below threshold (R194). -/
  | supplyHold
  /-- The main supply returns above threshold (R195). -/
  | supplyReturn
  /-- The backup supply is lost (R196). -/
  | backupLoss
  /-- Supply returns after both supplies were lost (R196). -/
  | powerOn
  /-- A frame's length field, above 1,024, has arrived (R187). -/
  | frameLengthBad (length : Nat)
deriving DecidableEq, Repr

end Sys2Proof
end

