-- ==== Sys2Proof/Decode.lean ====
section
/-!
DEFINITION. The command a word spells by the bits of spec/opcode_table.json. The table gives no row any bits: the manual's
commands are orders whose codes it does not give, and events (11, Layouts; log entry 2). So no word spells a command here;
what the manual does give of the bytes on the part's lines stands in Machine/Frames.lean.
-/
namespace Sys2Proof

/-- The command that a word of `nbits` bits spells by the table's bits: none, since no row of the table has bits (log
entry 5). -/
def decodeTableWord (_nbits _w : Nat) : Option Instr := none

end Sys2Proof
end

