-- ==== Sys2Proof/Machine/State.lean ====
section
/-!
DEFINITION. The state of the GT840 as plain data, block by block, the reasons a step can stop, and the state after
power-on. Each field names the rule that gives it; a field the manual only implies is marked as the model's own.
-/
namespace Sys2Proof.Machine

/-- The reasons a step can end in a fault. There is none: the manual gives every command of the table an effect in every
state, so no meaning answers a fault. -/
inductive Fault where
deriving DecidableEq, Repr

/-- The reasons a step can be refused. -/
inductive Refusal where
  /-- Raised by `exec` for a command that has no meaning yet; no arm does so now. Safe: the model stops where the part
  goes on. -/
  | notModelled (mnemonic : String)
deriving DecidableEq, Repr

/-! ## Time Base (01) -/

/-- The Time Base's state (01, table; R1–R15). -/
structure TimeBase where
  /-- clock state: VALID or INVALID -/
  valid : Bool
  /-- day number, 0–65,535 -/
  day : Nat
  /-- second of day, 0–86,399 -/
  second : Nat
  /-- prescaler count: crystal periods counted into the current second -/
  prescaler : Nat
  /-- the length of the current second in crystal periods, fixed when it began (R1) -/
  length : Nat
  /-- whether the slew remainder acts on the current second: it was not 0 when the second began, and no CLOCK SLEW has
  replaced it since (R3, R13) -/
  slewing : Bool
  /-- trim, −255 to +255 -/
  trim : Int
  /-- slew remainder, in sixty-fourths of a second -/
  slew : Int
  /-- step count, wrapping -/
  stepCount : Nat
  /-- hold count, wrapping -/
  holdCount : Nat
  /-- hold-begin stamp, or absent -/
  holdBegin : Option Stamp
  /-- the clock ran off its range in the present supply hold, so CLOCK_LOST waits for the return (R9) -/
  lostInHold : Bool
  /-- weekday offset, 0–6 -/
  weekdayOffset : Nat
  /-- elapsed time in ms, saturating (R4) -/
  elapsed : Elapsed
  /-- the fraction of a millisecond carried on, in 32,768ths (R4) -/
  phase : Nat
deriving DecidableEq, Repr

/-! ## Shift records and totals (05, 06) -/

/-- The flags of a record and of its total (R107). -/
structure RecordFlags where
  offWindow : Bool
  unscheduled : Bool
  missingOut : Bool
  withdrawn : Bool
  breakOpen : Bool
  clockStepped : Bool
  hold : Bool
  rulesChanged : Bool
  negative : Bool
  capped : Bool
deriving DecidableEq, Repr

/-- No flag set. -/
def RecordFlags.none : RecordFlags := ⟨false, false, false, false, false, false, false, false, false, false⟩

/-- A break pair: an out stamp and an in stamp, the latter absent while the break is open (R100). -/
structure BreakPair where
  out : Stamp
  back : Option Stamp
deriving DecidableEq, Repr

/-- A finished shift total (R131). Stamps are absolute seconds. -/
structure ShiftTotal where
  badge : Nat
  slot : Nat
  payClass : Nat
  pattern : Nat
  generation : Nat
  schedStart : Stamp
  schedEnd : Stamp
  anchorWeek : Nat
  inStamp : Stamp
  outStamp : Stamp
  effIn : Stamp
  effOut : Stamp
  gross : Nat
  breaks : Nat
  unpaidBreak : Nat
  meal : Nat
  worked : Nat
  regular : Nat
  dailyOver : Nat
  weeklyOver : Nat
  night : Nat
  holiday : Bool
  pay : Nat
  flags : RecordFlags
deriving DecidableEq, Repr

/-- What an open record holds beside its state and deadline (05, table of fields). -/
structure RecordData where
  inStamp : Stamp
  pattern : Nat
  schedStart : Stamp
  schedEnd : Stamp
  anchorDay : Nat
  anchorWeek : Nat
  breaks : List BreakPair
  generation : Nat
  stepCount : Nat
  holdCount : Nat
  flags : RecordFlags
deriving DecidableEq, Repr

/-- A shift record in one of its four states, each with the fields that state holds (R94). -/
inductive ShiftRecord where
  | off
  | onShift (data : RecordData) (deadline : Stamp)
  | onBreak (data : RecordData) (deadline : Stamp)
  | closedWaiting (data : RecordData) (outStamp : Stamp) (total : ShiftTotal)
deriving DecidableEq, Repr

/-! ## Roster Store (02) -/

/-- The status a slot's own words hold. DAMAGED stands apart, in the damage map (R17, R34). -/
inductive SlotStatus where
  | free
  | active
  | withdrawn
deriving DecidableEq, Repr

/-- The condition of a slot's protected words: how many hold one flipped bit, and whether any holds two (R33, R34;
log entry 17). -/
structure WordErrors where
  single : Nat
  double : Bool
deriving DecidableEq, Repr

/-- A roster slot (02, table of fields). -/
structure Slot where
  status : SlotStatus
  badge : Option Nat
  payClass : Nat
  pattern : Nat
  lanes : LaneSet
  inside : Bool
  presenceStamp : Nat
  weekIndex : Nat
  weekTotal : Nat
  lastPunch : Option (Stamp × Head)
  unrecorded : Nat
  mark : Option LaneId
  record : ShiftRecord
  errors : WordErrors
deriving DecidableEq, Repr

/-- A FREE slot with every field at its FREE value and fresh codes (R17). -/
def Slot.freeSlot : Slot :=
  { status := .free, badge := .none, payClass := 0, pattern := 0, lanes := 0, inside := false, presenceStamp := 0,
    weekIndex := 0, weekTotal := 0, lastPunch := .none, unrecorded := 0, mark := .none, record := .off,
    errors := ⟨0, false⟩ }

/-- The Roster Store's state (02). -/
structure Roster where
  /-- the slots that are not FREE at their FREE values, by address 0–6,143 -/
  slots : Tab Slot
  /-- the damage map: the addresses marked DAMAGED, held apart from the slots -/
  damage : Tab Bool
  /-- presence epoch, 1–65,535 -/
  epoch : Nat
  /-- corrected-error count, saturating -/
  corrected : Nat
  /-- damaged-slot count -/
  damagedCount : Nat
  /-- occupied-slot count -/
  occupiedCount : Nat
deriving DecidableEq, Repr

/-- The Record Unit's lists (05): slot references, the deadline list earliest first, the closure queue oldest first. -/
structure RecordUnit where
  deadlines : List Nat
  closureQueue : List Nat
  /-- a room report of the Spool that the Record Unit has not yet taken (R184; the model's own) -/
  roomReported : Bool
deriving DecidableEq, Repr

/-! ## Punch Unit (03) -/

/-- The classification of a punch (R48). -/
inductive Classification where
  | clockIn
  | clockOut
  | breakOut
  | breakIn
  | passIn
  | passOut
deriving DecidableEq, Repr

/-- The causes of a PUNCH_NOTE (R56). -/
inductive NoteCause where
  | missAdmitted
  | duplicateIn
  | breakLimit
  | passbackSoft
  | offWindow
  | notRecorded
deriving DecidableEq, Repr

/-- Verdict codes (R43). -/
inductive VerdictCode where
  | release
  | releaseNoted
  | wait
  | busy
  | again
  | finish
  | denyUnknown
  | denyLane
  | denyWindow
  | denyPassback
  | denyLocked
  | denyInUse
  | denyInterlock
  | denyRefused
deriving DecidableEq, Repr

/-- Display messages (R43). -/
inductive Message where
  | none
  | inward
  | outward
  | breakOut
  | back
  | pass
deriving DecidableEq, Repr

/-- A verdict (R43). -/
structure Verdict where
  code : VerdictCode
  message : Message
  notRecorded : Bool
deriving DecidableEq, Repr

/-- A verdict queued for a head (R40). -/
structure QueuedVerdict where
  head : Head
  verdict : Verdict
deriving DecidableEq, Repr

/-- The punch whose grant a lane holds (R53; a visitor's has no slot, R45). -/
structure HandedPunch where
  head : Head
  badge : Nat
  stamp : Option Stamp
  slot : Option Nat
  /-- absent for a visitor's punch (R45) -/
  cls : Option Classification
  /-- the classification that R52 replaced -/
  original : Option Classification
  notes : List NoteCause
  notRecorded : Bool
  offWindow : Bool
deriving DecidableEq, Repr

/-- A referral wait (R58). -/
structure ReferralWait where
  head : Head
  badge : Nat
  intent : Intent
  stamp : Option Stamp
  expiry : Elapsed
deriving DecidableEq, Repr

/-- A head's status and miss count (R39). -/
structure HeadState where
  silent : Bool
  misses : Nat
deriving DecidableEq, Repr

/-- A poll whose reply window is open (R38; implied by "outstanding"). -/
structure OpenPoll where
  head : Head
  expiry : Elapsed
deriving DecidableEq, Repr

/-- The Punch Unit's state (03). -/
structure PunchUnit where
  /-- the head polled last, or none -/
  position : Option Head
  /-- the poll outstanding, or none -/
  outstanding : Option OpenPoll
  /-- status and miss count of the heads, index = address − 1 -/
  heads : Vector HeadState 16
  /-- gate line error count, saturating -/
  lineErrors : Nat
  /-- the verdict queue, oldest first -/
  verdicts : List QueuedVerdict
  /-- handed punch per lane -/
  handed : Vector (Option HandedPunch) 8
  /-- referral wait per lane -/
  waits : Vector (Option ReferralWait) 8
  /-- the verdict last sent on the gate line (the model's own monitor) -/
  lastSent : Option QueuedVerdict
deriving DecidableEq, Repr

/-! ## Lane Controller (04) -/

/-- A lane setup in force or pending (R64). -/
structure LaneSetup where
  kind : LaneKind
  entryEnable : Bool
  exitEnable : Bool
  /-- seconds -/
  releaseTime : Nat
  releaseMode : ReleaseMode
  /-- seconds -/
  heldLimit : Nat
  passageStep : Nat
  passback : PassbackPolicy
  referral : Bool
  miss : MissPolicy
  partner : Option LaneId
  /-- tenths of a second -/
  deadTime : Nat
  /-- seconds -/
  waitLimit : Nat
  fail : FailMode
deriving DecidableEq, Repr

/-- The default lane setup (R64). -/
def LaneSetup.default : LaneSetup :=
  { kind := .unused, entryEnable := true, exitEnable := true, releaseTime := 5, releaseMode := .pulse, heldLimit := 30,
    passageStep := 24, passback := .off, referral := false, miss := .deny, partner := .none, deadTime := 20,
    waitLimit := 5, fail := .failSecure }

/-- Who a grant is for (04, grant record). -/
inductive GrantKind where
  | worker
  | visitor
  | remote
  | exitRequest
deriving DecidableEq, Repr

/-- A grant's phase (04, grant record). -/
inductive GrantPhase where
  | waiting
  | released
deriving DecidableEq, Repr

/-- A grant record (04). -/
structure Grant where
  kind : GrantKind
  dir : Dir
  slot : Option Nat
  /-- the punch's read stamp and classification, for WORKER and VISITOR grants; a visitor's punch has no classification -/
  punch : Option (Option Stamp × Option Classification)
  phase : GrantPhase
  waitEntry : Elapsed
  waitExpiry : Elapsed
  releaseExpiry : Option Elapsed
  passageSeen : Bool
deriving DecidableEq, Repr

/-- A lane's activity state (R70). -/
inductive Activity where
  | idle
  | referralWait
  | interlockWait
  | released
deriving DecidableEq, Repr

/-- A lane's state (04, table). -/
structure Lane where
  setup : LaneSetup
  pendingSetup : Option LaneSetup
  mode : LaneMode
  remembered : Option AskMode
  activity : Activity
  grant : Option Grant
  /-- door status: OPEN -/
  doorOpen : Bool
  lastClosing : Option Elapsed
  /-- the dead time after the partner's last closing has not yet been taken as ended (R84, R86; the model's own; log entry
  16) -/
  deadRuns : Bool
  /-- held state: HELD -/
  held : Bool
  heldTimer : Option Elapsed
  exitAllowance : Option Elapsed
  encoder : Int
  /-- decoder pair (A, B) -/
  decoderA : Bool
  decoderB : Bool
  /-- requested level of the release output -/
  requested : Bool
deriving DecidableEq, Repr

/-- A lane after power-on (R93, table). -/
def Lane.initial : Lane :=
  { setup := .default, pendingSetup := .none, mode := .secure, remembered := .none, activity := .idle, grant := .none,
    doorOpen := false, lastClosing := .none, deadRuns := false, held := false, heldTimer := .none, exitAllowance := .none, encoder := 0,
    decoderA := false, decoderB := false, requested := false }

/-! ## Schedule Unit (07) -/

/-- The kind of a ring (07, ring record). -/
inductive RingKind where
  | ordinary
  | evacuation
deriving DecidableEq, Repr

/-- A ring in progress (07, ring record), with its present phase and the time of the next phase change (R140). -/
structure Ring where
  kind : RingKind
  frequency : Nat
  /-- tenths of a second -/
  onTime : Nat
  /-- tenths of a second; 0 means continuous -/
  offTime : Nat
  cadenceStart : Elapsed
  finish : Option Elapsed
  onPhase : Bool
  nextPhase : Option Elapsed
deriving DecidableEq, Repr

/-- What is asked of, or driven on, a bell output (07, 08). -/
inductive BellLevel where
  | off
  | steady
  | tone (frequency : Nat)
deriving DecidableEq, Repr

/-- The evacuation set: the outputs an evacuation rings, and the index of its tone pattern, which a change of the setup record
does not reach before the next evacuation (R146, R163; log entry 42). -/
structure EvacSet where
  outputs : BellSet
  tone : Nat
deriving DecidableEq, Repr

/-- The Schedule Unit's state (07). -/
structure ScheduleUnit where
  rings : Vector (Option Ring) 8
  evacSet : Option EvacSet
  requested : Vector BellLevel 8
deriving DecidableEq, Repr

/-! ## Input Sampler (08) -/

/-- A sampled line: its debounced level, its run count, and the level the run counts while the line is acquired (R154,
R155). -/
structure Line where
  level : Option Bool
  run : Nat
  last : Bool
deriving DecidableEq, Repr

/-- A line that has not been acquired (R155). -/
def Line.absent : Line := ⟨.none, 0, false⟩

/-- A watch's action as held (R156). -/
inductive WatchAction where
  | alarm
  | evacuate
  | lanes (set : LaneSet) (mode : AskMode)
  | bell (index : Nat)
deriving DecidableEq, Repr

/-- A watch's settings as held in the setup record (R156). -/
structure WatchSettings where
  enable : Bool
  mask : InputSet
  compare : InputSet
  mode : WatchMode
  action : WatchAction
deriving DecidableEq, Repr

/-- A watch after power-on (R156). -/
def WatchSettings.initial : WatchSettings := ⟨false, 0, 0, .change, .alarm⟩

/-- What a watch captured at its last firing (R158). -/
structure Capture where
  levels : InputSet
  stamp : Option Stamp
deriving DecidableEq, Repr

/-- A change the Input Sampler has delivered and its block has not yet taken (R154, R157; the model's own; log entry
10). -/
inductive Delivery where
  | door (lane : LaneId) (isOpen : Bool)
  | exitRequest (lane : LaneId)
  | encoder (lane : LaneId) (a b : Bool)
  | watch (watch : WatchId)
deriving DecidableEq, Repr

/-- The Input Sampler's state (08). -/
structure InputSampler where
  general : Vector Line 16
  doors : Vector Line 8
  exits : Vector Line 8
  encodersA : Vector Line 8
  encodersB : Vector Line 8
  /-- when each group is next sampled, general, contacts and encoders (the model's own, R154; log entry 21) -/
  nextGeneral : Elapsed
  nextContacts : Elapsed
  nextEncoders : Elapsed
  /-- equality state EQUAL, per watch -/
  equal : Vector Bool 4
  captures : Vector (Option Capture) 4
  /-- output holds: off, or on with a held level -/
  releaseHolds : Vector (Option Bool) 8
  bellHolds : Vector (Option Bool) 8
  /-- driven levels -/
  drivenRelease : Vector Bool 8
  drivenBell : Vector BellLevel 8
  /-- evacuation state: EVACUATING -/
  evacuating : Bool
  startingWatch : Option WatchId
  /-- changes delivered and not yet taken -/
  deliveries : List Delivery
deriving DecidableEq, Repr

/-! ## Bank Store (09) -/

/-- A rule bank's five tables (R167). -/
structure Bank where
  payClasses : Vector PayClass 16
  patterns : Vector ShiftPattern 64
  schedule : Vector ScheduleEntry 128
  tones : Vector TonePattern 8
  holidays : Vector (Option Nat) 32
deriving DecidableEq, Repr

/-- The power-on pay class (06, Pay classes). -/
def payClassInitial : PayClass :=
  { unit := 1, rounding := .listed .nearest, inEarly := 0, inLate := 0, outEarly := 0, outLate := 0, earlyPaid := true,
    latePaid := true, paidBreak := 0, mealThreshold := 0, mealLength := 0, dailyThreshold := 1440,
    weeklyThreshold := 10080, overtimeRate := 100, nightPremium := 0, holidayRate := 100, nightStart := 0, nightEnd := 0,
    autoClose := 960, admitEarly := 0, admitLate := 0, anyTime := false }

/-- The power-on shift pattern: unused (R167). -/
def patternInitial : ShiftPattern := ⟨0, 0, 0⟩

/-- The power-on schedule entry: unused, RING, FIXED at second 0 (R135; log entry 19). -/
def entryInitial : ScheduleEntry :=
  { kind := .listed .ring, basis := .listed .fixed, second := 0, pattern := 0, anchor := .listed .start, offset := 0,
    mask := 0, bells := 0, tone := 0, duration := 1, lanes := 0, mode := .listed .secure }

/-- The power-on tone pattern: steady and continuous (R139). -/
def toneInitial : TonePattern := ⟨0, 10, 0⟩

/-- A bank of power-on rows (R167). -/
def Bank.initial : Bank :=
  { payClasses := Vector.replicate 16 payClassInitial, patterns := Vector.replicate 64 patternInitial,
    schedule := Vector.replicate 128 entryInitial, tones := Vector.replicate 8 toneInitial,
    holidays := Vector.replicate 32 .none }

/-- The two banks by name. -/
inductive BankName where
  | bankA
  | bankB
deriving DecidableEq, Repr

/-- The standby state (R168). -/
inductive StandbyState where
  | stale
  | loading
  | ready
  | rejected
deriving DecidableEq, Repr

/-- The fields of the rows of a bank, as LOAD END names them (R171). -/
inductive RowField where
  | unit | rounding | inEarly | inLate | outEarly | outLate | paidBreak | mealThreshold | mealLength | dailyThreshold
  | weeklyThreshold | overtimeRate | nightPremium | holidayRate | nightStart | nightEnd | autoClose | admitEarly | admitLate
  | start | length
  | kind | basis | second | pattern | anchor | offset | tone | duration | mode
  | frequency | onTime | offTime
  | day
deriving DecidableEq, Repr

/-- The reasons of a fault found by LOAD END (R171). -/
inductive FaultReason where
  | range
  | toneIndex
  | unusedPattern
  | duplicateHoliday
deriving DecidableEq, Repr

/-- The fault that made LOAD END reject the standby (R171). -/
structure LoadFault where
  table : TableName
  row : Nat
  field : RowField
  reason : FaultReason
deriving DecidableEq, Repr

/-- A pending switch: its target minute boundary, and whether the order named it (R172). -/
structure PendingSwitch where
  target : Stamp
  timed : Bool
deriving DecidableEq, Repr

/-- The Bank Store's state (09). -/
structure BankStore where
  bankA : Bank
  bankB : Bank
  active : BankName
  standby : StandbyState
  generation : Nat
  pending : Option PendingSwitch
  lastFault : Option LoadFault
deriving DecidableEq, Repr

/-! ## Spool (10) -/

/-- The causes of a LANE_ALARM (R67, R39). -/
inductive AlarmCause where
  | forced
  | heldBegin
  | heldEnd
  | tailgate
  | reverse
  | encoderError
  | headSilent
  | headBack
deriving DecidableEq, Repr

/-- The step kind of a CLOCK_SET entry (R12). -/
inductive StepKind where
  | first
  | forward
  | backward
  | none
deriving DecidableEq, Repr

/-- How an evacuation ended (R164, R165). -/
inductive EvacEnd where
  | order
  | supplyReturn
deriving DecidableEq, Repr

/-- The cause of a SYSTEM entry with its detail (R178). -/
inductive SystemCause where
  | clockSet (old : Option Stamp) (offset : Nat) (kind : StepKind)
  | clockLost
  | bankSwitch (active : BankName) (generation : Nat) (timed : Bool)
  | evacBegin (watch : WatchId) (levels : InputSet)
  | evacEnd (how : EvacEnd)
  | watch (watch : WatchId) (levels : InputSet) (action : WatchAction)
  | holdBegin (count : Nat)
  | holdEnd (beginStamp : Option Stamp)
  | rosterDamage (address : Nat)
deriving DecidableEq, Repr

/-- A spool entry's kind with the fields of its kind (R177). -/
inductive Entry where
  | shiftTotal (total : ShiftTotal)
  | punchNote (stamp : Option Stamp) (lane : LaneId) (head : Head) (badge : Nat) (cls : Classification)
      (cause : NoteCause)
  | laneAlarm (stamp : Option Stamp) (lane : LaneId) (cause : AlarmCause)
  | system (stamp : Option Stamp) (cause : SystemCause)
deriving DecidableEq, Repr

/-- An entry held, with its sequence number (R179). -/
structure SpoolEntry where
  seq : Nat
  entry : Entry
deriving DecidableEq, Repr

/-- The Spool's state (10). -/
structure Spool where
  entries : List SpoolEntry
  next : Nat
  dropped : Nat
deriving DecidableEq, Repr

/-! ## Replies, reports and the Link Controller (11) -/

/-- Reply codes (R188). -/
inductive ReplyCode where
  | ok
  | okClamped
  | unknownStation
  | notPermitted
  | badOrder
  | outOfRange
  | busy
  | notFound
  | duplicate
  | full
  | wrongState
  | tooLate
  | clockInvalid
  | openRecord
deriving DecidableEq, Repr

/-- The reply fields of CLOCK READ (R15). -/
structure ClockReport where
  valid : Bool
  day : Nat
  second : Nat
  weekdayOffset : Nat
  dayType : Option Nat
  weekIndex : Option Nat
  trim : Int
  slew : Int
  stepCount : Nat
  holdCount : Nat
  elapsed : Elapsed
deriving DecidableEq, Repr

/-- A slot's status as reported, DAMAGED among them (R25). -/
inductive ReportedStatus where
  | free
  | active
  | withdrawn
  | damaged
deriving DecidableEq, Repr

/-- The fields ROSTER READ gives of an ACTIVE or WITHDRAWN slot (R25, R94). -/
structure SlotFields where
  badge : Option Nat
  payClass : Nat
  pattern : Nat
  lanes : LaneSet
  presence : PresenceRead
  presenceStamp : Nat
  weekIndex : Nat
  weekTotal : Nat
  lastPunch : Option (Stamp × Head)
  unrecorded : Nat
  mark : Option LaneId
  record : ShiftRecord
  /-- the place in the closure queue of a CLOSED_WAITING record, counted from 1 -/
  place : Option Nat
deriving DecidableEq, Repr

/-- One slot of a ROSTER READ reply (R25). -/
structure SlotReport where
  address : Nat
  status : ReportedStatus
  fields : Option SlotFields
deriving DecidableEq, Repr

/-- The reply fields of LANE READ (R90). -/
structure LaneReport where
  setup : LaneSetup
  pendingSetup : Option LaneSetup
  mode : LaneMode
  remembered : Option AskMode
  partner : Option LaneId
  activity : Activity
  grant : Option Grant
  /-- ms of the release time or the wait time remaining -/
  remaining : Option Nat
  doorOpen : Bool
  held : Bool
  sinceClosing : Option Nat
  encoder : Int
  exitAllowance : Bool
  requested : Bool
  driven : Bool
  entryHead : HeadState
  exitHead : HeadState
  lineErrors : Nat
deriving DecidableEq, Repr

/-- What BELL RING did at an output (R143). -/
inductive RingAnswer where
  | started
  | takenOver
  | ignored
deriving DecidableEq, Repr

/-- The bank summary of a TABLE READ reply (R175). -/
structure BankSummary where
  active : BankName
  standby : StandbyState
  generation : Nat
  pending : Option Stamp
  lastFault : Option LoadFault
deriving DecidableEq, Repr

/-- The kind of the last reset (11). -/
inductive ResetCause where
  | powerOn
  | warm
  | supplyReturn
deriving DecidableEq, Repr

/-- The reply fields of STATUS (R192). -/
structure StatusReport where
  resetCause : ResetCause
  clockValid : Bool
  online : Bool
  evacuating : Bool
  active : BankName
  standby : StandbyState
  generation : Nat
  spoolHeld : Nat
  closureQueue : Nat
  dropped : Nat
  linkErrors : Nat
  corrected : Nat
  damagedSlots : Nat
  occupiedSlots : Nat
deriving DecidableEq, Repr

/-- The bells part of the setup record as held: the outputs whose kind is TONE (the others are RELAY), the evacuation
outputs and the evacuation tone (R139). -/
structure BellSetup where
  toneOutputs : BellSet
  evacOutputs : BellSet
  evacTone : Nat
deriving DecidableEq, Repr

/-- An entry of the station table that is not EMPTY (R188). -/
structure Station where
  id : Nat
  cls : StationClass
deriving DecidableEq, Repr

/-- A part of the setup record as SETUP READ and SETUP WRITE return it (R64, R156, R191). -/
inductive SetupReport where
  | general (g : GeneralSetup)
  | bells (b : BellSetup)
  | lane (inForce : LaneSetup) (pending : Option LaneSetup)
  | watch (w : WatchSettings) (equal : Bool) (capture : Option Capture)
  | stations (t : Vector (Option Station) 4)
deriving DecidableEq, Repr

/-- What a reply carries beside its code (each order's rule). -/
inductive ReplyBody where
  | none
  | clock (r : ClockReport)
  | slot (address : Nat)
  | slotPresence (address : Nat) (presence : PresenceRead)
  | withdrawal (status : ReportedStatus)
  | slots (count : Nat) (reports : List SlotReport)
  | epoch (epoch : Nat)
  | ruling (slot : Option Nat) (verdict : Option VerdictCode)
  | laneModes (modes : List (LaneId × LaneMode × Option AskMode))
  | grant (released : Bool)
  | lane (r : LaneReport)
  | rings (answers : List (BellId × RingAnswer))
  | bellsStopped (outputs : BellSet)
  | holds (releases : List (LaneId × Option Bool × Bool)) (bells : List (BellId × Option Bool × BellLevel))
  | watch (watch : WatchId)
  | rowsWritten (count : Nat)
  | loadResult (state : StandbyState) (fault : Option LoadFault)
  | switchTarget (target : Stamp)
  | generation (generation : Nat)
  | rows (count : Nat) (rows : List Row) (summary : BankSummary)
  | spoolEnds (oldest : Option Nat) (next : Nat)
  | spoolEntries (count : Nat) (entries : List SpoolEntry) (next : Nat)
  | spoolCleared (removed held : Nat) (oldest : Option Nat)
  | status (r : StatusReport)
  | setup (pending : Bool) (part : SetupReport)
deriving DecidableEq, Repr

/-- A reply: its code and its fields (R188). -/
structure Reply where
  code : ReplyCode
  body : ReplyBody
deriving DecidableEq, Repr

/-- The causes of a void (R57). -/
inductive VoidCause where
  | expiry
  | reverse
  | evacuation
  | warmRestart
  | supplyHold
deriving DecidableEq, Repr

/-- A report (R189). -/
inductive Report where
  | pass (stamp : Option Stamp) (lane : LaneId) (head : Head) (badge : Nat) (slot : Option Nat) (cls : Option Classification)
      (notRecorded : Bool)
  | void (stamp : Option Stamp) (lane : LaneId) (head : Head) (badge : Nat) (slot : Option Nat) (cls : Option Classification)
      (cause : VoidCause)
  | referral (stamp : Option Stamp) (lane : LaneId) (head : Head) (badge : Nat) (intent : Intent)
  | alarm (entry : Entry) (seq : Option Nat)
deriving DecidableEq, Repr

/-- A plant link frame as received (R187). -/
structure Frame where
  station : Nat
  code : Nat
  tag : Nat
  payload : List Byte
deriving DecidableEq, Repr

/-- The station id, order code and tag a reply carries back (R188). -/
structure OrderRef where
  station : Nat
  code : Nat
  tag : Nat
deriving DecidableEq, Repr

/-- A frame of the transmit queue (R189). -/
inductive TxFrame where
  | reply (order : OrderRef) (reply : Reply)
  | report (report : Report)
deriving DecidableEq, Repr

/-- An order dispatched and handed to its owning block, which has not yet taken it (R188). -/
structure HandedOrder where
  ref : OrderRef
  order : Instr
deriving DecidableEq, Repr

/-- How far a RESTART has come (R193): its reply waits to be sent, or the restart is due. -/
inductive RestartPhase where
  | none
  | replying
  | due
deriving DecidableEq, Repr

/-- The Link Controller's state (11), without the setup record. -/
structure Link where
  /-- the bytes of the frame in progress, from its start mark; none while the receiver looks for one (R187) -/
  inProgress : List Byte
  /-- the elapsed time at which the frame in progress has stopped for more than 50 ms (R187) -/
  stall : Option Elapsed
  /-- receive buffer, oldest first -/
  received : List Frame
  /-- transmit queue, oldest first -/
  transmit : List TxFrame
  /-- the order handed to its owner (implied by R188) -/
  handed : Option HandedOrder
  online : Bool
  silence : Option Elapsed
  errors : Nat
  restart : RestartPhase
  /-- how many further RESTARTs were taken before the one outstanding has reached the blocks (R193; the model's own) -/
  again : Nat
  /-- the reply an owning block gave last (the model's own monitor) -/
  lastReply : Option Reply
  /-- the frame sent last (the model's own monitor) -/
  lastSent : Option TxFrame
deriving DecidableEq, Repr

/-- The setup record (R191); a lane's setup stands with its lane. -/
structure Setup where
  general : GeneralSetup
  bells : BellSetup
  watches : Vector WatchSettings 4
  stations : Vector (Option Station) 4
deriving DecidableEq, Repr

/-! ## Supply Monitor (11) -/

/-- The supply state (R194–R196). `dark` is the model's own: neither supply, until the power-on that follows. -/
inductive SupplyState where
  | run
  | hold
  | dark
deriving DecidableEq, Repr

/-- The Supply Monitor's state (11). -/
structure Supply where
  state : SupplyState
  resetCause : ResetCause
  /-- whether the backup supply is present (R196) -/
  backup : Bool
  /-- the elapsed time of the last supply return, from which a door found closed counts its closing (R93) -/
  returnedAt : Option Elapsed
deriving DecidableEq, Repr

/-! ## Notices -/

/-- What the Time Base gives its receiving blocks (R7–R9). -/
inductive Notice where
  | boundary (stamp : Stamp)
  | step (fromStamp toStamp : Stamp)
  | resumption (fromStamp toStamp : Stamp)
deriving DecidableEq, Repr

/-- The notices given to each receiving block and not yet taken, oldest first (implied by R7: each block takes its
own; log entry 10). -/
structure Notices where
  recordUnit : List Notice
  scheduleUnit : List Notice
  bankStore : List Notice
  /-- the bank that answers each of the oldest of the Schedule Unit's notices, those given before a switch that has since
  been carried out: the bank active before that switch (R138; the model's own; log entry 46) -/
  oldBanks : List Bank
deriving DecidableEq, Repr

/-! ## The whole part -/

/-- The state of the GT840, and the queue of the commands that wait. -/
structure State where
  time : TimeBase
  roster : Roster
  records : RecordUnit
  punch : PunchUnit
  lanes : Vector Lane 8
  bells : ScheduleUnit
  inputs : InputSampler
  banks : BankStore
  spool : Spool
  link : Link
  setup : Setup
  supply : Supply
  notices : Notices
  pending : List Instr
deriving DecidableEq, Repr

/-- The power-on debounce setting (R154). -/
def debounceInitial : DebounceSetting := ⟨5, 3⟩

/-- The power-on setup record (R191). -/
def Setup.initial : Setup :=
  { general := { repeatGuard := 10, referralTimeout := 3, offlineTimeout := 30, weekStart := 0,
                 generalDebounce := debounceInitial, contactDebounce := debounceInitial,
                 encoderDebounce := debounceInitial },
    bells := { toneOutputs := 0, evacOutputs := 0xFF, evacTone := 0 },
    watches := Vector.replicate 4 .initial,
    stations := Vector.replicate 4 .none }

/-- The Time Base after power-on (R1, R15 table; log entry 19). -/
def TimeBase.initial : TimeBase :=
  { valid := false, day := 0, second := 0, prescaler := 0, length := 32768, slewing := false, trim := 0, slew := 0,
    stepCount := 0, holdCount := 0, holdBegin := .none, lostInHold := false, weekdayOffset := 0, elapsed := 0, phase := 0 }

/-- The Punch Unit after power-on (R63). -/
def PunchUnit.initial : PunchUnit :=
  { position := .none, outstanding := .none, heads := Vector.replicate 16 ⟨false, 0⟩, lineErrors := 0, verdicts := [],
    handed := Vector.replicate 8 .none, waits := Vector.replicate 8 .none, lastSent := .none }

/-- The Input Sampler after power-on (R166). -/
def InputSampler.initial : InputSampler :=
  { general := Vector.replicate 16 .absent, doors := Vector.replicate 8 .absent, exits := Vector.replicate 8 .absent,
    encodersA := Vector.replicate 8 .absent, encodersB := Vector.replicate 8 .absent, nextGeneral := debounceInitial.period,
    nextContacts := debounceInitial.period, nextEncoders := debounceInitial.period, equal := Vector.replicate 4 false, captures := Vector.replicate 4 .none,
    releaseHolds := Vector.replicate 8 .none, bellHolds := Vector.replicate 8 .none,
    drivenRelease := Vector.replicate 8 false, drivenBell := Vector.replicate 8 .off, evacuating := false,
    startingWatch := .none, deliveries := [] }

/-- The part after power-on (the power-on column of every chapter's reset table), with no command waiting (log entry
19). -/
def State.reset : State :=
  { time := .initial,
    roster := { slots := ⟨[]⟩, damage := ⟨[]⟩, epoch := 1, corrected := 0, damagedCount := 0, occupiedCount := 0 },
    records := { deadlines := [], closureQueue := [], roomReported := false },
    punch := .initial,
    lanes := Vector.replicate 8 .initial,
    bells := { rings := Vector.replicate 8 .none, evacSet := .none, requested := Vector.replicate 8 .off },
    inputs := .initial,
    banks := { bankA := .initial, bankB := .initial, active := .bankA, standby := .stale, generation := 0,
               pending := .none, lastFault := .none },
    spool := { entries := [], next := 1, dropped := 0 },
    link := { inProgress := [], stall := .none, received := [], transmit := [], handed := .none, online := false, silence := .none, errors := 0,
              restart := .none, again := 0, lastReply := .none, lastSent := .none },
    setup := .initial,
    supply := { state := .run, resetCause := .powerOn, backup := true, returnedAt := .none },
    notices := { recordUnit := [], scheduleUnit := [], bankStore := [], oldBanks := [] },
    pending := [] }

end Sys2Proof.Machine
end

