-- ==== Sys2Proof/Config.lean ====
section
/-!
DEFINITION. What the manual leaves to an implementation or does not state, as constants WITHOUT A BODY: nothing proved about
the model can rest on a value of one of them. The numbers the manual does state stand where the rules that use them are
modelled, not here.
-/
namespace Sys2Proof.Config

open Sys2Proof.Machine

/-- The order that an order code 01h–6Fh names. The manual says that orders have codes in that range and gives no code of
any order (11, Layouts; R188 check 2). Log entry 2. -/
opaque orderOfCode : Nat → Option OrderName

/-- The order that a payload spells for the name of an order with fields, or none where its length or content does not fit
those fields (R188 check 4). The manual gives no byte layout of any order's payload. Log entry 2. -/
opaque orderOfPayload : OrderName → List Byte → Option Instr

/-- The bytes after the reply code that a reply's fields take, for the replies whose payload the manual does not lay out
(all but SPOOL TAKE's). Log entry 2. -/
opaque replyFields : ReplyBody → List Byte

/-- The payload of a report; the manual lists a report's content and no layout of it (R189). Log entry 2. -/
opaque reportFields : Report → List Byte

/-- The bytes of a spool entry that is no shift total, with its sequence number; the manual says only that they are fewer
than a shift total's (11, Layouts). Log entry 2. -/
opaque entryBytes : Nat → Entry → List Byte

/-- The five bytes that stand for a stamp whose day number does not fit in two bytes (a scheduled end on the day after
day 65,535). The manual gives a layout for day numbers 0–65,535 alone (11, Layouts). Log entry 3. -/
opaque lateStampBytes : Stamp → BitVec 40

end Sys2Proof.Config
end

