-- ==== Sys2Proof/Machine/Ops.lean ====
section
/-!
DEFINITION. The operations every block shares: tables, sets and saturating counts; replacing one block of the state; plant
time and elapsed time; the Spool's admission and the reports it copies; an order's reply. Each cites the rule it follows.
-/
namespace Sys2Proof

/-- The value at a key of a table's cells; an unlisted key reads as `d`. -/
def cellsGet {α : Type} (d : α) : List (Nat × α) → Nat → α
  | [], _ => d
  | (j, v) :: rest, k => if j = k then v else cellsGet d rest k

/-- A table's cells with the value at a key replaced, in canonical form: keys rising, no cell equal to `d`. -/
def cellsPut {α : Type} [DecidableEq α] (d : α) : List (Nat × α) → Nat → α → List (Nat × α)
  | [], k, v => if v = d then [] else [(k, v)]
  | (j, w) :: rest, k, v =>
    if k < j then (if v = d then (j, w) :: rest else (k, v) :: (j, w) :: rest)
    else if k = j then (if v = d then rest else (k, v) :: rest)
    else (j, w) :: cellsPut d rest k v

/-- The value a table holds at a key; an unlisted key reads as `d`. -/
def Tab.get {α : Type} (d : α) (t : Tab α) (k : Nat) : α := cellsGet d t.cells k

/-- The table with the value at a key replaced. -/
def Tab.put {α : Type} [DecidableEq α] (d : α) (t : Tab α) (k : Nat) (v : α) : Tab α := ⟨cellsPut d t.cells k v⟩

/-- The table with every value changed by `f`, in canonical form. -/
def Tab.mapValues {α : Type} [DecidableEq α] (d : α) (f : α → α) (t : Tab α) : Tab α :=
  ⟨(t.cells.map fun c => (c.1, f c.2)).filter fun c => decide (c.2 ≠ d)⟩

/-- The canonical form of a table: its keys strictly rise, and no cell holds what an unlisted key reads as. -/
def Tab.wf {α : Type} [DecidableEq α] (d : α) (t : Tab α) : Bool :=
  decide (t.cells.Pairwise fun a b => a.1 < b.1) && t.cells.all fun c => decide (c.2 ≠ d)

/-- The vector with the element at an index replaced. -/
def putAt {α : Type} {n : Nat} (v : Vector α n) (i : Fin n) (x : α) : Vector α n := v.set i.val x i.isLt

/-- The row of a table at an index a record or an order names; `d` beyond the table. -/
def rowAt {α : Type} {n : Nat} (v : Vector α n) (i : Nat) (d : α) : α := if h : i < n then v[i] else d

/-- Membership of a lane or a bell output in a set. -/
def inSet {n : Nat} (set : BitVec n) (i : Nat) : Bool := set.getLsbD i

/-- A count that rises by `k` and stops at `top`. -/
def satAdd (top n k : Nat) : Nat := min top (n + k)

/-- A count that rises by one and takes 0 after 65,535 (R9, R12, R172). -/
def wrapSucc (n : Nat) : Nat := if n = 65535 then 0 else n + 1

/-- The index of a head: its address − 1 (00, Names). -/
def Head.index (h : Head) : Fin 16 :=
  ⟨2 * h.lane.val + (match h.dir with | .inward => 0 | .outward => 1), by
    have := h.lane.isLt
    cases h.dir <;> simp <;> omega⟩

/-- A head's address, 1–16: 2L+1 for lane L's entry head, 2L+2 for its exit head (00, Names). -/
def Head.address (h : Head) : Nat := h.index.val + 1

/-- All sixteen heads in rising address order. -/
def allHeads : List Head := allLanes.flatMap fun l => [⟨l, .inward⟩, ⟨l, .outward⟩]

/-- The mode a lane mode leaves to remember; EGRESS is never one (R69). -/
def LaneMode.toAsk : LaneMode → AskMode
  | .secure => .secure
  | .free => .free
  | .locked => .locked
  | .egress => .secure

/-- The mode an order or an entry asks for, where it names one that can be asked for (R69, R88). -/
def askOf : Choice LaneMode → Option AskMode
  | .listed .secure => some .secure
  | .listed .free => some .free
  | .listed .locked => some .locked
  | .listed .egress => none
  | .unlisted _ => none

/-- Whether a value is one of the listed ones. -/
def Choice.isListed {α : Type} : Choice α → Bool
  | .listed _ => true
  | .unlisted _ => false

namespace Machine

/-! ## Replacing one block of the state -/

/-- The state with its time replaced. -/
def State.setTime (s : State) (x : TimeBase) : State := { s with time := x }

/-- The state with its roster replaced. -/
def State.setRoster (s : State) (x : Roster) : State := { s with roster := x }

/-- The state with its records replaced. -/
def State.setRecords (s : State) (x : RecordUnit) : State := { s with records := x }

/-- The state with its punch replaced. -/
def State.setPunch (s : State) (x : PunchUnit) : State := { s with punch := x }

/-- The state with its lanes replaced. -/
def State.setLanes (s : State) (x : Vector Lane 8) : State := { s with lanes := x }

/-- The state with its bells replaced. -/
def State.setBells (s : State) (x : ScheduleUnit) : State := { s with bells := x }

/-- The state with its inputs replaced. -/
def State.setInputs (s : State) (x : InputSampler) : State := { s with inputs := x }

/-- The state with its banks replaced. -/
def State.setBanks (s : State) (x : BankStore) : State := { s with banks := x }

/-- The state with its spool replaced. -/
def State.setSpool (s : State) (x : Spool) : State := { s with spool := x }

/-- The state with its link replaced. -/
def State.setLink (s : State) (x : Link) : State := { s with link := x }

/-- The state with its setup replaced. -/
def State.setSetup (s : State) (x : Setup) : State := { s with setup := x }

/-- The state with its supply replaced. -/
def State.setSupply (s : State) (x : Supply) : State := { s with supply := x }

/-- The state with its notices replaced. -/
def State.setNotices (s : State) (x : Notices) : State := { s with notices := x }

/-- The state with its pending replaced. -/
def State.setPending (s : State) (x : List Instr) : State := { s with pending := x }

/-- The state with a lane replaced. -/
def State.setLane (s : State) (l : LaneId) (x : Lane) : State := s.setLanes (putAt s.lanes l x)

/-- A lane of the part. -/
def State.lane (s : State) (l : LaneId) : Lane := s.lanes[l]

/-! ## Plant time and elapsed time (R4, R6) -/

/-- The absolute second of a day number and a second of day (00, Time). -/
def absSecond (day second : Nat) : Stamp := day * 86400 + second

/-- The current stamp, or none while the clock is INVALID (R6). -/
def State.now (s : State) : Option Stamp := if s.time.valid then some (absSecond s.time.day s.time.second) else none

/-- The present elapsed time (R4). -/
def State.elapsed (s : State) : Elapsed := s.time.elapsed

/-- The upper bound of elapsed time (R4). -/
def elapsedTop : Nat := 18446744073709551615

/-- The elapsed time `n` seconds from now. -/
def State.inSeconds (s : State) (n : Nat) : Elapsed := s.elapsed + 1000 * n

/-- The elapsed time `n` tenths of a second from now. -/
def State.inTenths (s : State) (n : Nat) : Elapsed := s.elapsed + 100 * n

/-! ## The Spool's admission and the reports (R179, R180, R189) -/

/-- A report is queued while ONLINE and fewer than 31 frames are queued; while ONLINE and the queue has no room it is
counted; while OFFLINE it is discarded without count (R189). -/
def State.sendReport (s : State) (r : Report) : State :=
  if s.link.online then
    if s.link.transmit.length < 31 then s.setLink { s.link with transmit := s.link.transmit ++ [.report r] }
    else s.setLink { s.link with errors := satAdd 65535 s.link.errors 1 }
  else s

/-- The sequence number after `n`: 1 after 4,294,967,295 (R179). -/
def seqSucc (n : Nat) : Nat := if n = 4294967295 then 1 else n + 1

/-- An entry joins the tail of the entry list with the next sequence number (R179). -/
def State.appendEntry (s : State) (e : Entry) : State :=
  s.setSpool { s.spool with entries := s.spool.entries ++ [⟨s.spool.next, e⟩], next := seqSucc s.spool.next }

/-- LANE_ALARM and SYSTEM entries, admitted or dropped, are handed on for their ALARM report (R180). -/
def State.copyAlarm (s : State) (e : Entry) (seq : Option Nat) : State :=
  match e with
  | .laneAlarm _ _ _ => s.sendReport (.alarm e seq)
  | .system _ _ => s.sendReport (.alarm e seq)
  | .punchNote _ _ _ _ _ _ => s
  | .shiftTotal _ => s

/-- An entry that is no shift total is requested: admitted while fewer than 3,840 are held, dropped and counted otherwise,
and copied as an ALARM report where its kind is (R180). -/
def State.requestEntry (s : State) (e : Entry) : State :=
  if s.spool.entries.length < 3840 then (s.appendEntry e).copyAlarm e (some s.spool.next)
  else (s.setSpool { s.spool with dropped := satAdd 65535 s.spool.dropped 1 }).copyAlarm e none

/-- A shift total is offered: admitted while fewer than 4,096 entries are held, refused otherwise (R180). -/
def State.offerTotal (s : State) (t : ShiftTotal) : Option State :=
  if s.spool.entries.length < 4096 then some (s.appendEntry (.shiftTotal t)) else none

/-- A SYSTEM entry is requested (R178). -/
def State.systemEvent (s : State) (stamp : Option Stamp) (cause : SystemCause) : State :=
  s.requestEntry (.system stamp cause)

/-- A lane alarm is raised: a LANE_ALARM entry with the current stamp, on a lane that is not UNUSED and outside supply hold
(R67). -/
def State.laneAlarm (s : State) (l : LaneId) (cause : AlarmCause) : State :=
  if (s.lane l).setup.kind = .unused ∨ s.supply.state ≠ .run then s
  else s.requestEntry (.laneAlarm s.now l cause)

/-! ## Notices (R7, R8, R9) -/

/-- Notices waiting for a receiving block (R7). -/
def Notices.forBlock (n : Notices) : Receiver → List Notice
  | .recordUnit => n.recordUnit
  | .scheduleUnit => n.scheduleUnit
  | .bankStore => n.bankStore

/-- The notices with those of one block replaced. -/
def Notices.setFor (n : Notices) (r : Receiver) (l : List Notice) : Notices :=
  match r with
  | .recordUnit => { n with recordUnit := l }
  | .scheduleUnit => { n with scheduleUnit := l }
  | .bankStore => { n with bankStore := l }

/-- A notice is given to each of the three receiving blocks (R7, R8, R9). -/
def State.giveNotice (s : State) (x : Notice) : State :=
  s.setNotices { s.notices with
    recordUnit := s.notices.recordUnit ++ [x]
    scheduleUnit := s.notices.scheduleUnit ++ [x]
    bankStore := s.notices.bankStore ++ [x] }

/-- Whether a notice is a boundary (R7). -/
def Notice.isBoundary : Notice → Bool
  | .boundary _ => true
  | .step _ _ => false
  | .resumption _ _ => false

/-- A list of notices without its boundaries. -/
def spansOf (l : List Notice) : List Notice := l.filter fun x => !x.isBoundary

/-- The notices without the boundaries, each notice left keeping the bank that answers it. -/
def Notices.withoutBoundaries (n : Notices) : Notices :=
  { recordUnit := spansOf n.recordUnit
    scheduleUnit := spansOf n.scheduleUnit
    bankStore := spansOf n.bankStore
    oldBanks := ((n.scheduleUnit.zip n.oldBanks).filter fun x => !x.1.isBoundary).map Prod.snd }

/-- The boundaries given and not yet taken are withdrawn as the clock becomes INVALID, and the spans stay (R5, R6; log entry
44). -/
def State.withdrawBoundaries (s : State) : State := s.setNotices s.notices.withoutBoundaries

/-! ## The seconds of plant time (R1, R2, R3, R5) -/

/-- The length of a second in crystal periods, fixed as it begins: 32,768, less or plus 512 by the sign of the slew remainder,
and less the trim where it is the last of its minute (R1). -/
def secondLength (slew trim : Int) (second : Nat) : Nat :=
  (32768 - (if 0 < slew then 512 else if slew < 0 then -512 else 0) - (if second % 60 = 59 then trim else 0)).toNat

/-- A slew remainder moved one unit toward 0 (R3). -/
def towardZero (n : Int) : Int := if 0 < n then n - 1 else if n < 0 then n + 1 else 0

/-- The clock runs off its range: it becomes INVALID at day 65,535 second 86,399 with no slew left, boundaries not yet taken
are withdrawn, since nothing expires, fires or switches while it is INVALID, and a CLOCK_LOST entry is requested. Where a
supply hold lasts the entry waits for the return, and the notices given before the hold stay, as given before the clock counts
as INVALID (R5, R6, R9; log entry 44). -/
def State.endOfRange (s : State) : State :=
  let t := s.setTime { s.time with
    valid := false, prescaler := 0, slew := 0, slewing := false, lostInHold := decide (s.supply.state = .hold) }
  if s.supply.state = .hold then t else t.withdrawBoundaries.systemEvent none .clockLost

/-- Plant time after the current second: the next second of day, or second 0 of the next day (R1). -/
def nextSecond (t : TimeBase) : Nat × Nat := if t.second = 86399 then (t.day + 1, 0) else (t.day, t.second + 1)

/-- The next second begins, its length fixed by the slew remainder and the trim as they stand (R1, R3). -/
def TimeBase.advance (t : TimeBase) : TimeBase :=
  let n := nextSecond t
  let slew := if t.slewing then towardZero t.slew else t.slew
  { t with
    day := n.1, second := n.2, prescaler := 0, slew := slew, slewing := decide (slew ≠ 0)
    length := secondLength slew t.trim n.2 }

/-- The current second ends: the next begins, and outside supply hold its boundary is given to each receiving block; the last
second the clock can count ends its range (R1, R3, R5, R7, R9). -/
def State.endSecond (s : State) : State :=
  if s.time.day = 65535 ∧ s.time.second = 86399 then s.endOfRange
  else
    let t := s.setTime s.time.advance
    if s.supply.state = .run then t.giveNotice (.boundary (absSecond t.time.day t.time.second)) else t

/-- `n` crystal periods are counted into plant time by at most `seconds` looks at the current second, each of which ends where
more are left than it lacks; its last period stays for SECOND_END where none is left beyond it (R1; log entry 9). -/
def State.countPeriods : Nat → State → Nat → State
  | 0, s, _ => s
  | seconds + 1, s, n =>
    let lacking := s.time.length - s.time.prescaler
    if s.time.valid = false then s
    else if n ≤ lacking then s.setTime { s.time with prescaler := s.time.prescaler + n }
    else State.countPeriods seconds s.endSecond (n - lacking)

/-- `n` crystal periods pass: elapsed time advances, 32,768 periods being 1,000 ms with the fraction carried (R4), and while
the clock is VALID they are counted into plant time, every second past its length ending (R1; log entry 9). No second is
shorter than 32,001 periods (R1), which bounds how many can end. -/
def State.passPeriods (s : State) (n : Nat) : State :=
  let total := s.time.elapsed * 32768 + s.time.phase + 1000 * n
  State.countPeriods (n / 32001 + 2)
    (s.setTime { s.time with elapsed := min elapsedTop (total / 32768), phase := total % 32768 }) n

/-- The crystal periods until elapsed time first reaches `t`. -/
def State.periodsTo (s : State) (t : Elapsed) : Nat :=
  (t * 32768 - (s.time.elapsed * 32768 + s.time.phase) + 999) / 1000

/-- Elapsed time is brought to `t`, the moment a timer's expiry is taken; a time already reached stays (R4; log entry
8). -/
def State.reach (s : State) (t : Elapsed) : State :=
  if t ≤ s.time.elapsed then s else s.passPeriods (s.periodsTo t)

/-! ## Orders and their replies (R188) -/

/-- An owning block gives its reply to an order. Where that order was dispatched from a frame, the reply is queued with the
frame's station id, code and tag, and the order is no longer in hand (R188, R189; log entry 7). -/
def State.answer (s : State) (order : Instr) (code : ReplyCode) (body : ReplyBody) : State :=
  match s.link.handed with
  | some h =>
    if h.order = order then
      s.setLink { s.link with
        handed := none
        transmit := s.link.transmit ++ [.reply h.ref ⟨code, body⟩]
        lastReply := some ⟨code, body⟩ }
    else s.setLink { s.link with lastReply := some ⟨code, body⟩ }
  | none => s.setLink { s.link with lastReply := some ⟨code, body⟩ }

/-- A refusal changes nothing but the reply it gives (R188). -/
def State.refuse (s : State) (order : Instr) (code : ReplyCode) : State := s.answer order code .none

/-- What the part does while its main supply runs. In supply hold no order, punch, input or report is taken (R194), and
without any supply nothing is (R196): the command then changes nothing (log entry 11). -/
def whileRunning (s : State) (act : State → State) : Host.Outcome State Fault Refusal :=
  if s.supply.state = .run then .next (act s) else .next s

/-! ## The rule banks as read (R167, R174) -/

/-- A bank by name. -/
def BankStore.bank (b : BankStore) : BankName → Bank
  | .bankA => b.bankA
  | .bankB => b.bankB

/-- The other bank's name. -/
def BankName.other : BankName → BankName
  | .bankA => .bankB
  | .bankB => .bankA

/-- The active bank (09). -/
def State.activeBank (s : State) : Bank := s.banks.bank s.banks.active

/-- The standby bank (09). -/
def State.standbyBank (s : State) : Bank := s.banks.bank s.banks.active.other

/-- A pay class of a bank by index. -/
def Bank.payClass (b : Bank) (i : Nat) : PayClass := rowAt b.payClasses i payClassInitial

/-- A shift pattern of a bank by index. -/
def Bank.shiftPattern (b : Bank) (i : Nat) : ShiftPattern := rowAt b.patterns i patternInitial

/-- A schedule entry of a bank by index. -/
def Bank.entry (b : Bank) (i : Nat) : ScheduleEntry := rowAt b.schedule i entryInitial

/-- A tone pattern of a bank by index. -/
def Bank.tone (b : Bank) (i : Nat) : TonePattern := rowAt b.tones i toneInitial

/-- Whether a bank's holiday list holds a day number (R167). -/
def Bank.isHoliday (b : Bank) (day : Nat) : Bool := b.holidays.toList.any fun h => decide (h = some day)

end Machine
end Sys2Proof
end

