-- ==== Sys2Proof/Machine/Calendar.lean ====
section
/-!
DEFINITION. What is computed from plant time and the tables of a bank: day type, week index, the scheduled start nearest a
stamp, and when schedule entries are due (R10, R11, R96, R136, R137, R148).
-/
namespace Sys2Proof.Machine

/-- The day number of a stamp. -/
def dayOf (t : Stamp) : Nat := t / 86400

/-- The second of day of a stamp. -/
def secondOf (t : Stamp) : Nat := t % 86400

/-- The minute of day of a stamp (00, Time). -/
def minuteOf (t : Stamp) : Nat := secondOf t / 60

/-- The weekday of a day number: 0 is Monday (R10). -/
def weekday (offset day : Nat) : Nat := (day + offset) % 7

/-- The day type of a day in a bank: 0–6 Monday to Sunday, 7 HOL (R10). -/
def dayType (b : Bank) (offset day : Nat) : Nat := if b.isHoliday day then 7 else weekday offset day

/-- The week index of a stamp (R11). -/
def weekIndex (offset weekStart : Nat) (t : Stamp) : Nat :=
  (1440 * (dayOf t + offset) + minuteOf t + 10080 - weekStart) / 10080

/-- The week index of a stamp with the weekday offset and week-start minute as they stand. -/
def State.weekOf (s : State) (t : Stamp) : Nat := weekIndex s.time.weekdayOffset s.setup.general.weekStart t

/-- Whether a day is one a mask names in a bank. -/
def dayInMask (b : Bank) (offset : Nat) (mask : DayMask) (day : Nat) : Bool := inSet mask (dayType b offset day)

/-! ## Anchoring (R96) -/

/-- The days whose starts are candidates for a stamp on day `d`, in rising order: the day before, the day, the day after,
within 0–65,535. -/
def candidateDays (d : Nat) : List Nat :=
  ((if d = 0 then [] else [d - 1]) ++ [d, d + 1]).filter fun k => decide (k ≤ 65535)

/-- The candidate starts of a pattern that are kept for a stamp, in rising order (R96). -/
def keptStarts (b : Bank) (offset : Nat) (p : ShiftPattern) (i : Stamp) : List Stamp :=
  ((candidateDays (dayOf i)).filter fun k => dayInMask b offset p.mask k).map fun k => 86400 * k + 60 * p.start

/-- The distance between two stamps in seconds. -/
def stampDistance (x y : Stamp) : Nat := (x - y) + (y - x)

/-- Of a list of starts in rising order, the one nearest a stamp, the earlier on a tie. -/
def nearestOf (i : Stamp) : List Stamp → Option Stamp
  | [] => none
  | c :: rest =>
    match nearestOf i rest with
    | none => some c
    | some r => if stampDistance c i ≤ stampDistance r i then some c else some r

/-- The nearest scheduled start of a pattern to a stamp: none where the pattern is unused or keeps no candidate (R96,
R97). -/
def nearestStart (b : Bank) (offset : Nat) (p : ShiftPattern) (i : Stamp) : Option Stamp :=
  if p.length = 0 then none else nearestOf i (keptStarts b offset p i)

/-! ## Due entries (R136, R137) -/

/-- The anchor minute of an ANCHORED entry in a bank (R137). -/
def anchorMinute (b : Bank) (e : ScheduleEntry) : Int :=
  let p := b.shiftPattern e.pattern
  (p.start : Int) + (if e.anchor = .listed .finish then (p.length : Int) else 0) + e.offset

/-- Whether a FIXED entry is due at a stamp (R136). -/
def fixedDue (b : Bank) (offset : Nat) (e : ScheduleEntry) (t : Stamp) : Bool :=
  decide (secondOf t = e.second) && dayInMask b offset e.mask (dayOf t)

/-- Whether an ANCHORED entry is due at a stamp (R137). -/
def anchoredDue (b : Bank) (offset : Nat) (e : ScheduleEntry) (t : Stamp) : Bool :=
  let p := b.shiftPattern e.pattern
  let x : Int := (t : Int) - 60 * anchorMinute b e
  decide (0 < p.length) && decide (x % 86400 = 0) && decide (0 ≤ x) && decide (x / 86400 ≤ 65535) &&
    dayInMask b offset e.mask (x / 86400).toNat && dayInMask b offset p.mask (x / 86400).toNat

/-- Whether an entry is due at a stamp (R136, R137). -/
def entryDue (b : Bank) (offset : Nat) (e : ScheduleEntry) (t : Stamp) : Bool :=
  match e.basis with
  | .listed .fixed => fixedDue b offset e t
  | .listed .anchored => anchoredDue b offset e t
  | .unlisted _ => false

/-! ## The latest due second of a stretch (R148, R149) -/

/-- The seconds of day `86400`-periods at or below a stamp's end at which an entry could be due: `86400 × k + base`, from the
last one at or before `last` backward, eight of them, as many as a stretch of seven days can hold. -/
def dueCandidates (base : Int) (last : Stamp) : List Int :=
  (List.range 8).map fun (j : Nat) => ((((last : Int) - base) / 86400) - (j : Int)) * 86400 + base

/-- The second of the day, as an offset from midnight of its anchor day, at which an entry falls due. -/
def dueBase (b : Bank) (e : ScheduleEntry) : Int :=
  if e.basis = .listed .anchored then 60 * anchorMinute b e else (e.second : Int)

/-- The latest stamp in the span (first, last] at which an entry is due, a span of at most seven days; none where there is
none. -/
def latestDue (b : Bank) (offset : Nat) (e : ScheduleEntry) (first last : Stamp) : Option Stamp :=
  (dueCandidates (dueBase b e) last).findSome? fun t =>
    if (first : Int) < t ∧ t ≤ (last : Int) ∧ entryDue b offset e t.toNat = true then some t.toNat else none

/-- The start of the stretch of a span that is examined: its last seven days (R148). -/
def stretchStart (first last : Stamp) : Stamp := max first (last - 604800)

/-- What a lane's catch-up has found so far: the due second and the mode of the latest entry. -/
abbrev CatchUp := Option (Stamp × AskMode)

/-- One entry taken into a lane's catch-up: a later second, or the same second at a higher index, takes its place (R149). -/
def catchUpEntry (b : Bank) (offset : Nat) (l : LaneId) (first last : Stamp) (found : CatchUp) (e : ScheduleEntry) :
    CatchUp :=
  if e.kind = .listed .laneMode ∧ inSet e.lanes l.val = true then
    match latestDue b offset e first last, askOf e.mode with
    | some t, some m =>
      match found with
      | none => some (t, m)
      | some (u, _) => if u ≤ t then some (t, m) else found
    | _, _ => found
  else found

/-- The mode a lane is caught up to over a skipped or held span, or none where no entry of the examined stretch names it
(R149). -/
def catchUpMode (b : Bank) (offset : Nat) (l : LaneId) (first last : Stamp) : Option AskMode :=
  ((b.schedule.toList.foldl (catchUpEntry b offset l (stretchStart first last) last) none)).map Prod.snd

end Sys2Proof.Machine
end

