-- ==== Sys2Proof/Machine/BankOps.lean ====
section
/-!
DEFINITION. The operations of the Bank Store the meanings share: which bank is in force (R138, R148, R173), carrying a switch
out (R172), writing and reading rows (R170, R175), and the validation of a loaded bank (R171).
-/
namespace Sys2Proof.Machine

/-! ## Switches (R172, R173) -/

/-- The bank that answers a notice the Schedule Unit takes, counting a pending switch whose target a stamp has reached: the
bank active before a switch carried out since the notice was given, or else the bank in force at that stamp (R138, R148; log
entry 46). -/
def State.bankReached (s : State) (reached : Stamp) : Bank :=
  match s.notices.oldBanks, s.banks.pending with
  | b :: _, _ => b
  | [], some p => if p.target ≤ reached then s.standbyBank else s.activeBank
  | [], none => s.activeBank

/-- The bank in force at a second boundary: in every minute whose own boundary lies at or after the pending target it is the
bank the pending switch makes active, whether or not the Bank Store has taken that boundary; and a second before the switch's
minute is answered from the old bank, though the Bank Store has carried the switch out before the Schedule Unit takes it (R138,
R173; log entry 46). -/
def State.bankAtBoundary (s : State) (t : Stamp) : Bank := s.bankReached (t - t % 60)

/-- The bank in force at the end of a skipped or held span, counting a switch that falls in it (R148). -/
def State.bankAtSpanEnd (s : State) (last : Stamp) : Bank := s.bankReached last

/-- The Schedule Unit's notices as a switch is carried out, of which the last `later` were given at it or after it: those
before them are answered from the bank active until now (R138; log entry 46). -/
def State.keepOldBank (s : State) (later : Nat) : State :=
  let n := s.notices
  s.setNotices { n with
    oldBanks := n.oldBanks ++ List.replicate (n.scheduleUnit.length - later - n.oldBanks.length) s.activeBank }

/-- A switch is carried out: the banks change places, the former active one STALE, the generation advances, the pending
switch clears, and a BANK_SWITCH entry is requested (R172). -/
def State.carryOutSwitch (s : State) (stamp : Option Stamp) (timed : Bool) : State :=
  let b := s.banks
  let t := s.setBanks { b with
    active := b.active.other, standby := .stale, generation := wrapSucc b.generation, pending := none }
  t.systemEvent stamp (.bankSwitch t.banks.active t.banks.generation timed)

/-- A switch is carried out by a notice that has just left the Bank Store's list: that notice and those still in the list are
the ones at or after the switch (R173; log entry 46). -/
def State.switchAtNotice (s : State) (stamp : Option Stamp) (timed : Bool) : State :=
  (s.keepOldBank (s.notices.bankStore.length + 1)).carryOutSwitch stamp timed

/-- A pending switch whose target is reached is carried out, its entry stamped with what reached it (R173). -/
def State.switchIfReached (s : State) (t : Stamp) : State :=
  match s.banks.pending with
  | some p => if p.target ≤ t then s.switchAtNotice (some t) p.timed else s
  | none => s

/-! ## Rows (R167, R170, R175) -/

/-- The number of rows of a table (R167). -/
def tableSize : TableName → Nat
  | .payClasses => 16
  | .patterns => 64
  | .schedule => 128
  | .tones => 8
  | .holidays => 32

/-- Whether a row is of a table's form (R170). -/
def rowFits : TableName → Row → Bool
  | .payClasses, .payClass _ => true
  | .patterns, .pattern _ => true
  | .schedule, .entry _ => true
  | .tones, .tone _ => true
  | .holidays, .holiday _ => true
  | _, _ => false

/-- A table's vector with the row at an index replaced; an index beyond it changes nothing. -/
def putRow {α : Type} {n : Nat} (v : Vector α n) (i : Nat) (x : α) : Vector α n := if h : i < n then v.set i x h else v

/-- A row of a bank is replaced whole (R170). -/
def Bank.setRow (b : Bank) (i : Nat) : Row → Bank
  | .payClass r => { b with payClasses := putRow b.payClasses i r }
  | .pattern r => { b with patterns := putRow b.patterns i r }
  | .entry r => { b with schedule := putRow b.schedule i r }
  | .tone r => { b with tones := putRow b.tones i r }
  | .holiday r => { b with holidays := putRow b.holidays i r }

/-- Rows written at consecutive indices (R170). -/
def Bank.setRows (b : Bank) (i : Nat) : List Row → Bank
  | [] => b
  | r :: rest => (b.setRow i r).setRows (i + 1) rest

/-- A row of a bank as stored (R175). -/
def Bank.row (b : Bank) (t : TableName) (i : Nat) : Row :=
  match t with
  | .payClasses => .payClass (b.payClass i)
  | .patterns => .pattern (b.shiftPattern i)
  | .schedule => .entry (b.entry i)
  | .tones => .tone (b.tone i)
  | .holidays => .holiday (rowAt b.holidays i none)

/-- The Bank Store with the standby bank replaced. -/
def BankStore.setStandby (s : BankStore) (b : Bank) : BankStore :=
  match s.active with
  | .bankA => { s with bankB := b }
  | .bankB => { s with bankA := b }

/-! ## Validation (R171) -/

/-- What one examined row or field gives: nothing, or a fault of it. -/
abbrev RowCheck := Option (RowField × FaultReason)

/-- A field in its range, or the fault RANGE. -/
def checkRange (ok : Bool) (f : RowField) : RowCheck := if ok then none else some (f, .range)

/-- The first fault of a row's checks, in field order. -/
def firstFault (l : List RowCheck) : RowCheck := l.findSome? id

/-- A rounding unit of the set given in Pay Arithmetic. -/
def validUnit (u : Nat) : Bool := [1, 2, 3, 4, 5, 6, 10, 12, 15, 20, 30].contains u

/-- The checks of a pay class, in the order of its fields (R171, 06). -/
def checkPayClass (c : PayClass) : RowCheck :=
  firstFault [
    checkRange (validUnit c.unit) .unit,
    checkRange c.rounding.isListed .rounding,
    checkRange (decide (c.inEarly ≤ 60)) .inEarly,
    checkRange (decide (c.inLate ≤ 60)) .inLate,
    checkRange (decide (c.outEarly ≤ 60)) .outEarly,
    checkRange (decide (c.outLate ≤ 60)) .outLate,
    checkRange (decide (c.paidBreak ≤ 60)) .paidBreak,
    checkRange (decide (c.mealThreshold ≤ 960)) .mealThreshold,
    checkRange (decide (c.mealLength ≤ 120)) .mealLength,
    checkRange (decide (c.dailyThreshold ≤ 1440)) .dailyThreshold,
    checkRange (decide (c.weeklyThreshold ≤ 10080)) .weeklyThreshold,
    checkRange (decide (100 ≤ c.overtimeRate ∧ c.overtimeRate ≤ 300)) .overtimeRate,
    checkRange (decide (c.nightPremium ≤ 100)) .nightPremium,
    checkRange (decide (100 ≤ c.holidayRate ∧ c.holidayRate ≤ 300)) .holidayRate,
    checkRange (decide (c.nightStart ≤ 1439)) .nightStart,
    checkRange (decide (c.nightEnd ≤ 1439)) .nightEnd,
    checkRange (decide (60 ≤ c.autoClose ∧ c.autoClose ≤ 960)) .autoClose,
    checkRange (decide (c.admitEarly ≤ 240)) .admitEarly,
    checkRange (decide (c.admitLate ≤ 480)) .admitLate]

/-- The checks of a shift pattern (R171). -/
def checkPattern (p : ShiftPattern) : RowCheck :=
  firstFault [checkRange (decide (p.start ≤ 1439)) .start, checkRange (decide (p.length ≤ 1440)) .length]

/-- The check of an ANCHORED entry's pattern: in range, and in use in the bank (R171). -/
def checkEntryPattern (b : Bank) (e : ScheduleEntry) : RowCheck :=
  if 63 < e.pattern then some (.pattern, .range)
  else if (b.shiftPattern e.pattern).length = 0 then some (.pattern, .unusedPattern)
  else none

/-- The checks of a schedule entry: the fields that apply to its kind and basis, in order (R135, R171). -/
def checkEntry (b : Bank) (e : ScheduleEntry) : RowCheck :=
  let isFixed := decide (e.basis = .listed .fixed)
  let isAnchored := decide (e.basis = .listed .anchored)
  let isRing := decide (e.kind = .listed .ring)
  let isMode := decide (e.kind = .listed .laneMode)
  firstFault [
    checkRange e.kind.isListed .kind,
    checkRange e.basis.isListed .basis,
    checkRange (!isFixed || decide (e.second ≤ 86399)) .second,
    (if isAnchored then checkEntryPattern b e else none),
    checkRange (!isAnchored || e.anchor.isListed) .anchor,
    checkRange (!isAnchored || decide (-120 ≤ e.offset ∧ e.offset ≤ 120)) .offset,
    (if isRing && decide (7 < e.tone) then some (.tone, .toneIndex) else none),
    checkRange (!isRing || decide (1 ≤ e.duration ∧ e.duration ≤ 120)) .duration,
    checkRange (!isMode || (askOf e.mode).isSome) .mode]

/-- The checks of a tone pattern (R171). -/
def checkTone (p : TonePattern) : RowCheck :=
  firstFault [
    checkRange (decide (p.frequency = 0 ∨ (200 ≤ p.frequency ∧ p.frequency ≤ 2000 ∧ p.frequency % 10 = 0))) .frequency,
    checkRange (decide (1 ≤ p.onTime ∧ p.onTime ≤ 250)) .onTime,
    checkRange (decide (p.offTime ≤ 250)) .offTime]

/-- The checks of a holiday row: its day number is one of 0–65,535, and is held by no earlier row that is not EMPTY (R167,
R171; log entry 40). -/
def checkHoliday (b : Bank) (i : Nat) : RowCheck :=
  match rowAt b.holidays i none with
  | none => none
  | some d =>
    if 65535 < d then some (.day, .range)
    else if (b.holidays.toList.take i).any fun h => decide (h = some d) then some (.day, .duplicateHoliday) else none

/-- The check of one row of a table of a bank. -/
def checkRow (b : Bank) (t : TableName) (i : Nat) : RowCheck :=
  match t with
  | .payClasses => checkPayClass (b.payClass i)
  | .patterns => checkPattern (b.shiftPattern i)
  | .schedule => checkEntry b (b.entry i)
  | .tones => checkTone (b.tone i)
  | .holidays => checkHoliday b i

/-- The first fault of a table, its rows taken in rising index (R171). -/
def checkTable (b : Bank) (t : TableName) : Option LoadFault :=
  (List.range (tableSize t)).findSome? fun i => (checkRow b t i).map fun f => ⟨t, i, f.1, f.2⟩

/-- The first fault of a bank, its tables taken in order; none where the bank is valid (R171). -/
def Bank.firstFault (b : Bank) : Option LoadFault :=
  [TableName.payClasses, .patterns, .schedule, .tones, .holidays].findSome? (checkTable b)

end Sys2Proof.Machine
end

