-- ==== Sys2Proof/Machine/Banks.lean ====
section
/-!
DEFINITION. The meanings of the bank orders (09; R168–R175).
-/
namespace Sys2Proof.Machine

/-- The rows a load starts from: the active bank's as they stand, or the power-on rows (R169). -/
def State.loadStart (s : State) : LoadKind → Bank
  | .copy => s.activeBank
  | .empty => .initial

/-- LOAD BEGIN (R169). -/
def execLoadBegin (kind : Choice LoadKind) (s : State) : Host.Outcome State Fault Refusal :=
  whileRunning s fun s =>
    match kind with
    | .unlisted _ => s.refuse (.loadBegin kind) .badOrder
    | .listed k =>
      if s.banks.pending.isSome then s.refuse (.loadBegin kind) .busy
      else (s.setBanks { s.banks.setStandby (s.loadStart k) with standby := .loading, lastFault := none }).answer
        (.loadBegin kind) .ok .none

/-- LOAD ROWS (R170). Of a row that is not of the table's form, a standby that is not LOADING and a row beyond the table, the
rule says not which is refused first; the model takes WRONG_STATE, then OUT_OF_RANGE, then BAD_ORDER (log entry 23). -/
def execLoadRows (table : Choice TableName) (first : Nat) (rows : List Row) (s : State) :
    Host.Outcome State Fault Refusal :=
  whileRunning s fun s =>
    let order := Instr.loadRows table first rows
    match table with
    | .unlisted _ => s.refuse order .badOrder
    | .listed t =>
      if rows = [] then s.refuse order .badOrder
      else if s.banks.standby ≠ .loading then s.refuse order .wrongState
      else if tableSize t < first + rows.length then s.refuse order .outOfRange
      else if rows.all (rowFits t) then
        (s.setBanks (s.banks.setStandby (s.standbyBank.setRows first rows))).answer order .ok (.rowsWritten rows.length)
      else s.refuse order .badOrder

/-- LOAD END (R171). -/
def execLoadEnd (s : State) : Host.Outcome State Fault Refusal :=
  whileRunning s fun s =>
    if s.banks.standby ≠ .loading then s.refuse .loadEnd .wrongState
    else match s.standbyBank.firstFault with
      | none => (s.setBanks { s.banks with standby := .ready }).answer .loadEnd .ok (.loadResult .ready none)
      | some f =>
        (s.setBanks { s.banks with standby := .rejected, lastFault := some f }).answer .loadEnd .ok
          (.loadResult .rejected (some f))

/-- The boundary a BANK SWITCH names at a current stamp: the named minute's, or the first minute boundary after the current
second (R172). -/
def switchTarget (now : Stamp) : SwitchTime → Stamp
  | .nextMinute => (now / 60 + 1) * 60
  | .named day minute => day * 86400 + 60 * minute

/-- Whether a BANK SWITCH names a day and minute (R172). -/
def isTimed : SwitchTime → Bool
  | .nextMinute => false
  | .named _ _ => true

/-- Whether the day and minute a BANK SWITCH names are in range (R172 check 1). -/
def switchInRange : SwitchTime → Bool
  | .nextMinute => true
  | .named day minute => decide (day ≤ 65535) && decide (minute ≤ 1439)

/-- BANK SWITCH (R172). One carried out at once, the clock being INVALID, comes after every notice already given (R138; log
entry 46). -/
def execBankSwitch (time : SwitchTime) (s : State) : Host.Outcome State Fault Refusal :=
  whileRunning s fun s =>
    let order := Instr.bankSwitch time
    if switchInRange time = false then s.refuse order .outOfRange
    else if isTimed time = true ∧ s.now = none then s.refuse order .clockInvalid
    else if s.banks.standby ≠ .ready then s.refuse order .wrongState
    else match s.now with
      | none =>
        let t := (s.keepOldBank 0).carryOutSwitch none false
        t.answer order .ok (.generation t.banks.generation)
      | some now =>
        if switchTarget now time ≤ now then s.refuse order .outOfRange
        else (s.setBanks { s.banks with pending := some ⟨switchTarget now time, isTimed time⟩ }).answer order .ok
          (.switchTarget (switchTarget now time))

/-- The bank a TABLE READ names (R175). -/
def State.selectBank (s : State) : BankSelector → Bank
  | .bankA => s.banks.bankA
  | .bankB => s.banks.bankB
  | .active => s.activeBank
  | .standby => s.standbyBank

/-- The bank summary every TABLE READ reply carries (R175). -/
def State.bankSummary (s : State) : BankSummary :=
  { active := s.banks.active, standby := s.banks.standby, generation := s.banks.generation
    pending := s.banks.pending.map PendingSwitch.target, lastFault := s.banks.lastFault }

/-- The rows of a table from an index, at most `count` of them, to the table's last (R175). -/
def Bank.readRows (b : Bank) (t : TableName) (first count : Nat) : List Row :=
  (List.range (min count (tableSize t - first))).map fun i => b.row t (first + i)

/-- A reply to TABLE READ: its code, the rows it gives, and the bank summary (R175). -/
def State.answerRows (s : State) (order : Instr) (code : ReplyCode) (rows : List Row) : State :=
  s.answer order code (.rows rows.length rows s.bankSummary)

/-- TABLE READ: every reply carries the bank summary, a refusal no row beside it (R175). -/
def execTableRead (bank : Choice BankSelector) (table : Choice TableName) (first count : Nat) (s : State) :
    Host.Outcome State Fault Refusal :=
  whileRunning s fun s =>
    let order := Instr.tableRead bank table first count
    match bank, table with
    | .listed b, .listed t =>
      if tableSize t ≤ first ∨ count < 1 ∨ 16 < count then s.answerRows order .outOfRange []
      else s.answerRows order .ok ((s.selectBank b).readRows t first count)
    | _, _ => s.answerRows order .badOrder []

end Sys2Proof.Machine
end

