-- ==== Sys2Proof/Machine/Slots.lean ====
section
/-!
DEFINITION. Access to roster slots: the checked read with its corrections and damage, the lookup, the requests of other
blocks to write a slot, enrolment into a bucket, a slot becoming FREE, and the presence epoch (R16–R36, R111).
-/
namespace Sys2Proof.Machine

/-- The contents of a slot. -/
def State.slot (s : State) (a : Nat) : Slot := s.roster.slots.get Slot.freeSlot a

/-- Whether the damage map marks a slot DAMAGED (R34). -/
def State.isDamaged (s : State) (a : Nat) : Bool := s.roster.damage.get false a

/-- A slot's status, DAMAGED standing over whatever its words hold (R17). -/
def State.statusOf (s : State) (a : Nat) : ReportedStatus :=
  if s.isDamaged a then .damaged
  else match (s.slot a).status with
    | .free => .free
    | .active => .active
    | .withdrawn => .withdrawn

/-- A slot's contents replaced. -/
def State.setSlot (s : State) (a : Nat) (x : Slot) : State :=
  s.setRoster { s.roster with slots := s.roster.slots.put Slot.freeSlot a x }

/-- The reference to a slot is removed from both lists of the Record Unit, the others keeping their order (R111). -/
def State.dropReferences (s : State) (a : Nat) : State :=
  s.setRecords { s.records with
    deadlines := s.records.deadlines.filter fun x => decide (x ≠ a)
    closureQueue := s.records.closureQueue.filter fun x => decide (x ≠ a) }

/-- A slot in which two flipped bits were found becomes DAMAGED: marked in the damage map and counted, its contents lost,
its references removed, and a ROSTER_DAMAGE entry requested (R34; log entry 17). -/
def State.damageSlot (s : State) (a : Nat) : State :=
  let r := s.roster
  let marked := s.setRoster { r with
    slots := r.slots.put Slot.freeSlot a Slot.freeSlot
    damage := r.damage.put false a true
    damagedCount := r.damagedCount + 1
    occupiedCount := r.occupiedCount + (if (s.slot a).status = .free then 1 else 0) }
  (marked.dropReferences a).systemEvent marked.now (.rosterDamage a)

/-- A checked read of a slot: single flipped bits are corrected, written back and counted, and a double error makes the
slot DAMAGED (R33, R34; log entry 17). -/
def State.checkedRead (s : State) (a : Nat) : State :=
  if s.isDamaged a then s
  else
    let x := s.slot a
    let corrected :=
      if x.errors.single = 0 then s
      else (s.setSlot a { x with errors := { x.errors with single := 0 } }).setRoster
        { (s.setSlot a { x with errors := { x.errors with single := 0 } }).roster with
          corrected := satAdd 65535 s.roster.corrected x.errors.single }
    if x.errors.double then corrected.damageSlot a else corrected

/-- The bucket of a badge (R16). -/
def bucketOf (badge : Nat) : Nat := badge % 1536

/-- The four slot addresses of a bucket, in position order (R16). -/
def bucketSlots (k : Nat) : List Nat := [4 * k, 4 * k + 1, 4 * k + 2, 4 * k + 3]

/-- Checked reads of several slots, in order. -/
def State.readSlots (s : State) (l : List Nat) : State := l.foldl State.checkedRead s

/-- Whether a slot is ACTIVE and holds a badge (R19). -/
def State.holdsBadge (s : State) (badge a : Nat) : Bool :=
  decide (s.statusOf a = .active) && decide ((s.slot a).badge = some badge)

/-- The lookup of a badge: its bucket's four slots are read, and the ACTIVE slot that holds it is answered, or a miss
(R19). -/
def State.lookup (s : State) (badge : Nat) : State × Option Nat :=
  let t := s.readSlots (bucketSlots (bucketOf badge))
  (t, (bucketSlots (bucketOf badge)).find? (t.holdsBadge badge))

/-- The Roster Store's answer to a request to write a slot (R20). -/
inductive SlotAnswer where
  | done
  | free
  | withdrawn
  | damaged
deriving DecidableEq, Repr

/-- A request to write a slot: a checked read, then the write on an ACTIVE slot, and on a WITHDRAWN one where the field is
one of those still written there (R20). -/
def State.writeSlot (s : State) (a : Nat) (onWithdrawn : Bool) (f : Slot → Slot) : State × SlotAnswer :=
  let t := s.checkedRead a
  match t.statusOf a with
  | .active => (t.setSlot a (f (t.slot a)), .done)
  | .withdrawn => if onWithdrawn then (t.setSlot a (f (t.slot a)), .done) else (t, .withdrawn)
  | .free => (t, .free)
  | .damaged => (t, .damaged)

/-- A slot that was ACTIVE or WITHDRAWN becomes FREE with every field at its FREE value (R17, R18). -/
def State.freeSlotAt (s : State) (a : Nat) : State :=
  s.setRoster { s.roster with
    slots := s.roster.slots.put Slot.freeSlot a Slot.freeSlot
    occupiedCount := s.roster.occupiedCount - 1 }

/-- How an enrolment ends (R21). -/
inductive EnrolAnswer where
  | done (address : Nat)
  | duplicate (address : Nat)
  | full
deriving DecidableEq, Repr

/-- A badge is enrolled in the lowest FREE position of its bucket, unless an ACTIVE slot holds it or no position is FREE
(R21). -/
def State.enrol (s : State) (badge : Nat) (f : EnrolFields) : State × EnrolAnswer :=
  let l := bucketSlots (bucketOf badge)
  let t := s.readSlots l
  match l.find? (t.holdsBadge badge) with
  | some a => (t, .duplicate a)
  | none =>
    match l.find? fun a => decide (t.statusOf a = .free) with
    | none => (t, .full)
    | some a =>
      let u := t.setSlot a { Slot.freeSlot with
        status := .active, badge := some badge, payClass := f.payClass, pattern := f.pattern, lanes := f.lanes }
      (u.setRoster { u.roster with occupiedCount := t.roster.occupiedCount + 1 }, .done a)

/-- Presence as read against the epoch (R27). -/
def State.presenceOf (s : State) (x : Slot) : PresenceRead :=
  if x.presenceStamp = s.roster.epoch then (if x.inside then .inside else .outside) else .unknown

/-- The presence epoch advances by one; from 65,535 every presence stamp becomes 0 first, and the epoch 1 (R29). Zeroing the
stamps makes no checked read: the flipped words of a slot stay as they are (log entry 37). -/
def State.advanceEpoch (s : State) : State :=
  if s.roster.epoch = 65535 then
    s.setRoster { s.roster with
      slots := s.roster.slots.mapValues Slot.freeSlot fun x => { x with presenceStamp := 0 }
      epoch := 1 }
  else s.setRoster { s.roster with epoch := s.roster.epoch + 1 }

/-- The pending-grant mark of a slot returns to none as the grant of lane `l` ends (R30, R20). A mark that names another lane
is not that grant's, and stays (log entry 14). -/
def State.clearMark (s : State) (l : LaneId) (slot : Option Nat) : State :=
  match slot with
  | none => s
  | some a => (s.writeSlot a true fun x => { x with mark := if x.mark = some l then none else x.mark }).1

end Sys2Proof.Machine
end

