-- ==== Sys2Proof/Machine/LaneOps.lean ====
section
/-!
DEFINITION. The operations the lane rules share: requested and driven levels (R71, R160), interlock pairs (R84), the poll set
and the verdict queue (R37, R40), applying a lane setup (R66), mode requests (R69), and a grant's release, its ends, and the
interlock arbiter (R72, R73, R85, R86).
-/
namespace Sys2Proof.Machine

/-! ## Output levels (R71, R160) -/

/-- The requested level of a lane's release output (R71). -/
def Lane.wantsRelease (x : Lane) : Bool :=
  (decide (x.setup.kind ≠ .unused) && (decide (x.mode = .free) || decide (x.mode = .egress))) ||
  match x.grant with
  | none => false
  | some g =>
    decide (g.phase = .released) &&
      match x.setup.kind, x.setup.releaseMode with
      | .turnstile, _ => g.releaseExpiry.isSome
      | .door, .pulse => g.releaseExpiry.isSome
      | .door, .untilOpen => !g.passageSeen
      | .unused, _ => false

/-- What a lane's release output is driven to (R160). -/
def State.driveRelease (s : State) (l : LaneId) : Bool :=
  match s.supply.state with
  | .hold => decide ((s.lane l).setup.fail = .failSafe)
  | .dark => false
  | .run =>
    if s.inputs.evacuating = true ∧ (s.lane l).setup.kind ≠ .unused then true
    else match s.inputs.releaseHolds[l] with
      | some level => level
      | none => (s.lane l).wantsRelease

/-- Whether a bell output holds the EVACUATION ring (R146). -/
def State.ringsEvacuation (s : State) (b : BellId) : Bool :=
  match s.bells.rings[b] with
  | some r => decide (r.kind = .evacuation)
  | none => false

/-- What a bell output is driven to (R160). -/
def State.driveBell (s : State) (b : BellId) : BellLevel :=
  match s.supply.state with
  | .hold => .off
  | .dark => .off
  | .run =>
    if s.ringsEvacuation b then s.bells.requested[b]
    else match s.inputs.bellHolds[b] with
      | some true => .steady
      | some false => .off
      | none => s.bells.requested[b]

/-- The requested level of one lane is taken again (R71). -/
def State.retakeRequested (s : State) (l : LaneId) : State :=
  s.setLane l { s.lane l with requested := (s.lane l).wantsRelease }

/-- The driven level of one release output is taken again (R160). -/
def State.retakeRelease (s : State) (l : LaneId) : State :=
  s.setInputs { s.inputs with drivenRelease := putAt s.inputs.drivenRelease l (s.driveRelease l) }

/-- The driven level of one bell output is taken again (R160). -/
def State.retakeBell (s : State) (b : BellId) : State :=
  s.setInputs { s.inputs with drivenBell := putAt s.inputs.drivenBell b (s.driveBell b) }

/-- Every requested level and every driven level is taken again (R71, R160). -/
def State.retakeLevels (s : State) : State :=
  allBells.foldl State.retakeBell (allLanes.foldl State.retakeRelease (allLanes.foldl State.retakeRequested s))

/-! ## Interlock pairs (R84) -/

/-- The other lane of a lane's interlock pair: both are DOOR lanes and each setup in force names the other (R84). -/
def State.partnerOf (s : State) (l : LaneId) : Option LaneId :=
  match (s.lane l).setup.partner with
  | none => none
  | some p =>
    if (s.lane l).setup.kind = .door ∧ (s.lane p).setup.kind = .door ∧ (s.lane p).setup.partner = some l ∧ p ≠ l then some p
    else none

/-- Whether a lane is a member of an interlock pair (R84). -/
def State.inPair (s : State) (l : LaneId) : Bool := (s.partnerOf l).isSome

/-- The elapsed time at which lane `l`'s dead time after partner `p`'s last closing ends; none where it has no closing. -/
def State.deadTimeEndOf (s : State) (l p : LaneId) : Option Elapsed :=
  (s.lane p).lastClosing.map fun t => t + 100 * (s.lane l).setup.deadTime

/-- Whether a lane in a pair has a dead time after its partner's last closing whose end lies ahead (R84, R86). -/
def State.deadRunning (s : State) (l : LaneId) : Bool :=
  match (s.partnerOf l).bind (s.deadTimeEndOf l) with
  | none => false
  | some t => decide (s.elapsed < t)

/-- A lane's dead time starts as its partner's closing is recorded (R84, R86). -/
def State.startDead (s : State) (l : LaneId) : State := s.setLane l { s.lane l with deadRuns := s.deadRunning l }

/-- The dead time of a lane's partner starts as the lane's closing is recorded (R84, R86). -/
def State.startPartnerDead (s : State) (l : LaneId) : State :=
  match s.partnerOf l with
  | none => s
  | some p => s.startDead p

/-- The dead times as a setup has been applied: one that ran in a pair that stays runs on, to the end as the setup gives it,
and one whose end the setup puts ahead, or a pair just formed brings, runs (R66, R84, R86; log entry 16). -/
def State.keepDead (was s : State) (l : LaneId) : State :=
  s.setLane l { s.lane l with
    deadRuns := s.deadRunning l ||
      (decide (s.partnerOf l = was.partnerOf l) && s.inPair l && (s.lane l).deadRuns) }

/-- The interlock condition for a grant at `l` whose partner is `p` (R84). -/
def State.interlockClear (s : State) (l p : LaneId) : Bool :=
  !s.driveRelease p && !(s.lane p).doorOpen &&
    match s.deadTimeEndOf l p with
    | none => true
    | some t => decide (t ≤ s.elapsed)

/-! ## Heads and the verdict queue (R37, R40) -/

/-- Whether a head is in the poll set (R37). -/
def State.inPollSet (s : State) (h : Head) : Bool :=
  decide ((s.lane h.lane).setup.kind ≠ .unused) &&
    match h.dir with
    | .inward => (s.lane h.lane).setup.entryEnable
    | .outward => (s.lane h.lane).setup.exitEnable

/-- The verdict queue with a verdict queued for a head: it replaces one still unsent in place, or joins the tail (R40). -/
def queueFor (h : Head) (v : Verdict) : List QueuedVerdict → List QueuedVerdict
  | [] => [⟨h, v⟩]
  | q :: rest => if q.head = h then ⟨h, v⟩ :: rest else q :: queueFor h v rest

/-- A verdict is queued for a head, or discarded where the head is outside the poll set (R40). -/
def State.queueVerdict (s : State) (h : Head) (v : Verdict) : State :=
  if s.inPollSet h then s.setPunch { s.punch with verdicts := queueFor h v s.punch.verdicts } else s

/-- A verdict whose message is NONE and whose flag is clear (R43). -/
def plainVerdict (c : VerdictCode) : Verdict := ⟨c, .none, false⟩

/-- The display message of a classification (R43). -/
def messageOf : Classification → Message
  | .clockIn => .inward
  | .clockOut => .outward
  | .breakOut => .breakOut
  | .breakIn => .back
  | .passIn => .pass
  | .passOut => .pass

/-- The verdict of a released handed punch: RELEASE with its classification's message for a worker, RELEASE_NOTED with PASS
for a visitor, whose punch has no classification (R43, R45). -/
def releaseVerdict (p : HandedPunch) : Verdict :=
  ⟨if p.slot.isSome then .release else .releaseNoted, (p.cls.map messageOf).getD .pass, p.notRecorded⟩

/-- A head that has left the poll set: its queued verdict is removed, and it takes status ACTIVE with miss count 0 (R37). -/
def State.dropHead (s : State) (h : Head) : State :=
  s.setPunch { s.punch with
    verdicts := s.punch.verdicts.filter fun q => decide (q.head ≠ h)
    heads := putAt s.punch.heads h.index ⟨false, 0⟩ }

/-- A head is dropped where it was in the poll set and no longer is (R37). -/
def State.dropIfLeft (s : State) (before : Bool) (h : Head) : State :=
  if before && !s.inPollSet h then s.dropHead h else s

/-! ## Modes (R69, R79) -/

/-- The held-open timer set from now (R79). -/
def State.heldExpiry (s : State) (x : Lane) : Option Elapsed := some (s.inSeconds x.setup.heldLimit)

/-- A lane's mode is written: a mode it already has changes nothing; a change to SECURE or LOCKED while the door is OPEN
sets the held-open timer again (R69, R79). -/
def State.setMode (s : State) (l : LaneId) (m : LaneMode) : State :=
  let x := s.lane l
  if x.mode = m then s
  else s.setLane l { x with
    mode := m
    heldTimer := if x.doorOpen = true ∧ (m = .secure ∨ m = .locked) then s.heldExpiry x else x.heldTimer }

/-- FREE asked for a member of an interlock pair gives SECURE (R69, R91). -/
def State.barFree (s : State) (l : LaneId) (m : AskMode) : AskMode :=
  if m = .free ∧ s.inPair l = true then .secure else m

/-- A mode request at one lane: during an evacuation it writes the remembered mode of a DOOR or TURNSTILE lane, otherwise
the mode (R69). -/
def State.askMode (s : State) (m : AskMode) (l : LaneId) : State :=
  if s.inputs.evacuating = true ∧ (s.lane l).setup.kind ≠ .unused then
    s.setLane l { s.lane l with remembered := some (s.barFree l m) }
  else s.setMode l (s.barFree l m).toLaneMode

/-- A mode request at one lane of a set. -/
def State.askModeIn (set : LaneSet) (m : AskMode) (s : State) (l : LaneId) : State :=
  if inSet set l.val then s.askMode m l else s

/-- A mode request for a set of lanes (R69). -/
def State.askModes (s : State) (set : LaneSet) (m : AskMode) : State := allLanes.foldl (State.askModeIn set m) s

/-- A lane takes its remembered mode as its mode, and remembers none: at the end of an evacuation, or as it becomes UNUSED
during one (R91). -/
def State.restoreMode (s : State) (l : LaneId) : State :=
  match (s.lane l).remembered with
  | none => s
  | some m =>
    let t := s.setMode l (s.barFree l m).toLaneMode
    t.setLane l { t.lane l with remembered := none }

/-- A lane remembers its mode and enters EGRESS (R91). -/
def State.enterEgress (s : State) (l : LaneId) : State :=
  s.setLane l { s.lane l with remembered := some (s.lane l).mode.toAsk, mode := .egress }

/-! ## Applying a lane setup (R65, R66) -/

/-- The debounced level of a lane's door contact, OPEN being true. -/
def State.doorLevel (s : State) (l : LaneId) : Option Bool := (s.inputs.doors[l]).level

/-- The lane after its kind changed: no held alarm, no allowance, count 0, and the door status and decoder pair taken from
the debounced levels as statuses; a door OPEN starts the held-open timer (R66). -/
def State.takenKind (s : State) (l : LaneId) (x : Lane) : Lane :=
  let isOpen := decide (x.setup.kind = .door) && (s.doorLevel l).getD false
  { x with
    held := false
    heldTimer := if isOpen then s.heldExpiry x else none
    exitAllowance := none
    encoder := 0
    doorOpen := isOpen
    decoderA := (s.inputs.encodersA[l]).level.getD x.decoderA
    decoderB := (s.inputs.encodersB[l]).level.getD x.decoderB }

/-- A member of a pair that has formed: FREE becomes SECURE, a remembered FREE becomes SECURE (R66), and a hold of its
release output at on becomes a hold at off (R161). -/
def State.fitPairMember (s : State) (l : LaneId) : State :=
  let t := if (s.lane l).mode = .free then s.setMode l .secure else s
  let u := if (t.lane l).remembered = some .free then t.setLane l { t.lane l with remembered := some .secure } else t
  if u.inputs.releaseHolds[l] = some true then
    u.setInputs { u.inputs with releaseHolds := putAt u.inputs.releaseHolds l (some false) }
  else u

/-- Both members of a lane's pair, where it is in one, are made fit for it (R66, R161). -/
def State.fitPair (s : State) (l : LaneId) : State :=
  match s.partnerOf l with
  | none => s
  | some p => (s.fitPairMember l).fitPairMember p

/-- A lane whose kind changes to or from UNUSED during an evacuation (R91). -/
def State.kindInEvacuation (s : State) (l : LaneId) (was now : LaneKind) : State :=
  if s.inputs.evacuating = true then
    if was = .unused ∧ now ≠ .unused then s.enterEgress l
    else if was ≠ .unused ∧ now = .unused then s.restoreMode l
    else s
  else s

/-- A change with the acquired levels of a lane's encoder lines in place of the ones it was delivered with, where it is a change
of that lane's pair; a line with no level given keeps its own. -/
def Delivery.withLines (l : LaneId) (a b : Option Bool) : Delivery → Delivery
  | .encoder m x y => if m = l then .encoder m (a.getD x) (b.getD y) else .encoder m x y
  | .door m x => .door m x
  | .exitRequest m => .exitRequest m
  | .watch k => .watch k

/-- Encoder lines of a lane are taken as statuses: the changes of its pair that still wait carry the levels so taken, so that
none of them turns a status into a change (R66, R155; log entry 22). -/
def State.fitDeliveries (s : State) (l : LaneId) (a b : Option Bool) : State :=
  s.setInputs { s.inputs with deliveries := s.inputs.deliveries.map (Delivery.withLines l a b) }

/-- The changes that wait as a lane's kind changes: its decoder pair is then taken from the debounced levels (R66). DESIGN CHOICE
(log entry 47): door changes and requests to exit that wait stay as they were delivered, and the new kind takes them. -/
def State.fitToKind (s : State) (l : LaneId) : State :=
  s.fitDeliveries l (s.inputs.encodersA[l]).level (s.inputs.encodersB[l]).level

/-- A lane setup is applied: every field of the setup in force is written, with what follows for the lane, its mode, its
pair, its dead times and its heads (R66, R37, R84, R91, R161). -/
def State.applySetup (s : State) (l : LaneId) (setup : LaneSetup) : State :=
  let x := s.lane l
  let y := { x with setup := setup }
  let entryWas := s.inPollSet ⟨l, .inward⟩
  let exitWas := s.inPollSet ⟨l, .outward⟩
  let z :=
    if x.setup.kind ≠ setup.kind then s.takenKind l y
    else if x.setup.passageStep ≠ setup.passageStep then { y with encoder := 0 }
    else y
  let u := if x.setup.kind ≠ setup.kind then s.fitToKind l else s
  let t := ((u.setLane l z).kindInEvacuation l x.setup.kind setup.kind).fitPair l
  let v := (l :: ((s.partnerOf l).toList ++ (t.partnerOf l).toList)).foldl (State.keepDead s) t
  (v.dropIfLeft entryWas ⟨l, .inward⟩).dropIfLeft exitWas ⟨l, .outward⟩

/-- The lane becomes IDLE with no grant, and a pending setup is applied (R65, R73). -/
def State.becomeIdle (s : State) (l : LaneId) : State :=
  let x := s.lane l
  let t := s.setLane l { x with activity := .idle, grant := none, pendingSetup := none }
  match x.pendingSetup with
  | none => t
  | some p => t.applySetup l p

/-! ## The Punch Unit's part in a grant's course (R53, R57) -/

/-- The handed punch of a lane (R53). -/
def State.handedAt (s : State) (l : LaneId) : Option HandedPunch := s.punch.handed[l]

/-- The handed punch of a lane replaced. -/
def State.setHanded (s : State) (l : LaneId) (p : Option HandedPunch) : State :=
  s.setPunch { s.punch with handed := putAt s.punch.handed l p }

/-- A grant has ended: its handed punch is dropped and its slot's mark returns to none (R30, R54, R57). -/
def State.dropHanded (s : State) (l : LaneId) : State :=
  match s.handedAt l with
  | none => s
  | some p => (s.setHanded l none).clearMark l p.slot

/-- The classification a report gives: the original one of a punch turned by R52, and none for a visitor's (R45, R52, R54,
R57; log entry 38). -/
def HandedPunch.shown (p : HandedPunch) : Option Classification := p.original.or p.cls

/-- A void notice to the Punch Unit (R57). -/
def State.voidPunch (s : State) (l : LaneId) (cause : VoidCause) : State :=
  match s.handedAt l with
  | none => s
  | some p =>
    let t :=
      match cause with
      | .expiry => s.queueVerdict p.head (plainVerdict .finish)
      | .reverse => s.queueVerdict p.head (plainVerdict .finish)
      | .evacuation => s.queueVerdict p.head (plainVerdict .finish)
      | .warmRestart => s
      | .supplyHold => s
    let u := if cause = .supplyHold then t else t.sendReport (.void p.stamp l p.head p.badge p.slot p.shown cause)
    u.dropHanded l

/-- A release: the Punch Unit queues RELEASE or RELEASE_NOTED for the handed punch (R53). -/
def State.tellReleased (s : State) (l : LaneId) : State :=
  match s.handedAt l with
  | none => s
  | some p => s.queueVerdict p.head (releaseVerdict p)

/-- An interlock wait: the Punch Unit queues WAIT for the handed punch (R53). -/
def State.tellWaiting (s : State) (l : LaneId) : State :=
  match s.handedAt l with
  | none => s
  | some p => s.queueVerdict p.head (plainVerdict .wait)

/-- A refusal notice: the Punch Unit queues DENY_INTERLOCK and drops the handed punch (R53, R87). -/
def State.tellRefused (s : State) (l : LaneId) : State :=
  match s.handedAt l with
  | none => s
  | some p => (s.queueVerdict p.head (plainVerdict .denyInterlock)).dropHanded l

/-! ## Grants (R72, R85, R86) -/

/-- A grant is released: phase and activity RELEASED, the release expiry set, a turnstile's count 0, and the Punch Unit
told (R72). -/
def State.releaseGrant (s : State) (l : LaneId) (g : Grant) : State :=
  let x := s.lane l
  (s.setLane l { x with
    grant := some { g with phase := .released, releaseExpiry := some (s.inSeconds x.setup.releaseTime) }
    activity := .released
    encoder := if x.setup.kind = .turnstile then 0 else x.encoder }).tellReleased l

/-- A grant is held in INTERLOCK_WAIT, and the Punch Unit told (R85; log entry 16). -/
def State.holdGrant (s : State) (l : LaneId) (g : Grant) : State :=
  let x := s.lane l
  (s.setLane l { x with
    grant := some { g with
      phase := .waiting, waitEntry := s.elapsed, waitExpiry := s.inSeconds x.setup.waitLimit, releaseExpiry := none }
    activity := .interlockWait }).tellWaiting l

/-- A new grant of a kind and direction, not yet released or waiting (R72). -/
def newGrant (kind : GrantKind) (dir : Dir) (slot : Option Nat) (punch : Option (Option Stamp × Option Classification)) :
    Grant :=
  { kind := kind, dir := dir, slot := slot, punch := punch, phase := .waiting, waitEntry := 0, waitExpiry := 0,
    releaseExpiry := none, passageSeen := false }

/-- The waiting grant of a lane (R85). -/
def State.waitingGrant (s : State) (l : LaneId) : Option Grant :=
  match (s.lane l).grant with
  | some g => if g.phase = .waiting then some g else none
  | none => none

/-- Whether a lane's waiting grant goes before its partner's: it waits and its condition holds, and the partner does not
wait, or its condition fails, or its wait entry is later, or it is equal and its lane number higher (R86). -/
def State.goesFirst (s : State) (l p : LaneId) : Bool :=
  match s.waitingGrant l with
  | none => false
  | some g =>
    s.interlockClear l p &&
      match s.waitingGrant p with
      | none => true
      | some h =>
        !s.interlockClear p l || decide (g.waitEntry < h.waitEntry) ||
          (decide (g.waitEntry = h.waitEntry) && decide (l.val < p.val))

/-- The lane whose waiting grant a look of the arbiter releases, for the pair of `l` and `p` (R86). -/
def State.arbiterChoice (s : State) (l p : LaneId) : Option LaneId :=
  if s.goesFirst l p then some l else if s.goesFirst p l then some p else none

/-- A look of the arbiter at a pair: at most one waiting grant is released (R86). -/
def State.lookOnce (s : State) (l p : LaneId) : State :=
  match s.arbiterChoice l p with
  | none => s
  | some q =>
    match s.waitingGrant q with
    | none => s
    | some g => s.releaseGrant q g

/-- The look as a grant of lane `l` enters INTERLOCK_WAIT: the partner's waiting grant is released where its condition holds,
and the grant that enters is not released by its own entry (R86; log entry 16). -/
def State.lookAtPartner (s : State) (l p : LaneId) : State :=
  match s.waitingGrant p with
  | none => s
  | some g => if s.interlockClear p l then (s.releaseGrant p g).lookOnce l p else s

/-- Whether a lane that takes a grant holds it in INTERLOCK_WAIT: it is in a pair, and its interlock condition fails or its
partner waits. This is what the handing party is told at once (R72, R85). -/
def State.mustWait (s : State) (l : LaneId) : Bool :=
  match s.partnerOf l with
  | none => false
  | some p => !s.interlockClear l p || decide ((s.lane p).activity = .interlockWait)

/-- The arbiter's look as a grant of lane `l` enters INTERLOCK_WAIT, where the lane is in a pair (R86). -/
def State.lookAtEntry (s : State) (l : LaneId) : State :=
  match s.partnerOf l with
  | none => s
  | some p => s.lookAtPartner l p

/-- A lane takes a grant: at once, or waiting on its interlock partner, at which the arbiter then looks (R72, R85, R86; log
entry 16). -/
def State.takeGrant (s : State) (l : LaneId) (g : Grant) : State :=
  if s.mustWait l then (s.holdGrant l g).lookAtEntry l else s.releaseGrant l g

/-- The arbiter of a lane's pair looks at its waiting lanes, and again as a grant it released has left INTERLOCK_WAIT
(R86; log entry 16). -/
def State.look (s : State) (l : LaneId) : State :=
  match s.partnerOf l with
  | none => s
  | some p =>
    match s.arbiterChoice l p with
    | none => s
    | some _ => (s.lookOnce l p).lookOnce l p

/-- The arbiter looks where a lane's release output has changed its driven level (R86, R160). -/
def State.lookIfChanged (s : State) (l : LaneId) : State :=
  if s.driveRelease l = s.inputs.drivenRelease[l] then s else s.look l

/-- Levels are settled after a change of a request, a hold, the evacuation state or the supply state: each pair with a
changed driven level is looked at, and every requested and driven level is taken again (R71, R86, R160; log entry 33). -/
def State.settle (s : State) : State := (allLanes.foldl State.lookIfChanged s).retakeLevels

/-! ## The ends of a grant (R73) -/

/-- What ends a grant (R73). -/
inductive GrantEnd where
  | finished
  | void (cause : VoidCause)
  | refused
deriving DecidableEq, Repr

/-- The Punch Unit is given the notice of a grant's end (R73). -/
def State.noticeEnd (s : State) (l : LaneId) (how : GrantEnd) : State :=
  match how with
  | .finished => s.dropHanded l
  | .void cause => s.voidPunch l cause
  | .refused => s.tellRefused l

/-- A lane's grant ends: the notice is given, the lane is IDLE, and a pending setup is applied (R73). -/
def State.endGrant (s : State) (l : LaneId) (how : GrantEnd) : State := (s.noticeEnd l how).becomeIdle l

/-- The count of a turnstile returns to 0 (R82). -/
def State.zeroEncoder (s : State) (l : LaneId) : State := s.setLane l { s.lane l with encoder := 0 }

/-- A lane's grant, released or waiting, is voided where it holds one (R91, R92, R93). -/
def State.voidGrant (cause : VoidCause) (s : State) (l : LaneId) : State :=
  match (s.lane l).grant with
  | none => s
  | some _ => s.endGrant l (.void cause)

/-- A lane in REFERRAL_WAIT whose wait is cancelled: END is queued where it is due, and the lane is IDLE (R62, R65). -/
def State.cancelWait (withEnd : Bool) (s : State) (l : LaneId) : State :=
  match s.punch.waits[l] with
  | none => s
  | some w =>
    let t := if withEnd then s.queueVerdict w.head (plainVerdict .finish) else s
    (t.setPunch { t.punch with waits := putAt t.punch.waits l none }).becomeIdle l

end Sys2Proof.Machine
end

