-- ==== Sys2Proof/Machine/Flags.lean ====
section
/-!
DEFINITION. The flags of a shift record (R107): those a closure adds by its cause, an open break and the captured counts
(R106), and their bits in the SHIFT_TOTAL entry (11, Layouts).
-/
namespace Sys2Proof.Machine

/-- What ends an open record (R106). -/
inductive ClosureCause where
  | clockOut
  | expiry
  | forced
deriving DecidableEq, Repr

/-- The last pair of a break list is open (R100). -/
def lastOpen (l : List BreakPair) : Bool :=
  match l.getLast? with
  | some p => p.back.isNone
  | none => false

/-- The break list with its last pair's in stamp set, where that pair is open (R100, R106 step 3). -/
def closeLast (t : Stamp) : List BreakPair → List BreakPair
  | [] => []
  | [p] => [if p.back.isNone then { p with back := some t } else p]
  | p :: rest => p :: closeLast t rest

/-- The record's flags after steps 2 to 4 of a closure: MISSING_OUT or WITHDRAWN by the cause, BREAK_OPEN for an open
break, and CLOCK_STEPPED, HOLD and RULES_CHANGED where the captured counts differ from those held (R106). -/
def closureFlags (d : RecordData) (cause : ClosureCause) (stepCount holdCount generation : Nat) : RecordFlags :=
  { d.flags with
    missingOut := d.flags.missingOut || decide (cause = .expiry)
    withdrawn := d.flags.withdrawn || decide (cause = .forced)
    breakOpen := d.flags.breakOpen || lastOpen d.breaks
    clockStepped := d.flags.clockStepped || decide (d.stepCount ≠ stepCount)
    hold := d.flags.hold || decide (d.holdCount ≠ holdCount)
    rulesChanged := d.flags.rulesChanged || decide (d.generation ≠ generation) }

/-- The flags as the two bytes of a SHIFT_TOTAL entry: bit 0 OFF_WINDOW to bit 9 CAPPED (11, Layouts). -/
def RecordFlags.bits (f : RecordFlags) : BitVec 16 :=
  BitVec.ofNat 16 (f.offWindow.toNat + 2 * f.unscheduled.toNat + 4 * f.missingOut.toNat + 8 * f.withdrawn.toNat +
    16 * f.breakOpen.toNat + 32 * f.clockStepped.toNat + 64 * f.hold.toNat + 128 * f.rulesChanged.toNat +
    256 * f.negative.toNat + 512 * f.capped.toNat)

end Sys2Proof.Machine
end

