-- ==== Sys2Proof/Machine/Pay.lean ====
section
/-!
DEFINITION. The Pay Calculator (06): the rounding grid and the twelve stages that make a shift total, each stage a function
of the figures before it, on whole numbers.
-/
namespace Sys2Proof.Machine

/-! ## The rounding grid (R116) -/

/-- The largest grid point at or below a stamp, for a unit of `u` seconds. -/
def gridDown (u : Nat) (t : Stamp) : Stamp := t / u * u

/-- The smallest grid point at or above a stamp; past the last grid point of day 65,535 it is the next day's first (log entry
34). -/
def gridUp (u : Nat) (t : Stamp) : Stamp := (t + u - 1) / u * u

/-- The nearest grid point, half a unit rounding up. -/
def gridNearest (u : Nat) (t : Stamp) : Stamp := if t - gridDown u t < u / 2 then gridDown u t else gridUp u t

/-- The rounding of a punch on the in side, leaning the way of the mode (R117). A rounding mode that is none of the three,
which LOAD END keeps out of an active bank, rounds as NEAREST (log entry 20). -/
def roundIn (c : PayClass) (t : Stamp) : Stamp :=
  match c.rounding with
  | .listed .nearest => gridNearest (60 * c.unit) t
  | .listed .plant => gridUp (60 * c.unit) t
  | .listed .worker => gridDown (60 * c.unit) t
  | .unlisted _ => gridNearest (60 * c.unit) t

/-- The rounding of a punch on the out side (R118). -/
def roundOut (c : PayClass) (t : Stamp) : Stamp :=
  match c.rounding with
  | .listed .nearest => gridNearest (60 * c.unit) t
  | .listed .plant => gridDown (60 * c.unit) t
  | .listed .worker => gridUp (60 * c.unit) t
  | .unlisted _ => gridNearest (60 * c.unit) t

/-! ## The stages -/

/-- Stage 1, the effective in (R117). -/
def effectiveIn (c : PayClass) (d : RecordData) : Stamp :=
  if d.flags.unscheduled then d.schedStart
  else if d.inStamp + 60 * c.inEarly < d.schedStart then (if c.earlyPaid then roundIn c d.inStamp else d.schedStart)
  else if d.inStamp ≤ d.schedStart + 60 * c.inLate then d.schedStart
  else roundIn c d.inStamp

/-- Stage 2, the effective out (R118). -/
def effectiveOut (c : PayClass) (d : RecordData) (out : Stamp) : Stamp :=
  if out + 60 * c.outEarly < d.schedEnd then roundOut c out
  else if out ≤ d.schedEnd + 60 * c.outLate then d.schedEnd
  else if c.latePaid then roundOut c out else d.schedEnd

/-- Stage 3, gross time with the flags NEGATIVE and CAPPED (R120). -/
def grossTime (effIn effOut : Stamp) : Nat × Bool × Bool :=
  if effOut < effIn then (0, true, false)
  else if 1440 < (effOut - effIn) / 60 then (1440, false, true)
  else ((effOut - effIn) / 60, false, false)

/-- The minutes of one break pair: the span rounded up to whole minutes, 0 where the in stamp precedes the out stamp
(R121). -/
def pairMinutes (p : BreakPair) : Nat :=
  match p.back with
  | some t => (t - p.out + 59) / 60
  | none => 0

/-- Stage 4, break minutes, capped at gross (R121). -/
def breakMinutes (l : List BreakPair) (gross : Nat) : Nat := min gross ((l.map pairMinutes).sum)

/-- Stage 5, the meal deduction (R122). -/
def mealDeduction (c : PayClass) (gross unpaid : Nat) : Nat :=
  if 0 < c.mealThreshold ∧ c.mealThreshold ≤ gross then c.mealLength - unpaid else 0

/-- Whether a minute of day lies in the night band (R124). -/
def inNightBand (first last minute : Nat) : Bool :=
  if first < last then decide (first ≤ minute) && decide (minute < last)
  else if last < first then decide (first ≤ minute) || decide (minute < last)
  else false

/-- The minutes of a day before minute `m` that lie in the night band. -/
def bandBefore (first last m : Nat) : Nat :=
  if first < last then min m last - min m first
  else if last < first then min m last + (m - first)
  else 0

/-- The minutes of plant time before minute `m` that lie in the night band. -/
def bandMinutes (first last m : Nat) : Nat := m / 1440 * bandBefore first last 1440 + bandBefore first last (m % 1440)

/-- Stage 7, the night overlap: the whole minutes from `effIn` up to but not including `effOut` in the band (R124). -/
def nightOverlap (c : PayClass) (effIn effOut : Stamp) : Nat :=
  if effIn < effOut then
    bandMinutes c.nightStart c.nightEnd (effOut / 60) - bandMinutes c.nightStart c.nightEnd (effIn / 60)
  else 0

/-- The week total the shift is measured against, and whether the result is stored (R127). -/
def weekBase (slotWeek slotTotal anchorWeek : Nat) : Nat × Bool :=
  if slotWeek < anchorWeek then (0, true)
  else if slotWeek = anchorWeek then (slotTotal, true)
  else (0, false)

/-- Stage 10, weekly overtime (R128). -/
def weeklyOvertime (c : PayClass) (base reg1 : Nat) : Nat := min reg1 (base + reg1 - c.weeklyThreshold)

/-- Stage 12, the pay value (R130). -/
def payValue (c : PayClass) (holiday : Bool) (regular overtime night : Nat) : Nat :=
  if holiday then regular * c.holidayRate + overtime * max c.overtimeRate c.holidayRate + night * c.nightPremium
  else regular * 100 + overtime * c.overtimeRate + night * c.nightPremium

/-- What a closure hands the Pay Calculator (R113). -/
structure PayInput where
  cls : PayClass
  classIndex : Nat
  slot : Nat
  badge : Nat
  generation : Nat
  slotWeek : Nat
  slotTotal : Nat
  holiday : Bool
  data : RecordData
  outStamp : Stamp
deriving DecidableEq, Repr

/-- The shift total a closure makes, all stages in order (R115, R131). -/
def shiftTotal (x : PayInput) : ShiftTotal :=
  let effIn := effectiveIn x.cls x.data
  let effOut := effectiveOut x.cls x.data x.outStamp
  let g := grossTime effIn effOut
  let breaks := breakMinutes x.data.breaks g.1
  let unpaid := breaks - x.cls.paidBreak
  let meal := mealDeduction x.cls g.1 unpaid
  let worked := g.1 - unpaid - meal
  let night := min (nightOverlap x.cls effIn effOut) worked
  let daily := worked - x.cls.dailyThreshold
  let reg1 := worked - daily
  let weekly := weeklyOvertime x.cls (weekBase x.slotWeek x.slotTotal x.data.anchorWeek).1 reg1
  let regular := reg1 - weekly
  { badge := x.badge, slot := x.slot, payClass := x.classIndex, pattern := x.data.pattern, generation := x.generation,
    schedStart := x.data.schedStart, schedEnd := x.data.schedEnd, anchorWeek := x.data.anchorWeek,
    inStamp := x.data.inStamp, outStamp := x.outStamp, effIn := effIn, effOut := effOut, gross := g.1, breaks := breaks,
    unpaidBreak := unpaid, meal := meal, worked := worked, regular := regular, dailyOver := daily, weeklyOver := weekly,
    night := night, holiday := x.holiday, pay := payValue x.cls x.holiday regular (daily + weekly) night,
    flags := { x.data.flags with negative := g.2.1, capped := g.2.2 } }

/-- The slot's week index and week regular total after a closure: what stage 10 stores, or the fields as they stand
(R127, R128). -/
def weekAfter (x : PayInput) : Nat × Nat :=
  let b := weekBase x.slotWeek x.slotTotal x.data.anchorWeek
  if b.2 then (x.data.anchorWeek, b.1 + (shiftTotal x).regular) else (x.slotWeek, x.slotTotal)

end Sys2Proof.Machine
end

