-- ==== Sys2Proof/Machine/Records.lean ====
section
/-!
DEFINITION. The Record Unit (05): opening a record, breaks, closure with its total, the deadline list, and the closure
queue with the moving of waiting totals.
-/
namespace Sys2Proof.Machine

/-- The record data of an open record (R94). -/
def ShiftRecord.openData : ShiftRecord → Option RecordData
  | .off => none
  | .onShift d _ => some d
  | .onBreak d _ => some d
  | .closedWaiting _ _ _ => none

/-- The deadline of an open record (R94). -/
def ShiftRecord.deadline : ShiftRecord → Option Stamp
  | .off => none
  | .onShift _ t => some t
  | .onBreak _ t => some t
  | .closedWaiting _ _ _ => none

/-- The deadline of the record of a slot. -/
def State.deadlineOf (s : State) (a : Nat) : Option Stamp := (s.slot a).record.deadline

/-- A reference joins the deadline list after every reference with the same or an earlier deadline (R101). -/
def insertDeadline (deadlineOf : Nat → Option Stamp) (a : Nat) (t : Stamp) : List Nat → List Nat
  | [] => [a]
  | x :: rest =>
    match deadlineOf x with
    | some u => if t < u then a :: x :: rest else x :: insertDeadline deadlineOf a t rest
    | none => x :: insertDeadline deadlineOf a t rest

/-- A record's state and fields are written in its slot. -/
def State.setRecord (s : State) (a : Nat) (r : ShiftRecord) : State := s.setSlot a { s.slot a with record := r }

/-- The Record Unit's answer to a classified punch (R95). -/
inductive RecordAnswer where
  | applied
  | doesNotApply
  | lost
deriving DecidableEq, Repr

/-! ## Clock-in and breaks (R97, R98, R100) -/

/-- The scheduled start and end fixed at clock-in, and whether the record is UNSCHEDULED (R96, R97). -/
def State.anchor (s : State) (pattern : Nat) (i : Stamp) : Stamp × Stamp × Bool :=
  let p := s.activeBank.shiftPattern pattern
  match nearestStart s.activeBank s.time.weekdayOffset p i with
  | some t => (t, t + 60 * p.length, false)
  | none => (i / 60 * 60, i / 60 * 60 + 28800, true)

/-- What a record holds when it opens (R98 steps 1, 2, 4, 5, 6). -/
def State.openedData (s : State) (x : Slot) (i : Stamp) (offWindow : Bool) : RecordData :=
  let a := s.anchor x.pattern i
  { inStamp := i, pattern := x.pattern, schedStart := a.1, schedEnd := a.2.1, anchorDay := dayOf a.1,
    anchorWeek := s.weekOf a.1, breaks := [], generation := s.banks.generation, stepCount := s.time.stepCount,
    holdCount := s.time.holdCount, flags := { RecordFlags.none with offWindow := offWindow, unscheduled := a.2.2 } }

/-- A CLOCK_IN opens an OFF record and puts it into the deadline list (R98). -/
def State.openRecord (s : State) (a : Nat) (i : Stamp) (offWindow : Bool) : State :=
  let x := s.slot a
  let d := s.openedData x i offWindow
  let t := d.schedEnd + 60 * (s.activeBank.payClass x.payClass).autoClose
  let u := s.setRecord a (.onShift d t)
  u.setRecords { u.records with deadlines := insertDeadline s.deadlineOf a t s.records.deadlines }

/-! ## Closure (R106, R109) -/

/-- Where a closure's total went (R109). -/
inductive Placement where
  | spooled
  | waiting
  | abandoned
deriving DecidableEq, Repr

/-- What a closure hands the Pay Calculator, its record's flags and breaks set (R106 steps 2–5, R113). -/
def State.closureInput (s : State) (a : Nat) (d : RecordData) (out : Stamp) (cause : ClosureCause) : PayInput :=
  let x := s.slot a
  { cls := s.activeBank.payClass x.payClass, classIndex := x.payClass, slot := a, badge := x.badge.getD 0,
    generation := s.banks.generation, slotWeek := x.weekIndex, slotTotal := x.weekTotal,
    holiday := s.activeBank.isHoliday d.anchorDay,
    data := { d with flags := closureFlags d cause s.time.stepCount s.time.holdCount s.banks.generation
                     breaks := closeLast out d.breaks },
    outStamp := out }

/-- A total made at closure is placed: in the spool, the record becoming OFF, where the closure queue is empty and the Spool
admits it; otherwise in the CLOSED_WAITING record, at the tail of the queue (R109). -/
def State.placeTotal (s : State) (a : Nat) (d : RecordData) (out : Stamp) (t : ShiftTotal) : State × Placement :=
  match (if s.records.closureQueue = [] then s.offerTotal t else none) with
  | some u => (u.setRecord a .off, .spooled)
  | none =>
    let u := s.setRecord a (.closedWaiting { d with flags := t.flags } out t)
    (u.setRecords { u.records with closureQueue := u.records.closureQueue ++ [a] }, .waiting)

/-- An open record is closed at an out-stamp: its reference leaves the deadline list, its flags and an open break are set,
its pay is computed and its total placed. A slot found DAMAGED, or a record that is not open, abandons it (R106). -/
def State.closeRecord (s : State) (a : Nat) (out : Stamp) (cause : ClosureCause) : State × Placement :=
  let t := s.checkedRead a
  match (t.slot a).record.openData with
  | none => (t, .abandoned)
  | some d =>
    let u := t.setRecords { t.records with deadlines := t.records.deadlines.filter fun x => decide (x ≠ a) }
    let x := u.closureInput a d out cause
    let w := weekAfter x
    let v := u.setSlot a { u.slot a with weekIndex := w.1, weekTotal := w.2 }
    v.placeTotal a x.data out (shiftTotal x)

/-- A classified punch is handed to the Record Unit at commit (R95, R98, R100). -/
def State.recordPunch (s : State) (a : Nat) (cls : Classification) (i : Stamp) (offWindow : Bool) :
    State × RecordAnswer :=
  let t := s.checkedRead a
  if t.statusOf a ≠ .active then (t, .lost)
  else match cls, (t.slot a).record with
    | .clockIn, .off => (t.openRecord a i offWindow, .applied)
    | .breakOut, .onShift d e =>
      if d.breaks.length < 4 then (t.setRecord a (.onBreak { d with breaks := d.breaks ++ [⟨i, none⟩] } e), .applied)
      else (t, .doesNotApply)
    | .breakIn, .onBreak d e => (t.setRecord a (.onShift { d with breaks := closeLast i d.breaks } e), .applied)
    | .clockOut, .onShift _ _ => ((t.closeRecord a i .clockOut).1, .applied)
    | .clockOut, .onBreak _ _ => ((t.closeRecord a i .clockOut).1, .applied)
    | _, _ => (t, .doesNotApply)

/-! ## Deadlines (R102–R104) -/

/-- One look at the head of the deadline list: where its deadline is at or before `b`, its record closes with O = E and
MISSING_OUT (R102). None where the head is not due. -/
def State.closeHead (s : State) (b : Stamp) : Option State :=
  match s.records.deadlines with
  | [] => none
  | a :: _ =>
    match (s.slot a).record.openData, s.deadlineOf a with
    | some d, some t => if t ≤ b then some (s.closeRecord a d.schedEnd .expiry).1 else none
    | _, _ => none

/-- Looks at the deadline list's head, at most `n` of them, each closing one record, until a head is not due. -/
def State.closeDueLoop : Nat → State → Stamp → State
  | 0, s, _ => s
  | n + 1, s, b =>
    match s.closeHead b with
    | none => s
    | some t => State.closeDueLoop n t b

/-- Every record whose deadline lies at or before `b` closes, in list order (R102, R103, R104). -/
def State.closeDue (s : State) (b : Stamp) : State := State.closeDueLoop s.records.deadlines.length s b

/-! ## Moving waiting totals (R110) -/

/-- One head of the closure queue, and whether the moving goes on: a slot found DAMAGED has left the queue; a total the
Spool admits leaves it, its record becoming OFF and a WITHDRAWN slot FREE; a refused one stays, and ends the moving
(R110). -/
def State.moveHead (s : State) : State × Bool :=
  match s.records.closureQueue with
  | [] => (s, false)
  | a :: _ =>
    let t := s.checkedRead a
    if t.isDamaged a then (t, true)
    else match (t.slot a).record with
      | .closedWaiting _ _ total =>
        match t.offerTotal total with
        | none => (t, false)
        | some u =>
          let v := u.setRecords { u.records with closureQueue := u.records.closureQueue.filter fun x => decide (x ≠ a) }
          (if (v.slot a).status = .withdrawn then v.freeSlotAt a else v.setRecord a .off, true)
      | _ => (t, false)

/-- Heads of the closure queue moved, at most `n` of them, until one is refused. -/
def State.moveLoop : Nat → State → State
  | 0, s => s
  | n + 1, s =>
    let m := s.moveHead
    if m.2 then State.moveLoop n m.1 else m.1

/-- The moving of waiting totals after a room report (R110). -/
def State.moveTotals (s : State) : State := State.moveLoop s.records.closureQueue.length s

end Sys2Proof.Machine
end

