-- ==== Sys2Proof/Machine/Judge.lean ====
section
/-!
DEFINITION. Judging a punch and committing it (03): the checks of R42 in their order, classification (R48), the miss policy
and referral (R45, R58), the grant of a punch (R53), and the commit with its notes and report (R54–R56).
-/
namespace Sys2Proof.Machine

/-! ## Commit (R54, R55, R56) -/

/-- PASS_IN at an entry head, PASS_OUT at an exit head. -/
def passOf : Dir → Classification
  | .inward => .passIn
  | .outward => .passOut

/-- The note causes a commit writes, in order: those its punch carries, then NOT_RECORDED for a worker's punch that is not
recorded (R56). -/
def commitNotes (p : HandedPunch) : List NoteCause :=
  p.notes ++ (if p.notRecorded = true ∧ p.slot.isSome = true then [.notRecorded] else [])

/-- The classification a note gives: the report's, or for a visitor PASS_IN or PASS_OUT by its head (R56). -/
def HandedPunch.noted (p : HandedPunch) : Classification := p.shown.getD (passOf p.head.dir)

/-- One note of a commit is requested (R56). -/
def State.writeNote (l : LaneId) (p : HandedPunch) (s : State) (c : NoteCause) : State :=
  s.requestEntry (.punchNote p.stamp l p.head p.badge p.noted c)

/-- Steps 4 and 5 of a commit: the notes, and the PASS report (R54). -/
def State.noteAndReport (s : State) (l : LaneId) (p : HandedPunch) : State :=
  ((commitNotes p).foldl (State.writeNote l p) s).sendReport
    (.pass p.stamp l p.head p.badge p.slot p.shown p.notRecorded)

/-- The classification with which a punch is handed to the Record Unit at its commit; none where it is not handed (R54
step 1). -/
def HandedPunch.recorded (p : HandedPunch) : Option Classification :=
  if p.notRecorded = true ∨ p.cls = some .passIn ∨ p.cls = some .passOut then none else p.cls

/-- Step 1 of a commit at an ACTIVE slot: the record takes the punch; one that no longer fits becomes PASS_IN or PASS_OUT,
NOT_RECORDED (R54, R55). -/
def State.commitRecord (s : State) (a : Nat) (p : HandedPunch) : State × HandedPunch :=
  match p.recorded, p.stamp with
  | some c, some i =>
    let r := s.recordPunch a c i p.offWindow
    match r.2 with
    | .applied => (r.1, p)
    | .doesNotApply => (r.1, { p with cls := some (passOf p.head.dir), notRecorded := true })
    | .lost => (r.1, { p with notRecorded := true })
  | _, _ => (s, p)

/-- Steps 2 and 3 of a commit: presence at the current epoch, and the last punch where the read stamp is present (R54,
R27, R31). What decides is the punch's read stamp, not the clock at the commit (log entry 39). -/
def State.commitSlot (s : State) (a : Nat) (p : HandedPunch) : State :=
  (s.writeSlot a false fun x => { x with
    inside := decide (p.head.dir = .inward)
    presenceStamp := s.roster.epoch
    lastPunch := match p.stamp with | some i => some (i, p.head) | none => x.lastPunch }).1

/-- A commit of a punch at lane `l` (R54). A slot whose request is not performed, a DAMAGED one among them, takes no write
and the punch is NOT_RECORDED (R55; log entry 14). -/
def State.commit (s : State) (l : LaneId) (p : HandedPunch) : State :=
  match p.slot with
  | none => s.noteAndReport l p
  | some a =>
    let t := s.checkedRead a
    if t.statusOf a = .active then
      let r := t.commitRecord a p
      (r.1.commitSlot a r.2).noteAndReport l r.2
    else t.noteAndReport l { p with notRecorded := true }

/-- A passage notice: the handed punch of a lane is committed (R54, R75). -/
def State.passageNotice (s : State) (l : LaneId) : State :=
  match s.handedAt l with
  | none => s
  | some p => s.commit l p

/-! ## Classification (R48, R49) -/

/-- What the classification of a punch gives (R48). -/
structure Classified where
  cls : Classification
  note : Option NoteCause
  notRecorded : Bool
  /-- the unrecorded count rises -/
  raises : Bool
deriving DecidableEq, Repr

/-- The classification of a punch from its head, the record and the intent (R48). -/
def classify (d : Dir) (r : ShiftRecord) (i : Intent) : Classified :=
  match d, r with
  | .inward, .off => ⟨.clockIn, none, false, false⟩
  | .inward, .onBreak _ _ => ⟨.breakIn, none, false, false⟩
  | .inward, .onShift _ _ => ⟨.passIn, some .duplicateIn, false, false⟩
  | .inward, .closedWaiting _ _ _ => ⟨.passIn, none, true, true⟩
  | .outward, .onShift d _ =>
    match i with
    | .normal => ⟨.clockOut, none, false, false⟩
    | .breakKey => if d.breaks.length < 4 then ⟨.breakOut, none, false, false⟩ else ⟨.passOut, some .breakLimit, false, false⟩
  | .outward, .onBreak _ _ => ⟨.clockOut, none, false, false⟩
  | .outward, .off => ⟨.passOut, none, false, false⟩
  | .outward, .closedWaiting _ _ _ => ⟨.passOut, none, false, false⟩

/-! ## The checks of a punch (R46–R52) -/

/-- A punch being judged: what its frame gave and its read stamp (R42). -/
structure PunchRead where
  head : Head
  badge : Nat
  intent : Intent
  stamp : Option Stamp
deriving DecidableEq, Repr

/-- A punch's outcome: the state and the code of the verdict queued first for it. -/
abbrev Judged := State × VerdictCode

/-- A check that ends a punch queues its verdict for the head (R42). -/
def State.endPunch (s : State) (h : Head) (v : Verdict) : Judged := (s.queueVerdict h v, v.code)

/-- Whether the repeat guard refuses a punch (R47). -/
def repeatCaught (guardSeconds : Nat) (p : PunchRead) (x : Slot) : Bool :=
  match p.stamp, x.lastPunch with
  | some t, some (u, h) =>
    decide (0 < guardSeconds) && decide (h = p.head) && decide (u ≤ t) && decide (t - u < guardSeconds)
  | _, _ => false

/-- Whether a punch at a head violates passback against presence as read (R50). -/
def passbackViolated (d : Dir) (r : PresenceRead) : Bool :=
  match d, r with
  | .inward, .inside => true
  | .outward, .outside => true
  | _, _ => false

/-- What the admit window says of a punch (R51). -/
inductive WindowAnswer where
  | within
  | offWindow
  | denied
deriving DecidableEq, Repr

/-- The admit window of a CLOCK_IN with a read stamp (R51). -/
def State.admitWindow (s : State) (x : Slot) (i : Stamp) : WindowAnswer :=
  let c := s.activeBank.payClass x.payClass
  match nearestStart s.activeBank s.time.weekdayOffset (s.activeBank.shiftPattern x.pattern) i with
  | none => .within
  | some t =>
    if t ≤ i + 60 * c.admitEarly ∧ i ≤ t + 60 * c.admitLate then .within
    else if c.anyTime then .offWindow else .denied

/-- The window's answer for a classified punch: only a CLOCK_IN with its read stamp present is judged (R51). -/
def State.windowFor (s : State) (x : Slot) (cls : Classification) (stamp : Option Stamp) : WindowAnswer :=
  match cls, stamp with
  | .clockIn, some i => s.admitWindow x i
  | _, _ => .within

/-! ## Grants of punches (R45, R53) -/

/-- The grant that a handed punch asks for (R53, R45). -/
def grantFor (p : HandedPunch) : Grant :=
  newGrant (if p.slot.isSome then .worker else .visitor) p.head.dir p.slot (some (p.stamp, p.cls))

/-- The pending-grant mark of a handed punch's slot is set to its lane (R30). -/
def State.setMark (s : State) (l : LaneId) (slot : Option Nat) : State :=
  match slot with
  | none => s
  | some a => (s.writeSlot a false fun x => { x with mark := some l }).1

/-- Check 12: in FREE mode the punch commits at once; otherwise it becomes a grant of the lane, and the verdict queued first is
WAIT where the lane holds the grant in INTERLOCK_WAIT, whatever the arbiter then does with it (R53, R60, R68, R72; log entry
36). -/
def State.grantPunch (s : State) (p : HandedPunch) : Judged :=
  let l := p.head.lane
  if (s.lane l).mode = .free then
    ((s.queueVerdict p.head (releaseVerdict p)).commit l p, (releaseVerdict p).code)
  else
    (((s.setMark l p.slot).setHanded l (some p)).takeGrant l (grantFor p), if s.mustWait l then .wait else (releaseVerdict p).code)

/-- A visitor's handed punch, which has no classification (R45). -/
def visitorPunch (p : PunchRead) : HandedPunch :=
  { head := p.head, badge := p.badge, stamp := p.stamp, slot := none, cls := none, original := none,
    notes := [.missAdmitted], notRecorded := true, offWindow := false }

/-- The miss policy of the lane (R45). -/
def State.applyMiss (s : State) (p : PunchRead) : Judged :=
  match (s.lane p.head.lane).setup.miss with
  | .deny => s.endPunch p.head (plainVerdict .denyUnknown)
  | .admitNoted => s.grantPunch (visitorPunch p)

/-- The punch enters a referral wait (R58). -/
def State.startReferral (s : State) (p : PunchRead) : Judged :=
  let l := p.head.lane
  let w : ReferralWait :=
    { head := p.head, badge := p.badge, intent := p.intent, stamp := p.stamp,
      expiry := s.inSeconds s.setup.general.referralTimeout }
  let t := (s.setPunch { s.punch with waits := putAt s.punch.waits l (some w) }).setLane l
    { s.lane l with activity := .referralWait }
  ((t.queueVerdict p.head (plainVerdict .wait)).sendReport (.referral p.stamp l p.head p.badge p.intent), .wait)

/-- A lookup miss: a referral where the part is ONLINE and the lane refers, otherwise the miss policy (R45). -/
def State.missed (s : State) (p : PunchRead) : Judged :=
  if s.link.online = true ∧ (s.lane p.head.lane).setup.referral = true then s.startReferral p else s.applyMiss p

/-! ## Judging (R42) -/

/-- The handed punch of a worker that has passed checks 5 to 11; with the read stamp absent, R52 has turned it. -/
def workerPunch (p : PunchRead) (a : Nat) (c : Classified) (soft offWindow : Bool) : HandedPunch :=
  { head := p.head, badge := p.badge, stamp := p.stamp, slot := some a
    cls := some (if p.stamp.isNone then passOf p.head.dir else c.cls)
    original := if p.stamp.isNone then some c.cls else none
    notes := c.note.toList ++ (if soft then [.passbackSoft] else []) ++ (if offWindow then [.offWindow] else [])
    notRecorded := c.notRecorded || p.stamp.isNone
    offWindow := offWindow }

/-- Checks 9 to 12 of a classified punch (R50–R53). -/
def State.judgeClassified (s : State) (p : PunchRead) (a : Nat) (c : Classified) : Judged :=
  let x := s.slot a
  let policy := (s.lane p.head.lane).setup.passback
  let violated := passbackViolated p.head.dir (s.presenceOf x)
  if violated = true ∧ policy = .hard then s.endPunch p.head (plainVerdict .denyPassback)
  else match s.windowFor x c.cls p.stamp with
    | .denied => s.endPunch p.head (plainVerdict .denyWindow)
    | .within => s.grantPunch (workerPunch p a c (violated && decide (policy = .soft)) false)
    | .offWindow => s.grantPunch (workerPunch p a c (violated && decide (policy = .soft)) true)

/-- The unrecorded count of a slot rises by one, stopping at 255 (R31, R49). -/
def State.raiseUnrecorded (s : State) (a : Nat) (yes : Bool) : State :=
  if yes then (s.writeSlot a false fun x => { x with unrecorded := satAdd 255 x.unrecorded 1 }).1 else s

/-- Checks 5 to 12, for a punch whose slot is known: the course of a matched punch, and of one resumed by a ruling (R42,
R60). -/
def State.judgeSlot (s : State) (p : PunchRead) (a : Nat) : Judged :=
  let x := s.slot a
  let inUse := match x.mark with | none => false | some m => decide (m ≠ p.head.lane)
  if inUse then s.endPunch p.head (plainVerdict .denyInUse)
  else if repeatCaught s.setup.general.repeatGuard p x then s.endPunch p.head (plainVerdict .again)
  else if inSet x.lanes p.head.lane.val then
    let c := classify p.head.dir x.record p.intent
    (s.raiseUnrecorded a c.raises).judgeClassified p a c
  else s.endPunch p.head (plainVerdict .denyLane)

/-- Checks 1 to 4, then the rest (R42, R44). -/
def State.judge (s : State) (p : PunchRead) : Judged :=
  let x := s.lane p.head.lane
  if x.mode = .egress then s.endPunch p.head ⟨.release, .pass, true⟩
  else if x.mode = .locked then s.endPunch p.head (plainVerdict .denyLocked)
  else if x.activity ≠ .idle then s.endPunch p.head (plainVerdict .busy)
  else if p.badge = 0 ∨ p.badge = 4294967295 then s.endPunch p.head (plainVerdict .denyUnknown)
  else
    let r := s.lookup p.badge
    match r.2 with
    | none => r.1.missed p
    | some a => r.1.judgeSlot p a

/-! ## The end of a referral wait (R59–R61) -/

/-- A lane leaves REFERRAL_WAIT as its wait ends; its pending setup waits until it is known whether a grant follows
(R65). -/
def State.leaveWait (s : State) (l : LaneId) : State :=
  (s.setPunch { s.punch with waits := putAt s.punch.waits l none }).setLane l { s.lane l with activity := .idle }

/-- A lane that a referral's end has left IDLE takes its pending setup (R65). -/
def State.settleIdle (s : State) (l : LaneId) : State :=
  if (s.lane l).activity = .idle then s.becomeIdle l else s

/-- The punch a referral wait holds. -/
def ReferralWait.punch (w : ReferralWait) : PunchRead := ⟨w.head, w.badge, w.intent, w.stamp⟩

end Sys2Proof.Machine
end

