-- ==== Sys2Proof/Machine/Operands.lean ====
section
/-!
DEFINITION. The operand checks of orders: the ranges that a roster or bank order refuses beyond, and the clamping of a
SETUP WRITE's numbers with the refusal of its unlisted values (R16, R64, R139, R154, R156, R191).
-/
namespace Sys2Proof.Machine

/-- A badge number that belongs to a bucket: 1 to 4,294,967,294 (R16). -/
def validBadge (b : Nat) : Bool := decide (1 ≤ b) && decide (b ≤ 4294967294)

/-- A slot address within the roster (R16). -/
def validAddress (a : Nat) : Bool := decide (a ≤ 6143)

/-- Enrol fields with their indices in range (R21). -/
def validIndices (payClass pattern : Nat) : Bool := decide (payClass ≤ 15) && decide (pattern ≤ 63)

/-- A setup number brought to the nearer end of its range (R191). -/
def clamp (lo hi n : Nat) : Nat := max lo (min hi n)

/-- A sample period taken as the next of 1, 2, 5 and 10 ms above it, or as 10 ms (R154). -/
def clampPeriod (p : Nat) : Nat := if p ≤ 1 then 1 else if p ≤ 2 then 2 else if p ≤ 5 then 5 else 10

/-- A debounce setting brought within range (R154). -/
def clampDebounce (d : DebounceSetting) : DebounceSetting := ⟨clampPeriod d.period, clamp 2 15 d.count⟩

/-- The general part brought within range (R191). -/
def clampGeneral (g : GeneralSetup) : GeneralSetup :=
  { repeatGuard := clamp 0 60 g.repeatGuard
    referralTimeout := clamp 1 10 g.referralTimeout
    offlineTimeout := clamp 5 255 g.offlineTimeout
    weekStart := clamp 0 10079 g.weekStart
    generalDebounce := clampDebounce g.generalDebounce
    contactDebounce := clampDebounce g.contactDebounce
    encoderDebounce := clampDebounce g.encoderDebounce }

/-- The set of the bell outputs whose kind is TONE, from the kinds of B0 upward. -/
def toneOutputsOf : List (Choice BellKind) → Nat → BellSet
  | [], _ => 0
  | k :: rest, i => (if k = .listed .tone then BitVec.ofNat 8 (2 ^ i) else 0) ||| toneOutputsOf rest (i + 1)

/-- The bells part as written, with whether a number was clamped; none where a kind is not listed (R139). -/
def takeBells (r : BellSetupRequest) : Option (BellSetup × Bool) :=
  if r.kinds.length = 8 ∧ r.kinds.all Choice.isListed = true then
    some ({ toneOutputs := toneOutputsOf r.kinds 0, evacOutputs := r.evacOutputs, evacTone := min 7 r.evacTone },
      decide (7 < r.evacTone))
  else none

/-- The interlock partner a setup for lane `l` names: none where the number is above 7 or the lane itself (R64). -/
def takePartner (l : LaneId) : Option Nat → Option LaneId
  | none => none
  | some p => if h : p < 8 then (if p = l.val then none else some ⟨p, h⟩) else none

/-- Whether a named partner was brought to none (R64). -/
def partnerClamped (l : LaneId) (p : Option Nat) : Bool := p.isSome && (takePartner l p).isNone

/-- Whether every enumerated field of a lane setup names a listed value (R64; log entry 23). -/
def laneFieldsListed (r : LaneSetupRequest) : Bool :=
  r.kind.isListed && r.releaseMode.isListed && r.passback.isListed && r.miss.isListed && r.fail.isListed

/-- A lane setup as written for lane `l`, with whether a number was clamped; none where an enumerated field is not listed
(R64). -/
def takeLaneSetup (l : LaneId) (r : LaneSetupRequest) : Option (LaneSetup × Bool) :=
  match r.kind, r.releaseMode, r.passback, r.miss, r.fail with
  | .listed kind, .listed mode, .listed passback, .listed miss, .listed fail =>
    let x : LaneSetup :=
      { kind := kind, entryEnable := r.entryEnable, exitEnable := r.exitEnable, releaseTime := clamp 1 30 r.releaseTime,
        releaseMode := mode, heldLimit := clamp 5 600 r.heldLimit, passageStep := clamp 8 250 r.passageStep,
        passback := passback, referral := r.referral, miss := miss, partner := takePartner l r.partner,
        deadTime := clamp 0 100 r.deadTime, waitLimit := clamp 1 15 r.waitLimit, fail := fail }
    some (x, decide (x.releaseTime ≠ r.releaseTime) || decide (x.heldLimit ≠ r.heldLimit) ||
      decide (x.passageStep ≠ r.passageStep) || decide (x.deadTime ≠ r.deadTime) ||
      decide (x.waitLimit ≠ r.waitLimit) || partnerClamped l r.partner)
  | _, _, _, _, _ => none

/-- A watch's action as written, with whether its entry index was clamped; none where its mode is not listed or is EGRESS
(R156). -/
def takeWatchAction : Choice WatchActionRequest → Option (WatchAction × Bool)
  | .listed .alarm => some (.alarm, false)
  | .listed .evacuate => some (.evacuate, false)
  | .listed (.lanes set mode) => (askOf mode).map fun m => (.lanes set m, false)
  | .listed (.bell index) => some (.bell (min 127 index), decide (127 < index))
  | .unlisted _ => none

/-- A watch's settings as written, with whether a number was clamped (R156). -/
def takeWatch (r : WatchRequest) : Option (WatchSettings × Bool) :=
  match r.mode, takeWatchAction r.action with
  | .listed mode, some (action, clamped) => some (⟨r.enable, r.mask, r.compare, mode, action⟩, clamped)
  | _, _ => none

/-- One entry of the station table as written, with whether it was brought within range: id 0 is EMPTY, an id above 255 is
255 (R191). None where the class is not listed (log entry 23). -/
def takeStation : Option (Nat × Choice StationClass) → Option (Option Station × Bool)
  | none => some (none, false)
  | some (_, .unlisted _) => none
  | some (id, .listed cls) => if id = 0 then some (none, true) else some (some ⟨min 255 id, cls⟩, decide (255 < id))

/-- Whether two entries of a station table have one id, each brought within range first (R191; log entry 23). -/
def stationTwice (t : List (Option Station)) : Bool :=
  decide ¬ (t.filterMap fun e => e.map Station.id).Nodup

/-- The station table as written, with whether an entry was brought within range; none where it is not four entries, names
an unlisted class, or gives one id to two entries (R191). -/
def takeStations (l : List (Option (Nat × Choice StationClass))) : Option (Vector (Option Station) 4 × Bool) :=
  match l.map takeStation with
  | [some (a, x), some (b, y), some (c, z), some (d, w)] =>
    if stationTwice [a, b, c, d] then none else some (#v[a, b, c, d], x || y || z || w)
  | _ => none

end Sys2Proof.Machine
end

