-- ==== Sys2Proof/Machine/GateLine.lean ====
section
/-!
DEFINITION. The meanings of the gate line's events, of a punch's arrival, and of a referral's timeout and ruling (03;
R37–R43, R58–R61).
-/
namespace Sys2Proof.Machine

/-! ## Polling (R37, R38, R39) -/

/-- The heads of the poll set, in rising address order (R37). -/
def State.pollSet (s : State) : List Head := allHeads.filter s.inPollSet

/-- The head to be polled next: the lowest address of the poll set above the last one polled, or the lowest of all (R37). -/
def State.nextHead (s : State) : Option Head :=
  match s.punch.position with
  | none => s.pollSet.head?
  | some h =>
    match s.pollSet.find? fun k => decide (h.address < k.address) with
    | some k => some k
    | none => s.pollSet.head?

/-- The oldest queued verdict is sent on the gate line and leaves the queue (R38). -/
def State.sendVerdict (s : State) : State :=
  match s.punch.verdicts with
  | [] => s
  | q :: rest => s.setPunch { s.punch with verdicts := rest, lastSent := some q }

/-- POLL: with no poll outstanding and a head to poll, the oldest verdict is sent, then the next head is polled and its 15 ms
reply window opens (R37, R38; log entries 13 and 31). -/
def execPoll (s : State) : Host.Outcome State Fault Refusal :=
  whileRunning s fun s =>
    match s.punch.outstanding, s.nextHead with
    | none, some h =>
      let t := s.sendVerdict
      t.setPunch { t.punch with position := some h, outstanding := some ⟨h, s.elapsed + 15⟩ }
    | _, _ => s

/-- A head's status and miss count. -/
def State.headAt (s : State) (h : Head) : HeadState := s.punch.heads[h.index]

/-- A head's status and miss count written. -/
def State.setHead (s : State) (h : Head) (x : HeadState) : State :=
  s.setPunch { s.punch with heads := putAt s.punch.heads h.index x }

/-- An unanswered poll raises its head's miss count; at 3 an ACTIVE head becomes SILENT with a HEAD_SILENT alarm, and the
count of a SILENT head stays at 3. A head outside the poll set stays ACTIVE with count 0 (R39, R37). -/
def State.countMiss (s : State) (h : Head) : State :=
  let x := s.headAt h
  if s.inPollSet h = false then s
  else if x.silent then s
  else if 3 ≤ x.misses + 1 then (s.setHead h ⟨true, 3⟩).laneAlarm h.lane .headSilent
  else s.setHead h ⟨false, x.misses + 1⟩

/-- An answered poll sets its head's miss count to 0; a SILENT head becomes ACTIVE with a HEAD_BACK alarm (R39). -/
def State.countAnswer (s : State) (h : Head) : State :=
  let t := s.setHead h ⟨false, 0⟩
  if (s.headAt h).silent then t.laneAlarm h.lane .headBack else t

/-- The poll outstanding is over (R38). -/
def State.endPoll (s : State) : State := s.setPunch { s.punch with outstanding := none }

/-- The gate line error count rises by one (R38). -/
def State.lineError (s : State) : State := s.setPunch { s.punch with lineErrors := satAdd 65535 s.punch.lineErrors 1 }

/-- The poll whose reply window is open: one outstanding whose 15 ms have not passed (R38). -/
def State.openPoll (s : State) : Option OpenPoll :=
  match s.punch.outstanding with
  | none => none
  | some p => if s.elapsed ≤ p.expiry then some p else none

/-- Characters that are no answer: within the reply window a garbled answer, which ends the poll unanswered; outside it, a run
of stray characters, which leaves a poll still outstanding to its timeout (R38, R39; log entry 13). -/
def State.noAnswer (s : State) : State :=
  match s.openPoll with
  | none => s.lineError
  | some p => (s.lineError.endPoll).countMiss p.head

/-- Whether a frame from a head is an answer: it comes from the polled head, within the reply window (R38). -/
def State.isAnswer (s : State) (h : Head) : Bool :=
  match s.openPoll with
  | none => false
  | some p => decide (p.head = h)

/-- POLL_TIMEOUT: the reply window of the poll outstanding closes (R38, R39). -/
def execPollTimeout (s : State) : Host.Outcome State Fault Refusal :=
  whileRunning s fun s =>
    match s.punch.outstanding with
    | none => s
    | some p => ((s.reach p.expiry).endPoll).countMiss p.head

/-- IDLE: an IDLE frame from the polled head within the reply window ends the poll; from another it is garbled, and outside
the window it is stray (R38, R39). -/
def execIdle (head : Head) (s : State) : Host.Outcome State Fault Refusal :=
  whileRunning s fun s => if s.isAnswer head then s.endPoll.countAnswer head else s.noAnswer

/-- GARBLED_ANSWER (R38, R39; log entry 13). -/
def execGarbledAnswer (s : State) : Host.Outcome State Fault Refusal := whileRunning s State.noAnswer

/-- STRAY_CHARACTERS: the characters are discarded and counted as one run (R38). -/
def execStrayCharacters (s : State) : Host.Outcome State Fault Refusal := whileRunning s State.lineError

/-- PUNCH: a PUNCH frame from the polled head within the reply window ends the poll and is judged as one event; from another
head it is garbled, and outside the window it is stray (R38, R39, R42). -/
def execPunch (head : Head) (badge : BitVec 32) (intent : Intent) (s : State) : Host.Outcome State Fault Refusal :=
  whileRunning s fun s =>
    if s.isAnswer head then
      ((s.endPoll.countAnswer head).judge ⟨head, badge.toNat, intent, s.now⟩).1.settle
    else s.noAnswer

/-! ## The ends of a referral (R59, R60, R61) -/

/-- REFERRAL_TIMEOUT: the lane's referral wait expires, and the miss policy is applied without a second lookup (R61). -/
def execReferralTimeout (lane : LaneId) (s : State) : Host.Outcome State Fault Refusal :=
  whileRunning s fun s =>
    match s.punch.waits[lane] with
    | none => s
    | some w => ((((s.reach w.expiry).leaveWait lane).applyMiss w.punch).1.settleIdle lane).settle

/-- What a passed ruling does with the waiting punch: the outcome, and the reply's code and slot (R60). -/
def State.ruleOn (s : State) (w : ReferralWait) (d : Decision) (fields : Option EnrolFields) :
    Judged × ReplyCode × Option Nat :=
  match d, fields with
  | .deny, _ => (s.endPunch w.head (plainVerdict .denyRefused), .ok, none)
  | .allow, some f =>
    let r := s.enrol w.badge f
    match r.2 with
    | .done a => (r.1.judgeSlot w.punch a, .ok, some a)
    | .duplicate a => (r.1.judgeSlot w.punch a, .duplicate, some a)
    | .full => (r.1.grantPunch (visitorPunch w.punch), .full, none)
  | .allow, none =>
    let r := s.lookup w.badge
    match r.2 with
    | some a => (r.1.judgeSlot w.punch a, .ok, none)
    | none => (r.1.grantPunch (visitorPunch w.punch), .ok, none)

/-- A ruling that passes its checks (R60; log entry 36). -/
def State.carryRuling (s : State) (order : Instr) (l : LaneId) (w : ReferralWait) (d : Decision)
    (fields : Option EnrolFields) : State :=
  let r := (s.leaveWait l).ruleOn w d fields
  ((r.1.1.settleIdle l).settle).answer order r.2.1 (.ruling r.2.2 (some r.1.2))

/-- The wait a RULING decides: lane `lane`'s, where it holds that badge (R59 check 3). -/
def State.waitFor (s : State) (lane badge : Nat) : Option (LaneId × ReferralWait) :=
  if h : lane < 8 then
    match s.punch.waits[lane] with
    | some w => if w.badge = badge ∧ (s.lane ⟨lane, h⟩).activity = .referralWait then some (⟨lane, h⟩, w) else none
    | none => none
  else none

/-- Whether the enrol fields of a RULING are in range (R59 check 1). -/
def fieldsInRange : Option EnrolFields → Bool
  | none => true
  | some f => validIndices f.payClass f.pattern

/-- RULING (R59, R60). -/
def execRuling (lane badge : Nat) (decision : Choice Decision) (fields : Option EnrolFields) (s : State) :
    Host.Outcome State Fault Refusal :=
  whileRunning s fun s =>
    let order := Instr.ruling lane badge decision fields
    match decision with
    | .unlisted _ => s.refuse order .badOrder
    | .listed d =>
      if 7 < lane ∨ validBadge badge = false ∨ fieldsInRange fields = false then s.refuse order .outOfRange
      else if d = .deny ∧ fields.isSome = true then s.refuse order .badOrder
      else match s.waitFor lane badge with
        | none => s.refuse order .tooLate
        | some (l, w) => s.carryRuling order l w d fields

end Sys2Proof.Machine
end

