-- ==== Sys2Proof/Machine/Bells.lean ====
section
/-!
DEFINITION. Rings (07): requests for ordinary rings, their ends and cadence, the evacuation ring, and the requested state of
a bell output (R139–R147).
-/
namespace Sys2Proof.Machine

/-- What an output asks for with a ring in a phase, by the output's kind (R140). -/
def ringLevel (isTone : Bool) (r : Ring) : BellLevel :=
  if r.onPhase = false then .off
  else if isTone = true ∧ r.frequency ≠ 0 then .tone r.frequency
  else .steady

/-- Whether a bell output's kind is TONE (R139). -/
def State.bellIsTone (s : State) (b : BellId) : Bool := inSet s.setup.bells.toneOutputs b.val

/-- An output's ring record and requested state are written. -/
def State.setBell (s : State) (b : BellId) (r : Option Ring) (level : BellLevel) : State :=
  s.setBells { s.bells with rings := putAt s.bells.rings b r, requested := putAt s.bells.requested b level }

/-- An output's ring ends: its record becomes absent and its requested state OFF (R141). -/
def State.endRing (s : State) (b : BellId) : State := s.setBell b none .off

/-- An output takes a ring, in the ring's present phase. -/
def State.startRing (s : State) (b : BellId) (r : Ring) : State := s.setBell b (some r) (ringLevel (s.bellIsTone b) r)

/-- A ring of a kind that copies a tone pattern and enters its on phase now (R141, R146). -/
def State.newRing (s : State) (kind : RingKind) (p : TonePattern) (finish : Option Elapsed) : Ring :=
  { kind := kind, frequency := p.frequency, onTime := p.onTime, offTime := p.offTime, cadenceStart := s.elapsed,
    finish := finish, onPhase := true, nextPhase := if p.offTime = 0 then none else some (s.inTenths p.onTime) }

/-- A request for an ORDINARY ring at one output, with its answer: it starts, takes over an ORDINARY ring with the later
end, or is ignored where the EVACUATION ring is held (R141, R143). -/
def State.requestRing (s : State) (p : TonePattern) (duration : Nat) (b : BellId) : State × RingAnswer :=
  match s.bells.rings[b] with
  | none => (s.startRing b (s.newRing .ordinary p (some (s.inSeconds duration))), .started)
  | some r =>
    if r.kind = .ordinary then
      (s.startRing b (s.newRing .ordinary p (some (max (r.finish.getD 0) (s.inSeconds duration)))), .takenOver)
    else (s, .ignored)

/-- A request at one output of a set, its answer added to those before it. -/
def ringStep (set : BellSet) (p : TonePattern) (duration : Nat) (acc : State × List (BellId × RingAnswer)) (b : BellId) :
    State × List (BellId × RingAnswer) :=
  if inSet set b.val then
    let r := acc.1.requestRing p duration b
    (r.1, acc.2 ++ [(b, r.2)])
  else acc

/-- A request for an ORDINARY ring at each output of a set, each taken on its own (R141). -/
def State.requestRings (s : State) (set : BellSet) (p : TonePattern) (duration : Nat) :
    State × List (BellId × RingAnswer) :=
  allBells.foldl (ringStep set p duration) (s, [])

/-- A ring's next phase begins, at the time the last one ended (R140). -/
def nextPhaseOf (r : Ring) (t : Elapsed) : Ring :=
  { r with onPhase := !r.onPhase, nextPhase := some (t + 100 * (if r.onPhase then r.offTime else r.onTime)) }

/-- The evacuation ring starts on one output of the evacuation set, whatever rang there before (R146). -/
def State.startEvacRing (set : BellSet) (p : TonePattern) (s : State) (b : BellId) : State :=
  if inSet set b.val then s.startRing b (s.newRing .evacuation p none) else s

/-- The evacuation ring starts on every output of an evacuation set, with the set's tone pattern copied from the active bank
(R146, R147). -/
def State.startEvacRings (s : State) (e : EvacSet) : State :=
  allBells.foldl (State.startEvacRing e.outputs (s.activeBank.tone e.tone)) s

/-- An evacuation takes the outputs and the tone that the setup record names as its evacuation set, and rings them (R146). -/
def State.beginEvacRings (s : State) : State :=
  let e : EvacSet := ⟨s.setup.bells.evacOutputs, s.setup.bells.evacTone⟩
  (s.setBells { s.bells with evacSet := some e }).startEvacRings e

/-- The evacuation ring on one output ends (R147). -/
def State.endEvacRing (s : State) (b : BellId) : State := if s.ringsEvacuation b then s.endRing b else s

/-- The evacuation ring ends on every output, and the evacuation set becomes absent (R147). -/
def State.endEvacRings (s : State) : State :=
  let t := allBells.foldl State.endEvacRing s
  t.setBells { t.bells with evacSet := none }

/-- Every ring ends and every requested state is OFF (R147, R151, R153). -/
def State.endAllRings (s : State) : State := allBells.foldl State.endRing s

/-- A ring without phase changes takes a new kind of its output at once; one with them from its next phase change
(R140). -/
def State.followKind (s : State) (b : BellId) : State :=
  match s.bells.rings[b] with
  | none => s
  | some r =>
    if r.offTime = 0 then
      s.setBells { s.bells with requested := putAt s.bells.requested b (ringLevel (s.bellIsTone b) r) }
    else s

end Sys2Proof.Machine
end

