-- ==== Sys2Proof/Machine/Evacuation.lean ====
section
/-!
DEFINITION. The watches and the evacuation (08): a watch's equality state, its firing and its action, and the start and the
end of an evacuation (R156–R165).
-/
namespace Sys2Proof.Machine

/-- The number whose bits, least significant first, are a list's. -/
def bitsToNat : List Bool → Nat
  | [] => 0
  | b :: rest => b.toNat + 2 * bitsToNat rest

/-- The debounced levels of the general inputs, 0 for a line not yet acquired (R158). -/
def State.generalLevels (s : State) : InputSet :=
  BitVec.ofNat 16 (bitsToNat (s.inputs.general.toList.map fun x => x.level.getD false))

/-- The general inputs that have a debounced level. -/
def State.generalPresent (s : State) : InputSet :=
  BitVec.ofNat 16 (bitsToNat (s.inputs.general.toList.map fun x => x.level.isSome))

/-- A watch's settings. -/
def State.watch (s : State) (k : WatchId) : WatchSettings := s.setup.watches[k]

/-- Whether every unmasked line of a watch has a level and equals the compare pattern (R157). -/
def State.watchMatches (s : State) (k : WatchId) : Bool :=
  let w := s.watch k
  decide (w.mask &&& ~~~s.generalPresent = 0) && decide ((s.generalLevels ^^^ w.compare) &&& w.mask = 0)

/-- Whether a watch can fire: enabled, with a mask that is not empty (R156). -/
def State.watchLive (s : State) (k : WatchId) : Bool :=
  (s.watch k).enable && decide ((s.watch k).mask ≠ 0)

/-- A watch's equality state is written. -/
def State.setEqual (s : State) (k : WatchId) (v : Bool) : State :=
  s.setInputs { s.inputs with equal := putAt s.inputs.equal k v }

/-- A firing of a watch is delivered, to be performed as its own event (R158). -/
def State.deliver (s : State) (d : Delivery) : State :=
  s.setInputs { s.inputs with deliveries := s.inputs.deliveries ++ [d] }

/-- Whether an evaluation takes an enabled MATCH watch from UNEQUAL to EQUAL (R157). -/
def State.becomesEqual (s : State) (k : WatchId) : Bool :=
  (s.watch k).enable && decide ((s.watch k).mode = .equals) && !s.inputs.equal[k] && s.watchMatches k

/-- An enabled MATCH watch evaluates its equality state (R157). -/
def State.evaluate (s : State) (k : WatchId) : State :=
  if (s.watch k).enable = true ∧ (s.watch k).mode = .equals then s.setEqual k (s.watchMatches k) else s

/-! ## The start and the end of an evacuation (R91, R162, R164, R165) -/

/-- A DOOR or TURNSTILE lane remembers its mode, enters EGRESS, and voids its grant (R91). -/
def State.egressLane (s : State) (l : LaneId) : State :=
  if (s.lane l).setup.kind ≠ .unused then (s.enterEgress l).voidGrant .evacuation l else s

/-- An evacuation starts: the state is EVACUATING, the lanes go to EGRESS, the evacuation ring starts, the referral waits are
cancelled with END, and EVAC_BEGIN is requested (R162, R91, R146, R62; log entry 32). -/
def State.startEvacuation (s : State) (k : WatchId) (levels : InputSet) : State :=
  let a := s.setInputs { s.inputs with evacuating := true, startingWatch := some k }
  let b := allLanes.foldl State.egressLane a
  let d := allLanes.foldl (State.cancelWait true) b.beginEvacRings
  d.systemEvent d.now (.evacBegin k levels)

/-- The evacuation state becomes NORMAL, each lane takes its remembered mode, and the presence epoch advances (R91, R164,
R165, R29). -/
def State.endEvacuation (s : State) : State :=
  (allLanes.foldl State.restoreMode
    (s.setInputs { s.inputs with evacuating := false, startingWatch := none })).advanceEpoch

/-! ## A firing (R158, R159, R142) -/

/-- A watch's BELL action: the RING entry of an index in the active bank rings as if it had fired (R142). -/
def State.watchBell (s : State) (index : Nat) : State :=
  let e := s.activeBank.entry index
  if e.kind = .listed .ring then (s.requestRings e.bells (s.activeBank.tone e.tone) e.duration).1 else s

/-- A watch's action is performed (R159). -/
def State.performAction (s : State) (k : WatchId) (levels : InputSet) : WatchAction → State
  | .alarm => s
  | .evacuate => s.startEvacuation k levels
  | .lanes set mode => s.askModes set mode
  | .bell index => s.watchBell index

/-- A watch fires: it captures the inputs, requests its WATCH entry and performs its action; an EVACUATE watch firing during
an evacuation refreshes its capture alone (R158). DESIGN CHOICE (log entry 43): the levels and the stamp are those present as the
firing is taken, where it is taken after a later sample or second. -/
def State.fireWatch (s : State) (k : WatchId) : State :=
  let levels := s.generalLevels
  let t := s.setInputs { s.inputs with captures := putAt s.inputs.captures k (some ⟨levels, s.now⟩) }
  let action := (s.watch k).action
  if action = .evacuate ∧ s.inputs.evacuating = true then t
  else (t.systemEvent t.now (.watch k levels action)).performAction k levels action

/-- The first watch by index that holds back EGRESS END: enabled, with a mask, MATCH, EVACUATE and EQUAL (R164). -/
def State.holdsBack (s : State) (k : WatchId) : Bool :=
  s.watchLive k && decide ((s.watch k).mode = .equals) && decide ((s.watch k).action = .evacuate) && s.inputs.equal[k]

/-- The watch a refused EGRESS END names: the starting watch if it holds it back, otherwise the first that does (R164). -/
def State.blockingWatch (s : State) : Option WatchId :=
  match s.inputs.startingWatch with
  | some k => if s.holdsBack k then some k else allWatches.find? s.holdsBack
  | none => allWatches.find? s.holdsBack

end Sys2Proof.Machine
end

