-- ==== Sys2Proof/Machine/Lanes.lean ====
section
/-!
DEFINITION. The meanings of a lane's inputs and timers, of the interlock's waits, and of the orders to the lanes (04;
R74–R90).
-/
namespace Sys2Proof.Machine

/-! ## Changes delivered to a lane (R74, R80, R81, R154) -/

/-- A change delivered and not yet taken leaves the list as its lane takes it. -/
def State.dropDelivery (s : State) (d : Delivery) : State :=
  s.setInputs { s.inputs with deliveries := s.inputs.deliveries.erase d }

/-- A line with a debounced level and no run (R154). -/
def Line.settled (level : Bool) : Line := ⟨some level, 0, level⟩

/-- A lane takes a change of its inputs: the one the Input Sampler has delivered, or, with none delivered, one whose line's
debounced level changes with it (R154; log entry 6). -/
def State.takeChange (s : State) : Delivery → State
  | .door l isOpen =>
    if s.inputs.deliveries.contains (.door l isOpen) then s.dropDelivery (.door l isOpen)
    else s.setInputs { s.inputs with doors := putAt s.inputs.doors l (.settled isOpen) }
  | .exitRequest l =>
    if s.inputs.deliveries.contains (.exitRequest l) then s.dropDelivery (.exitRequest l)
    else s.setInputs { s.inputs with exits := putAt s.inputs.exits l (.settled true) }
  | .encoder l a b =>
    if s.inputs.deliveries.contains (.encoder l a b) then s.dropDelivery (.encoder l a b)
    else s.setInputs { s.inputs with
      encodersA := putAt s.inputs.encodersA l (.settled a), encodersB := putAt s.inputs.encodersB l (.settled b) }
  | .watch k => s.dropDelivery (.watch k)

/-- Whether a lane's request-to-exit input is active (R75, R83). -/
def State.exitActive (s : State) (l : LaneId) : Bool := (s.inputs.exits[l]).level.getD false

/-- Whether an opening or an outward step is expected: the exit allowance runs or the input is active (R75, R83). -/
def State.exitExpected (s : State) (l : LaneId) : Bool := (s.lane l).exitAllowance.isSome || s.exitActive l

/-! ## Doors (R74–R79) -/

/-- An opening that is neither a passage nor a TAILGATE: FORCED unless something excuses it (R75 steps 3 to 5). -/
def State.unexpectedOpening (s : State) (l : LaneId) : State :=
  if s.driveRelease l = true ∨ s.exitExpected l = true then s
  else if (s.lane l).mode = .free ∨ (s.lane l).mode = .egress then s
  else s.laneAlarm l .forced

/-- A released grant's passage is seen; an UNTIL_OPEN grant's release expiry stops; the Punch Unit commits the punch of a
WORKER or VISITOR grant (R75 step 1, R77). -/
def State.doorPassage (s : State) (l : LaneId) (g : Grant) : State :=
  let x := s.lane l
  (s.setLane l { x with
    grant := some { g with
      passageSeen := true
      releaseExpiry := if x.setup.releaseMode = .untilOpen then none else g.releaseExpiry } }).passageNotice l

/-- How an opening of a DOOR lane is taken (R75). -/
def State.takeOpening (s : State) (l : LaneId) : State :=
  match (s.lane l).grant with
  | none => s.unexpectedOpening l
  | some g =>
    if g.phase = .released ∧ g.passageSeen = false then s.doorPassage l g
    else if g.phase = .released ∧ (s.lane l).setup.releaseMode = .pulse then s.laneAlarm l .tailgate
    else s.unexpectedOpening l

/-- A DOOR lane's door opens: its status is OPEN, its held-open timer starts, and the opening is taken (R74, R75). -/
def State.doorOpens (s : State) (l : LaneId) : State :=
  let x := s.lane l
  (s.setLane l { x with doorOpen := true, heldTimer := s.heldExpiry x }).takeOpening l

/-- DOOR_OPENING (R74, R75). -/
def execDoorOpening (lane : LaneId) (s : State) : Host.Outcome State Fault Refusal :=
  whileRunning s fun s =>
    let t := s.takeChange (.door lane true)
    if (t.lane lane).setup.kind = .door ∧ (t.lane lane).doorOpen = false then (t.doorOpens lane).settle else t

/-- The held alarm of a lane ends with HELD_END where it was HELD (R74). -/
def State.endHeld (s : State) (l : LaneId) : State :=
  if (s.lane l).held then (s.setLane l { s.lane l with held := false }).laneAlarm l .heldEnd else s

/-- An UNTIL_OPEN grant whose passage has been seen ends as its door closes (R74, R77). -/
def State.finishUntilOpen (s : State) (l : LaneId) : State :=
  match (s.lane l).grant with
  | none => s
  | some g =>
    if g.phase = .released ∧ g.passageSeen = true ∧ (s.lane l).setup.releaseMode = .untilOpen then s.endGrant l .finished
    else s

/-- A lane's door status becomes CLOSED, its closing recorded at a time, from which its partner's dead time runs (R74, R84, R93;
log entry 22). -/
def State.recordClosing (s : State) (l : LaneId) (t : Option Elapsed) : State :=
  (s.setLane l { s.lane l with doorOpen := false, lastClosing := t, heldTimer := none }).startPartnerDead l

/-- A DOOR lane's door closes (R74), and the arbiter of its pair looks (R86). -/
def State.doorCloses (s : State) (l : LaneId) : State :=
  (((s.recordClosing l (some s.elapsed)).endHeld l).finishUntilOpen l).look l

/-- DOOR_CLOSING (R74). -/
def execDoorClosing (lane : LaneId) (s : State) : Host.Outcome State Fault Refusal :=
  whileRunning s fun s =>
    let t := s.takeChange (.door lane false)
    if (t.lane lane).setup.kind = .door ∧ (t.lane lane).doorOpen = true then (t.doorCloses lane).settle else t

/-- A grant's release time runs out: it is finished where its passage was seen and voided otherwise, and a turnstile's count
returns to 0 (R76, R77, R82). -/
def State.releaseRunsOut (s : State) (l : LaneId) (g : Grant) : State :=
  let t := s.endGrant l (if g.passageSeen then .finished else .void .expiry)
  (t.zeroEncoder l).look l

/-- RELEASE_EXPIRY: the release expiry of a released grant is reached (R76, R77, R82). -/
def execReleaseExpiry (lane : LaneId) (s : State) : Host.Outcome State Fault Refusal :=
  whileRunning s fun s =>
    match (s.lane lane).grant with
    | none => s
    | some g =>
      match g.phase, g.releaseExpiry with
      | .released, some t => ((s.reach t).releaseRunsOut lane g).settle
      | _, _ => s

/-- The held-open timer of a lane expires: with the door OPEN in SECURE or LOCKED the lane is HELD (R79). -/
def State.heldRunsOut (s : State) (l : LaneId) : State :=
  let x := s.lane l
  if x.doorOpen = true ∧ (x.mode = .secure ∨ x.mode = .locked) then
    (s.setLane l { x with heldTimer := none, held := true }).laneAlarm l .heldBegin
  else s.setLane l { x with heldTimer := none }

/-- HELD_OPEN_EXPIRY (R79). -/
def execHeldOpenExpiry (lane : LaneId) (s : State) : Host.Outcome State Fault Refusal :=
  whileRunning s fun s =>
    match (s.lane lane).heldTimer with
    | none => s
    | some t => (s.reach t).heldRunsOut lane

/-! ## Request-to-exit (R80) -/

/-- A request-to-exit input of a used lane becomes active: the allowance is set, and an IDLE lane in SECURE mode takes an
EXIT_REQUEST grant (R80). -/
def State.exitRequested (s : State) (l : LaneId) : State :=
  let x := s.lane l
  let t := s.setLane l { x with exitAllowance := some (s.inSeconds x.setup.releaseTime) }
  if x.mode = .secure ∧ x.activity = .idle then t.takeGrant l (newGrant .exitRequest .outward none none) else t

/-- REQUEST_TO_EXIT (R80). -/
def execRequestToExit (lane : LaneId) (s : State) : Host.Outcome State Fault Refusal :=
  whileRunning s fun s =>
    let t := s.takeChange (.exitRequest lane)
    if (t.lane lane).setup.kind = .unused then t else (t.exitRequested lane).settle

/-- EXIT_ALLOWANCE_EXPIRY (R80). -/
def execExitAllowanceExpiry (lane : LaneId) (s : State) : Host.Outcome State Fault Refusal :=
  whileRunning s fun s =>
    match (s.lane lane).exitAllowance with
    | none => s
    | some t =>
      let u := s.reach t
      u.setLane lane { u.lane lane with exitAllowance := none }

/-! ## Turnstiles (R81–R83) -/

/-- The place of an encoder pair in the inward cycle 00, 01, 11, 10 (R81). -/
def cyclePlace : Bool → Bool → Nat
  | false, false => 0
  | false, true => 1
  | true, true => 2
  | true, false => 3

/-- What a change of an encoder pair does (R81). -/
inductive EncoderStep where
  | stay
  | inward
  | outward
  | error
deriving DecidableEq, Repr

/-- The step from one encoder pair to another (R81). -/
def encoderStep (a b a' b' : Bool) : EncoderStep :=
  match (cyclePlace a' b' + 4 - cyclePlace a b) % 4 with
  | 0 => .stay
  | 1 => .inward
  | 3 => .outward
  | _ => .error

/-- The count reaches the passage step with a released grant: in the grant's direction it is the passage, the other way the
grant is voided with REVERSE; either way the count returns to 0, and the arbiter of a pair the lane is then in looks (R82,
R73). -/
def State.stepGranted (s : State) (l : LaneId) (g : Grant) (dir : Dir) : State :=
  let t :=
    if g.dir = dir then
      ((s.setLane l { s.lane l with grant := some { g with passageSeen := true } }).passageNotice l).endGrant l .finished
    else (s.laneAlarm l .reverse).endGrant l (.void .reverse)
  (t.zeroEncoder l).look l

/-- The count reaches the passage step with no released grant: it returns to 0, and the step is free, expected, or FORCED
(R83). -/
def State.stepUngranted (s : State) (l : LaneId) (dir : Dir) : State :=
  let t := s.zeroEncoder l
  if t.driveRelease l = true ∨ (t.lane l).mode = .free ∨ (t.lane l).mode = .egress then t
  else if dir = .outward ∧ t.exitExpected l = true then t
  else t.laneAlarm l .forced

/-- The count reaches the passage step in a direction (R81). -/
def State.stepReached (s : State) (l : LaneId) (dir : Dir) : State :=
  match (s.lane l).grant with
  | some g => if g.phase = .released then s.stepGranted l g dir else s.stepUngranted l dir
  | none => s.stepUngranted l dir

/-- The count of a lane moves, and is tested against the passage step (R81). -/
def State.countStep (s : State) (l : LaneId) (d : Int) : State :=
  let x := s.lane l
  let t := s.setLane l { x with encoder := x.encoder + d }
  if (x.setup.passageStep : Int) ≤ x.encoder + d then t.stepReached l .inward
  else if x.encoder + d ≤ -(x.setup.passageStep : Int) then t.stepReached l .outward
  else t

/-- A turnstile's encoder pair changes: the decoder pair becomes the new pair, and the count moves or ENCODER_ERROR is
raised (R81). -/
def State.encoderMoves (s : State) (l : LaneId) (a b : Bool) : State :=
  let x := s.lane l
  let t := s.setLane l { x with decoderA := a, decoderB := b }
  match encoderStep x.decoderA x.decoderB a b with
  | .stay => t
  | .inward => t.countStep l 1
  | .outward => t.countStep l (-1)
  | .error => t.laneAlarm l .encoderError

/-- ENCODER_CHANGE (R81). -/
def execEncoderChange (lane : LaneId) (a b : Bool) (s : State) : Host.Outcome State Fault Refusal :=
  whileRunning s fun s =>
    let t := s.takeChange (.encoder lane a b)
    if (t.lane lane).setup.kind = .turnstile then (t.encoderMoves lane a b).settle else t

/-! ## The interlock's waits (R86, R87) -/

/-- INTERLOCK_WAIT_EXPIRY: a waiting grant's wait limit runs out; it is refused, and the arbiter looks at the other lane
(R87). -/
def execInterlockWaitExpiry (lane : LaneId) (s : State) : Host.Outcome State Fault Refusal :=
  whileRunning s fun s =>
    match s.waitingGrant lane with
    | none => s
    | some g => (((s.reach g.waitExpiry).endGrant lane .refused).look lane).settle

/-- The end of a lane's dead time after its partner's last closing, where it has not yet been taken (R84, R86). -/
def State.deadTimeDue (s : State) (l : LaneId) : Option Elapsed :=
  if (s.lane l).deadRuns then (s.partnerOf l).bind (s.deadTimeEndOf l) else none

/-- DEAD_TIME_END: a lane's dead time after its partner's last closing ends, and the arbiter of the pair looks. One whose end
has been taken does not end again (R86; log entry 16). -/
def execDeadTimeEnd (lane : LaneId) (s : State) : Host.Outcome State Fault Refusal :=
  whileRunning s fun s =>
    match s.deadTimeDue lane with
    | none => s
    | some t =>
      let u := s.reach t
      ((u.setLane lane { u.lane lane with deadRuns := false }).look lane).settle

/-! ## Orders to the lanes (R88, R89, R90) -/

/-- Whether any lane of a set is a member of an interlock pair (R88). -/
def State.anyPaired (s : State) (set : LaneSet) : Bool := allLanes.any fun l => inSet set l.val && s.inPair l

/-- Mode and remembered mode of each lane of a set (R88). -/
def State.modesOf (s : State) (set : LaneSet) : List (LaneId × LaneMode × Option AskMode) :=
  (allLanes.filter fun l => inSet set l.val).map fun l => (l, (s.lane l).mode, (s.lane l).remembered)

/-- LANE MODE (R88). -/
def execLaneMode (lanes : LaneSet) (mode : Choice LaneMode) (s : State) : Host.Outcome State Fault Refusal :=
  whileRunning s fun s =>
    match askOf mode with
    | none => s.refuse (.laneMode lanes mode) .badOrder
    | some m =>
      if m = .free ∧ s.anyPaired lanes = true then s.refuse (.laneMode lanes mode) .wrongState
      else
        let t := (s.askModes lanes m).settle
        t.answer (.laneMode lanes mode) .ok (.laneModes (t.modesOf lanes))

/-- An order's REMOTE grant is taken, and the reply says what the order is told at once: whether it was released or waits
(R72, R89; log entry 36). -/
def State.releaseRemote (s : State) (order : Instr) (l : LaneId) (d : Dir) : State :=
  ((s.takeGrant l (newGrant .remote d none none)).settle).answer order .ok (.grant !s.mustWait l)

/-- LANE RELEASE (R89). -/
def execLaneRelease (lane : Nat) (dir : Choice Dir) (s : State) : Host.Outcome State Fault Refusal :=
  whileRunning s fun s =>
    let order := Instr.laneRelease lane dir
    match dir with
    | .unlisted _ => s.refuse order .badOrder
    | .listed d =>
      if h : lane < 8 then
        let x := s.lane ⟨lane, h⟩
        if x.setup.kind = .unused ∨ x.mode = .free ∨ x.mode = .egress then s.refuse order .wrongState
        else if x.activity ≠ .idle then s.refuse order .busy
        else s.releaseRemote order ⟨lane, h⟩ d
      else s.refuse order .outOfRange

/-- The release time or wait time remaining to a grant, in ms (R90). -/
def State.remainingOf (s : State) (g : Grant) : Option Nat :=
  match g.phase with
  | .waiting => some (g.waitExpiry - s.elapsed)
  | .released => g.releaseExpiry.map fun t => t - s.elapsed

/-- What LANE READ gives (R90). -/
def State.laneReport (s : State) (l : LaneId) : LaneReport :=
  let x := s.lane l
  { setup := x.setup, pendingSetup := x.pendingSetup, mode := x.mode, remembered := x.remembered
    partner := s.partnerOf l, activity := x.activity, grant := x.grant, remaining := x.grant.bind s.remainingOf
    doorOpen := x.doorOpen, held := x.held, sinceClosing := x.lastClosing.map fun t => s.elapsed - t
    encoder := x.encoder, exitAllowance := x.exitAllowance.isSome, requested := x.requested
    driven := s.inputs.drivenRelease[l]
    entryHead := s.punch.heads[(Head.mk l .inward).index], exitHead := s.punch.heads[(Head.mk l .outward).index]
    lineErrors := s.punch.lineErrors }

/-- LANE READ (R90). -/
def execLaneRead (lane : Nat) (s : State) : Host.Outcome State Fault Refusal :=
  whileRunning s fun s =>
    if h : lane < 8 then s.answer (.laneRead lane) .ok (.lane (s.laneReport ⟨lane, h⟩))
    else s.refuse (.laneRead lane) .outOfRange

end Sys2Proof.Machine
end

