-- ==== Sys2Proof/Machine/Inputs.lean ====
section
/-!
DEFINITION. The meanings of a sample of one group of lines, of a watch's firing, and of the orders OUTPUT HOLD and EGRESS
END (08; R154–R164).
-/
namespace Sys2Proof.Machine

/-! ## One line at one sample (R154, R155) -/

/-- What a sample of one line delivers. -/
inductive LineEvent where
  | quiet
  | change
  | status
deriving DecidableEq, Repr

/-- A line after a sample with count K: a line with a debounced level counts consecutive differing samples, the K-th changing
it; a line without one counts consecutive equal samples, the K-th giving it its first level (R154, R155). -/
def Line.sample (count : Nat) (level : Bool) (x : Line) : Line × LineEvent :=
  match x.level with
  | some v =>
    if level = v then ({ x with run := 0, last := level }, .quiet)
    else if count ≤ x.run + 1 then (.settled level, .change)
    else ({ x with run := x.run + 1, last := level }, .quiet)
  | none =>
    let n := if x.run = 0 ∨ x.last ≠ level then 1 else x.run + 1
    if count ≤ n then (.settled level, .status) else ({ x with run := n, last := level }, .quiet)

/-! ## The general inputs and the watches (R154, R157) -/

/-- The sixteen general inputs, in rising order. -/
def allInputs : List (Fin 16) := [0, 1, 2, 3, 4, 5, 6, 7, 8, 9, 10, 11, 12, 13, 14, 15]

/-- The general lines sampled so far, the lines that changed, and whether any line was acquired. -/
structure GeneralScan where
  lines : Vector Line 16
  changed : InputSet
  acquired : Bool
deriving DecidableEq, Repr

/-- One general input taken into the scan of a sample. -/
def scanGeneral (count : Nat) (levels : InputSet) (acc : GeneralScan) (i : Fin 16) : GeneralScan :=
  let r := (acc.lines[i]).sample count (inSet levels i.val)
  { lines := putAt acc.lines i r.1
    changed := if r.2 = .change then acc.changed ||| BitVec.ofNat 16 (2 ^ i.val) else acc.changed
    acquired := acc.acquired || decide (r.2 = .status) }

/-- A watch takes what a sample delivers: an enabled CHANGE watch is to fire on a change of an unmasked line, an enabled MATCH
watch evaluates itself and is to fire where it becomes EQUAL (R157). -/
def State.tellWatch (changed : InputSet) (s : State) (k : WatchId) : State :=
  let fires := s.watchLive k &&
    ((decide ((s.watch k).mode = .change) && decide (changed &&& (s.watch k).mask ≠ 0)) || s.becomesEqual k)
  let t := s.evaluate k
  if fires then t.deliver (.watch k) else t

/-- The general inputs are sampled, at the moment set by the sample before, with the setting in force now, which sets the next
(R154, R157; log entry 21). -/
def State.sampleGeneral (s : State) (levels : InputSet) : State :=
  let d := s.setup.general.generalDebounce
  let t := s.reach s.inputs.nextGeneral
  let r := allInputs.foldl (scanGeneral d.count levels) ⟨t.inputs.general, 0, false⟩
  let u := t.setInputs { t.inputs with general := r.lines, nextGeneral := t.elapsed + d.period }
  if r.changed ≠ 0 ∨ r.acquired = true then allWatches.foldl (State.tellWatch r.changed) u else u

/-! ## The lane contacts (R74, R93, R154, R155) -/

/-- A lane takes its door's first debounced level as a status: a door found OPEN starts its held-open timer, and one that was
OPEN and is found CLOSED counts its closing from the supply return (R74, R93; log entry 22). DESIGN CHOICE (log entry 50): a door
found CLOSED leaves the held state as it is, and raises no HELD_END. -/
def State.takeDoorStatus (s : State) (l : LaneId) (isOpen : Bool) : State :=
  let x := s.lane l
  if x.setup.kind ≠ .door then s
  else if isOpen then s.setLane l { x with doorOpen := true, heldTimer := s.heldExpiry x }
  else if x.doorOpen then
    (s.recordClosing l (s.supply.returnedAt.or x.lastClosing)).look l
  else s

/-- What a sample of a lane's door contact delivers. -/
def State.deliverDoor (s : State) (l : LaneId) (isOpen : Bool) : LineEvent → State
  | .quiet => s
  | .change => s.deliver (.door l isOpen)
  | .status => s.takeDoorStatus l isOpen

/-- What a sample of a lane's request-to-exit input delivers: a change to active is taken by the lane (R80). -/
def State.deliverExit (s : State) (l : LaneId) (active : Bool) : LineEvent → State
  | .quiet => s
  | .change => if active then s.deliver (.exitRequest l) else s
  | .status => s

/-- A lane's door contact and request-to-exit input are sampled. -/
def State.sampleContact (count : Nat) (doors exits : LaneSet) (s : State) (l : LaneId) : State :=
  let d := (s.inputs.doors[l]).sample count (inSet doors l.val)
  let e := (s.inputs.exits[l]).sample count (inSet exits l.val)
  let t := s.setInputs { s.inputs with doors := putAt s.inputs.doors l d.1, exits := putAt s.inputs.exits l e.1 }
  (t.deliverDoor l (inSet doors l.val) d.2).deliverExit l (inSet exits l.val) e.2

/-- The lane contacts are sampled (R154; log entry 21). -/
def State.sampleContacts (s : State) (doors exits : LaneSet) : State :=
  let d := s.setup.general.contactDebounce
  let t := s.reach s.inputs.nextContacts
  let u := t.setInputs { t.inputs with nextContacts := t.elapsed + d.period }
  (allLanes.foldl (State.sampleContact d.count doors exits) u).settle

/-! ## The encoder lines (R81, R154, R155) -/

/-- The level a sample gives a line as a status. -/
def LineEvent.status? (e : LineEvent) (level : Bool) : Option Bool := if e = .status then some level else none

/-- A turnstile takes the first debounced level of an encoder line into its decoder pair, and the changes of its pair that still
wait carry it too (R81, R155; log entry 22). -/
def State.takeEncoderStatus (s : State) (l : LaneId) (a b : Bool) (onA onB : LineEvent) : State :=
  let x := s.lane l
  if x.setup.kind ≠ .turnstile then s
  else (s.setLane l { x with
    decoderA := (onA.status? a).getD x.decoderA
    decoderB := (onB.status? b).getD x.decoderB }).fitDeliveries l (onA.status? a) (onB.status? b)

/-- A lane's encoder pair is sampled; changes of both lines at one sample are one change of the pair (R154). -/
def State.sampleEncoder (count : Nat) (as bs : LaneSet) (s : State) (l : LaneId) : State :=
  let a := (s.inputs.encodersA[l]).sample count (inSet as l.val)
  let b := (s.inputs.encodersB[l]).sample count (inSet bs l.val)
  let t := (s.setInputs { s.inputs with
    encodersA := putAt s.inputs.encodersA l a.1
    encodersB := putAt s.inputs.encodersB l b.1 }).takeEncoderStatus l (inSet as l.val) (inSet bs l.val) a.2 b.2
  if a.2 = .change ∨ b.2 = .change then
    t.deliver (.encoder l (a.1.level.getD (t.lane l).decoderA) (b.1.level.getD (t.lane l).decoderB))
  else t

/-- The encoder lines are sampled (R154; log entry 21). -/
def State.sampleEncoders (s : State) (as bs : LaneSet) : State :=
  let d := s.setup.general.encoderDebounce
  let t := s.reach s.inputs.nextEncoders
  let u := t.setInputs { t.inputs with nextEncoders := t.elapsed + d.period }
  allLanes.foldl (State.sampleEncoder d.count as bs) u

/-- DEBOUNCE_SAMPLE: one group's next sample is taken (R154, R155). -/
def execDebounceSample (sample : Sample) (s : State) : Host.Outcome State Fault Refusal :=
  whileRunning s fun s =>
    match sample with
    | .general levels => s.sampleGeneral levels
    | .contacts doors exits => s.sampleContacts doors exits
    | .encoders a b => s.sampleEncoders a b

/-! ## Firings and orders (R158, R161, R164) -/

/-- WATCH_FIRE: a watch that is enabled and has a mask fires (R156, R158), by its settings as this event finds them (log entry
43). -/
def execWatchFire (watch : WatchId) (s : State) : Host.Outcome State Fault Refusal :=
  whileRunning s fun s =>
    let t := s.takeChange (.watch watch)
    if t.watchLive watch then (t.fireWatch watch).settle else t

/-- The hold of an output as OUTPUT HOLD writes it (R161). -/
def holdValue : HoldRequest → Option Bool
  | .off => none
  | .held level => some level

/-- The holds of the named outputs written (R161). -/
def State.writeHolds (s : State) (releases : LaneSet) (bells : BellSet) (v : Option Bool) : State :=
  s.setInputs { s.inputs with
    releaseHolds := allLanes.foldl (fun acc l => if inSet releases l.val then putAt acc l v else acc)
      s.inputs.releaseHolds
    bellHolds := allBells.foldl (fun acc b => if inSet bells b.val then putAt acc b v else acc) s.inputs.bellHolds }

/-- What OUTPUT HOLD's reply lists of the named outputs (R161). -/
def State.holdsReport (s : State) (releases : LaneSet) (bells : BellSet) : ReplyBody :=
  .holds
    ((allLanes.filter fun l => inSet releases l.val).map fun l =>
      (l, s.inputs.releaseHolds[l], s.inputs.drivenRelease[l]))
    ((allBells.filter fun b => inSet bells b.val).map fun b => (b, s.inputs.bellHolds[b], s.inputs.drivenBell[b]))

/-- OUTPUT HOLD (R161; log entry 26). -/
def execOutputHold (releases : LaneSet) (bells : BellSet) (hold : HoldRequest) (s : State) :
    Host.Outcome State Fault Refusal :=
  whileRunning s fun s =>
    if hold = .held true ∧ s.anyPaired releases = true then s.refuse (.outputHold releases bells hold) .wrongState
    else
      let t := (s.writeHolds releases bells (holdValue hold)).settle
      t.answer (.outputHold releases bells hold) .ok (t.holdsReport releases bells)

/-- EGRESS END (R164). -/
def execEgressEnd (s : State) : Host.Outcome State Fault Refusal :=
  whileRunning s fun s =>
    if s.inputs.evacuating = false then s.refuse .egressEnd .wrongState
    else match s.blockingWatch with
      | some k => s.answer .egressEnd .wrongState (.watch k)
      | none =>
        let t := s.endEvacuation.endEvacRings.settle
        (t.systemEvent t.now (.evacEnd .order)).answer .egressEnd .ok .none

end Sys2Proof.Machine
end

