-- ==== Sys2Proof/Machine/Frames.lean ====
section
/-!
DEFINITION. The byte layouts the manual gives (11, Layouts; R187): plant link frames and their CRC-16, stamps, the reply codes,
the frames of the gate line with their check byte, the SHIFT_TOTAL entry and the SPOOL TAKE payload. The payloads the manual
lays out nowhere are uninterpreted (log entry 2).
-/
namespace Sys2Proof.Machine

/-! ## Numbers as bytes -/

/-- A number as `n` bytes, most significant first. -/
def bigEndian : Nat → Nat → List Byte
  | 0, _ => []
  | n + 1, v => BitVec.ofNat 8 (v / 256 ^ n) :: bigEndian n v

/-- The number that bytes spell, most significant first. -/
def fromBytes (l : List Byte) : Nat := l.foldl (fun acc b => acc * 256 + b.toNat) 0

/-- A stamp in five bytes: the day number in two, the second of day in three; an absent stamp is all ones (11, Layouts). -/
def stampBytes : Option Stamp → List Byte
  | none => [0xFF, 0xFF, 0xFF, 0xFF, 0xFF]
  | some t =>
    if t / 86400 ≤ 65535 then bigEndian 2 (t / 86400) ++ bigEndian 3 (t % 86400)
    else bigEndian 5 (Config.lateStampBytes t).toNat

/-! ## The CRC-16 (11, Layouts) -/

/-- One bit of the remainder's shift register, generator x¹⁶ + x¹² + x⁵ + 1, most significant bit first (log entry 4). -/
def crcShift (r : BitVec 16) : BitVec 16 := if r.msb then (r <<< 1) ^^^ 0x1021#16 else r <<< 1

/-- One byte taken into the remainder. -/
def crcByte (r : BitVec 16) (b : Byte) : BitVec 16 :=
  crcShift (crcShift (crcShift (crcShift (crcShift (crcShift (crcShift (crcShift
    (r ^^^ (b.setWidth 16 <<< 8)))))))))

/-- The CRC-16 of some bytes, starting value FFFFh. -/
def crc16 (l : List Byte) : BitVec 16 := l.foldl crcByte 0xFFFF#16

/-! ## Plant link frames (R187) -/

/-- The part of a frame its CRC covers: offsets 1 to 6 + n. -/
def Frame.body (f : Frame) : List Byte :=
  bigEndian 2 f.payload.length ++ bigEndian 1 f.station ++ bigEndian 1 f.code ++ bigEndian 2 f.tag ++ f.payload

/-- A frame's bytes, from its start mark to its CRC. -/
def Frame.bytes (f : Frame) : List Byte := 0x7E :: (f.body ++ bigEndian 2 (crc16 f.body).toNat)

/-- What the receiver makes of a frame: a bad one, or a good one (R187). -/
inductive Receipt where
  | bad
  | good (frame : Frame)
deriving DecidableEq, Repr

/-- The frame read from the bytes after its start mark, given its length and its last byte having come: bad where the CRC
fails (R187). -/
def readFrame (n : Nat) (body : List Byte) : Receipt :=
  if fromBytes ((body.drop (n + 6)).take 2) = (crc16 (body.take (n + 6))).toNat then
    .good { station := fromBytes ((body.drop 2).take 1), code := fromBytes ((body.drop 3).take 1),
            tag := fromBytes ((body.drop 4).take 2), payload := (body.drop 6).take n }
  else .bad

/-- One byte as it arrives, with the bytes of the frame in progress before it: what is then in progress, and the frame this
byte ends. A byte outside a frame that is no start mark is discarded; a length above 1,024 makes the frame bad at once, and
the receiver looks for the next start mark (R187). -/
def receiveByte (held : List Byte) (b : Byte) : List Byte × Option Receipt :=
  match held with
  | [] => if b = 0x7E then ([b], none) else ([], none)
  | _ :: rest =>
    let body := rest ++ [b]
    let n := fromBytes (body.take 2)
    if body.length < 2 then (held ++ [b], none)
    else if 1024 < n then ([], some .bad)
    else if body.length < n + 8 then (held ++ [b], none)
    else ([], some (readFrame n body))

/-- Bytes that arrive one after another without a stop, with the bytes of the frame in progress before them: what is then in
progress, and the frames they end, in order (R187). -/
def receive : List Byte → List Byte → List Byte × List Receipt
  | held, [] => (held, [])
  | held, b :: rest =>
    let x := receiveByte held b
    let y := receive x.1 rest
    (y.1, x.2.toList ++ y.2)

/-! ## Codes (11, Layouts) -/

/-- The byte of a reply code. -/
def ReplyCode.byte : ReplyCode → Byte
  | .ok => 0x00
  | .okClamped => 0x01
  | .unknownStation => 0x10
  | .notPermitted => 0x11
  | .badOrder => 0x12
  | .outOfRange => 0x13
  | .busy => 0x14
  | .notFound => 0x15
  | .duplicate => 0x16
  | .full => 0x17
  | .wrongState => 0x18
  | .tooLate => 0x19
  | .clockInvalid => 0x1A
  | .openRecord => 0x1B

/-- The byte of a verdict code. -/
def VerdictCode.byte : VerdictCode → Byte
  | .release => 0x01
  | .releaseNoted => 0x02
  | .wait => 0x03
  | .busy => 0x04
  | .again => 0x05
  | .finish => 0x06
  | .denyUnknown => 0x10
  | .denyLane => 0x11
  | .denyWindow => 0x12
  | .denyPassback => 0x13
  | .denyLocked => 0x14
  | .denyInUse => 0x15
  | .denyInterlock => 0x16
  | .denyRefused => 0x17

/-- The byte of a display message. -/
def Message.byte : Message → Byte
  | .none => 0x00
  | .inward => 0x01
  | .outward => 0x02
  | .breakOut => 0x03
  | .back => 0x04
  | .pass => 0x05

/-- The code of a report. -/
def Report.code : Report → Nat
  | .pass _ _ _ _ _ _ _ => 0xF0
  | .void _ _ _ _ _ _ _ => 0xF1
  | .referral _ _ _ _ _ => 0xF2
  | .alarm _ _ => 0xF3

/-! ## Gate line frames (11, Layouts) -/

/-- The byte sum of characters, modulo 256. -/
def byteSum (l : List Byte) : Byte := l.foldl (· + ·) 0

/-- Characters with the check byte that brings their sum to 00h. -/
def checked (l : List Byte) : List Byte := l ++ [-(byteSum l)]

/-- The characters of a VERDICT after its head address. -/
def Verdict.bytes (v : Verdict) : List Byte := checked [v.code.byte, v.message.byte, if v.notRecorded then 1 else 0]

/-- The byte of an intent. -/
def intentByte : Intent → Byte
  | .normal => 0x00
  | .breakKey => 0x01

/-- The characters of a PUNCH after its head address. -/
def punchBytes (badge : BitVec 32) (i : Intent) : List Byte := checked ([0x01] ++ bigEndian 4 badge.toNat ++ [intentByte i])

/-- The characters of an IDLE after its head address. -/
def idleBytes : List Byte := checked [0x00]

/-- What a head's characters after its address spell: an IDLE, a PUNCH, or a garbled answer (R38). -/
inductive HeadAnswer where
  | idle
  | punch (badge : BitVec 32) (intent : Intent)
  | garbled
deriving DecidableEq, Repr

/-- The answer that a head's characters spell (R38; 11, Layouts). -/
def readAnswer (l : List Byte) : HeadAnswer :=
  if byteSum l ≠ 0 then .garbled
  else match l with
    | [0x00#8, _] => .idle
    | [0x01#8, a, b, c, d, 0x00#8, _] => .punch (BitVec.ofNat 32 (fromBytes [a, b, c, d])) .normal
    | [0x01#8, a, b, c, d, 0x01#8, _] => .punch (BitVec.ofNat 32 (fromBytes [a, b, c, d])) .breakKey
    | _ => .garbled

/-! ## Entries and payloads (11, Layouts) -/

/-- A SHIFT_TOTAL entry, 71 bytes. -/
def shiftTotalBytes (seq : Nat) (t : ShiftTotal) : List Byte :=
  bigEndian 4 seq ++ [0x01] ++ bigEndian 4 t.badge ++ bigEndian 2 t.slot ++ bigEndian 1 t.payClass ++
    bigEndian 1 t.pattern ++ bigEndian 2 t.generation ++ stampBytes (some t.schedStart) ++ stampBytes (some t.schedEnd) ++
    stampBytes (some t.inStamp) ++ stampBytes (some t.outStamp) ++ stampBytes (some t.effIn) ++
    stampBytes (some t.effOut) ++ bigEndian 2 t.anchorWeek ++ bigEndian 2 t.gross ++ bigEndian 2 t.breaks ++
    bigEndian 2 t.unpaidBreak ++ bigEndian 1 t.meal ++ bigEndian 2 t.worked ++ bigEndian 2 t.regular ++
    bigEndian 2 t.dailyOver ++ bigEndian 2 t.weeklyOver ++ bigEndian 2 t.night ++ bigEndian 1 t.holiday.toNat ++
    bigEndian 4 t.pay ++ bigEndian 2 t.flags.bits.toNat

/-- An entry's bytes: a SHIFT_TOTAL's by its layout, another kind's uninterpreted but for being fewer than a SHIFT_TOTAL's 71,
so that twelve entries of any kinds fit one payload (11, Layouts; R182; log entry 2). -/
def SpoolEntry.bytes (e : SpoolEntry) : List Byte :=
  match e.entry with
  | .shiftTotal t => shiftTotalBytes e.seq t
  | .punchNote _ _ _ _ _ _ => (Config.entryBytes e.seq e.entry).take 70
  | .laneAlarm _ _ _ => (Config.entryBytes e.seq e.entry).take 70
  | .system _ _ => (Config.entryBytes e.seq e.entry).take 70

/-- A reply's payload: the reply code, then its fields, which the manual lays out for SPOOL TAKE alone (log entry 2). -/
def Reply.payload (r : Reply) : List Byte :=
  r.code.byte ::
    match r.body with
    | .spoolEntries n entries next => bigEndian 1 n ++ bigEndian 4 next ++ entries.flatMap SpoolEntry.bytes
    | body => Config.replyFields body

/-- A frame of the transmit queue as it is sent: a reply with its order's station id and tag and the order's code plus 80h, a
report with station id 0 and tag 0 (R188, R189; 11, Layouts). The sum of a code of 80h or more and 80h does not fit the code's
byte, which then carries it modulo 256 (log entry 41). -/
def TxFrame.frame : TxFrame → Frame
  | .reply o r => { station := o.station, code := o.code + 0x80, tag := o.tag, payload := r.payload }
  | .report r => { station := 0, code := r.code, tag := 0, payload := Config.reportFields r }

end Sys2Proof.Machine
end

