-- ==== Sys2Proof/Machine/Link.lean ====
section
/-!
DEFINITION. The meanings of the Link Controller's orders and events (11; R187–R193): STATUS, the setup record, the warm
restart, and frames received, dispatched and sent.
-/
namespace Sys2Proof.Machine

/-! ## STATUS (R192) -/

/-- What STATUS gives (R192). -/
def State.statusReport (s : State) : StatusReport :=
  { resetCause := s.supply.resetCause, clockValid := s.time.valid, online := s.link.online
    evacuating := s.inputs.evacuating, active := s.banks.active, standby := s.banks.standby
    generation := s.banks.generation, spoolHeld := s.spool.entries.length, closureQueue := s.records.closureQueue.length
    dropped := s.spool.dropped, linkErrors := s.link.errors, corrected := s.roster.corrected
    damagedSlots := s.roster.damagedCount, occupiedSlots := s.roster.occupiedCount }

/-- STATUS (R192). -/
def execStatus (s : State) : Host.Outcome State Fault Refusal :=
  whileRunning s fun s => s.answer .status .ok (.status s.statusReport)

/-! ## SETUP WRITE and SETUP READ (R191) -/

/-- OK, or OK_CLAMPED where a number was brought within range (R188). -/
def okCode (clamped : Bool) : ReplyCode := if clamped then .okClamped else .ok

/-- A line with its run count at 0 (R154). -/
def Line.restart (x : Line) : Line := { x with run := 0 }

/-- The run counts of the general inputs return to 0 (R154). -/
def InputSampler.restartGeneral (x : InputSampler) : InputSampler := { x with general := x.general.map Line.restart }

/-- The run counts of the lane contacts return to 0 (R154). -/
def InputSampler.restartContacts (x : InputSampler) : InputSampler :=
  { x with doors := x.doors.map Line.restart, exits := x.exits.map Line.restart }

/-- The run counts of the encoder lines return to 0 (R154). -/
def InputSampler.restartEncoders (x : InputSampler) : InputSampler :=
  { x with encodersA := x.encodersA.map Line.restart, encodersB := x.encodersB.map Line.restart }

/-- The run counts of every group whose setting changes return to 0 (R154). -/
def InputSampler.restartChanged (x : InputSampler) (old new : GeneralSetup) : InputSampler :=
  let a := if old.generalDebounce = new.generalDebounce then x else x.restartGeneral
  let b := if old.contactDebounce = new.contactDebounce then a else a.restartContacts
  if old.encoderDebounce = new.encoderDebounce then b else b.restartEncoders

/-- The general part is written: a changed offline timeout restarts a running silence timer; a changed debounce setting sets its
group's run counts to 0 and takes effect at the group's next sample, whose moment stays (R191, R154; log entry 24). -/
def State.writeGeneral (s : State) (g : GeneralSetup) : State :=
  let old := s.setup.general
  let a := s.setSetup { s.setup with general := g }
  let b := a.setInputs (a.inputs.restartChanged old g)
  if old.offlineTimeout = g.offlineTimeout then b
  else b.setLink { b.link with silence := b.link.silence.map fun _ => b.inSeconds g.offlineTimeout }

/-- The bells part is written (R139, R140). -/
def State.writeBells (s : State) (x : BellSetup) : State :=
  (allBells.foldl State.followKind (s.setSetup { s.setup with bells := x })).settle

/-- A lane setup is applied to an IDLE lane, or kept as its pending setup; with whether it is pending (R65). -/
def State.writeLane (s : State) (l : LaneId) (x : LaneSetup) : State × Bool :=
  if (s.lane l).activity = .idle then ((s.applySetup l x).settle, false)
  else (s.setLane l { s.lane l with pendingSetup := some x }, true)

/-- A watch is written: its equality state is set to UNEQUAL and it is evaluated at once; a live MATCH watch whose condition
holds fires as the write is taken (R157; log entry 25). -/
def State.writeWatch (s : State) (k : WatchId) (w : WatchSettings) : State :=
  let a := (s.setSetup { s.setup with watches := putAt s.setup.watches k w }).setEqual k false
  let fires := a.watchLive k && a.becomesEqual k
  let b := a.setEqual k (decide (w.mode = .equals) && a.watchMatches k)
  if fires then (b.fireWatch k).settle else b

/-- What SETUP READ and SETUP WRITE return of a watch (R156). -/
def State.watchReport (s : State) (k : WatchId) : SetupReport :=
  .watch (s.watch k) s.inputs.equal[k] s.inputs.captures[k]

/-- What SETUP READ and SETUP WRITE return of a lane (R64). -/
def State.laneSetupReport (s : State) (l : LaneId) : SetupReport := .lane (s.lane l).setup (s.lane l).pendingSetup

/-- SETUP WRITE (R191; R64, R65, R139, R154, R156, R157). DESIGN CHOICE (log entry 51): every reply of a part written carries what
SETUP READ would give of it then, the values as written, and for a watch its equality state and capture. -/
def execSetupWrite (part : SetupPart) (s : State) : Host.Outcome State Fault Refusal :=
  whileRunning s fun s =>
    let order := Instr.setupWrite part
    match part with
    | .general g =>
      (s.writeGeneral (clampGeneral g)).answer order (okCode (decide (clampGeneral g ≠ g)))
        (.setup false (.general (clampGeneral g)))
    | .bells b =>
      match takeBells b with
      | none => s.refuse order .badOrder
      | some (x, clamped) => (s.writeBells x).answer order (okCode clamped) (.setup false (.bells x))
    | .lane index r =>
      if laneFieldsListed r = false then s.refuse order .badOrder
      else if h : index < 8 then
        match takeLaneSetup ⟨index, h⟩ r with
        | none => s.refuse order .badOrder
        | some (x, clamped) =>
          let t := s.writeLane ⟨index, h⟩ x
          t.1.answer order (okCode clamped) (.setup t.2 (t.1.laneSetupReport ⟨index, h⟩))
      else s.refuse order .outOfRange
    | .watch index r =>
      match takeWatch r with
      | none => s.refuse order .badOrder
      | some (w, clamped) =>
        if h : index < 4 then
          let t := s.writeWatch ⟨index, h⟩ w
          t.answer order (okCode clamped) (.setup false (t.watchReport ⟨index, h⟩))
        else s.refuse order .outOfRange
    | .stations entries =>
      match takeStations entries with
      | none => s.refuse order .badOrder
      | some (t, clamped) =>
        (s.setSetup { s.setup with stations := t }).answer order (okCode clamped) (.setup false (.stations t))

/-- SETUP READ (R191). -/
def execSetupRead (name : SetupName) (s : State) : Host.Outcome State Fault Refusal :=
  whileRunning s fun s =>
    let order := Instr.setupRead name
    match name with
    | .general => s.answer order .ok (.setup false (.general s.setup.general))
    | .bells => s.answer order .ok (.setup false (.bells s.setup.bells))
    | .lane index =>
      if h : index < 8 then
        s.answer order .ok (.setup (s.lane ⟨index, h⟩).pendingSetup.isSome (s.laneSetupReport ⟨index, h⟩))
      else s.refuse order .outOfRange
    | .watch index =>
      if h : index < 4 then s.answer order .ok (.setup false (s.watchReport ⟨index, h⟩)) else s.refuse order .outOfRange
    | .stations => s.answer order .ok (.setup false (.stations s.setup.stations))

/-! ## RESTART and the warm restart (R193) -/

/-- RESTART: OK is queued, and the warm restart begins once it has been sent (R193). An order that came in no frame has no
reply to send, and its restart is due at once (log entry 7). One taken while an earlier restart has not yet reached the blocks
is a second restart, which they take again (R193). -/
def execRestart (s : State) : Host.Outcome State Fault Refusal :=
  whileRunning s fun s =>
    let t := s.answer .restart .ok .none
    t.setLink { t.link with
      restart :=
        if s.link.handed.map HandedOrder.order = some .restart ∨ s.link.restart = .replying then .replying else .due
      again := s.link.again + (if s.link.restart = .none then 0 else 1) }

/-- The gate line stops and starts again: no poll outstanding, no verdict queued, no head polled, every head ACTIVE with miss
count 0 (R41, R63). -/
def State.restartGateLine (s : State) : State :=
  s.setPunch { s.punch with
    position := none, outstanding := none, verdicts := [], heads := Vector.replicate 16 ⟨false, 0⟩ }

/-- A lane's part in a warm restart, its grant voided: count 0, held state NORMAL, no allowance, door status and decoder pair
taken from the debounced levels as statuses, a DOOR lane's door found OPEN starting its held-open timer (R92). DESIGN CHOICE
(log entry 47): changes of the lane's lines delivered and not yet taken stay as they were delivered, and are taken afterwards.
DESIGN CHOICE (log entry 49): where a line has no debounced level, the status held stays, and a door held OPEN starts the timer. -/
def State.restartLane (s : State) (l : LaneId) : State :=
  let x := s.lane l
  let isOpen := decide (x.setup.kind = .door) && (s.doorLevel l).getD x.doorOpen
  s.setLane l { x with
    encoder := 0, held := false, exitAllowance := none, doorOpen := isOpen
    heldTimer := if isOpen then s.heldExpiry x else none
    decoderA := (s.inputs.encodersA[l]).level.getD x.decoderA
    decoderB := (s.inputs.encodersB[l]).level.getD x.decoderB }

/-- The evacuation ring starts again on the kept evacuation set where the evacuation continues, its tone copied afresh from the
active bank; a tone index written meanwhile waits for the next evacuation (R147, R163; log entry 42). -/
def State.resumeEvacRing (s : State) : State :=
  match s.inputs.evacuating, s.bells.evacSet with
  | true, some e => s.startEvacRings e
  | _, _ => s

/-- Each block takes the warm restart, and a further one is due where a RESTART was taken meanwhile (R193, R41, R62, R92,
R147; log entry 32). -/
def State.warmRestart (s : State) : State :=
  let a := (s.setSupply { s.supply with resetCause := .warm }).setLink { s.link with
    restart := if s.link.again = 0 then .none else .due
    again := s.link.again - 1 }
  let b := allLanes.foldl (State.cancelWait false) (allLanes.foldl (State.voidGrant .warmRestart) a)
  let c := allLanes.foldl State.restartLane b.restartGateLine
  c.endAllRings.resumeEvacRing.settle

/-- WARM_RESTART: the restart begins unless a RESTART's reply has still to be sent (R193). -/
def execWarmRestart (s : State) : Host.Outcome State Fault Refusal :=
  whileRunning s fun s => if s.link.restart = .replying then s else s.warmRestart

/-! ## Receipt (R187, R190) -/

/-- The link error count rises by one (R187, R189). -/
def State.linkError (s : State) : State := s.setLink { s.link with errors := satAdd 65535 s.link.errors 1 }

/-- A valid frame makes the part ONLINE and sets the silence timer, and joins the receive buffer where there is room (R187,
R190). -/
def State.takeFrame (s : State) (f : Frame) : State :=
  let t := s.setLink { s.link with online := true, silence := some (s.inSeconds s.setup.general.offlineTimeout) }
  if t.link.received.length < 2 then t.setLink { t.link with received := t.link.received ++ [f] } else t.linkError

/-- What a frame that has ended does: a bad one is counted, a good one taken (R187, R190). -/
def State.takeReceipt (s : State) : Receipt → State
  | .bad => s.linkError
  | .good f => s.takeFrame f

/-- The frame in progress has become bad: it is discarded and counted, and the receiver looks for the next start mark
(R187). -/
def State.frameBad (s : State) : State := (s.setLink { s.link with inProgress := [], stall := none }).linkError

/-- Bytes arrive: the frames they end are taken in their order, and a frame they leave in progress has stopped once 50 ms have
passed (R187). -/
def State.receiveBytes (s : State) (bytes : List Byte) : State :=
  let r := receive s.link.inProgress bytes
  let t := r.2.foldl State.takeReceipt s
  t.setLink { t.link with inProgress := r.1, stall := if r.1 = [] then none else some (t.elapsed + 51) }

/-- FRAME_RECEIPT: bytes arrive on the plant link (R187, R190). Where the frame in progress had stopped for more than 50 ms, it
is bad first, and the bytes come after it (log entry 28). -/
def execFrameReceipt (bytes : List Byte) (s : State) : Host.Outcome State Fault Refusal :=
  whileRunning s fun s =>
    match bytes, s.link.stall with
    | [], _ => s
    | _ :: _, none => s.receiveBytes bytes
    | _ :: _, some t => if t ≤ s.elapsed then s.frameBad.receiveBytes bytes else s.receiveBytes bytes

/-- RECEIVE_TIMEOUT: the frame in progress has stopped for more than 50 ms of elapsed time before its last byte, and is bad;
with none in progress nothing has stopped (R187; log entry 28). -/
def execReceiveTimeout (s : State) : Host.Outcome State Fault Refusal :=
  whileRunning s fun s =>
    match s.link.stall with
    | none => s
    | some t => (s.reach t).frameBad

/-- FRAME_LENGTH_BAD: a length field above 1,024 makes the frame in progress bad at once; a length up to 1,024 does not (R187;
log entry 28). -/
def execFrameLengthBad (length : Nat) (s : State) : Host.Outcome State Fault Refusal :=
  whileRunning s fun s => if 1024 < length then s.frameBad else s

/-! ## Dispatch (R188) -/

/-- The name of the order a command is; none for the events. -/
def orderName : Instr → Option OrderName
  | .clockSet _ _ _ => some .clockSet
  | .clockSlew _ => some .clockSlew
  | .clockTrim _ => some .clockTrim
  | .clockRead => some .clockRead
  | .rosterEnrol _ _ _ _ => some .rosterEnrol
  | .rosterAmend _ _ _ _ _ => some .rosterAmend
  | .rosterWithdraw _ _ => some .rosterWithdraw
  | .rosterRead _ => some .rosterRead
  | .rosterPurge _ => some .rosterPurge
  | .presenceSet _ _ => some .presenceSet
  | .presenceClear => some .presenceClear
  | .ruling _ _ _ _ => some .ruling
  | .laneMode _ _ => some .laneMode
  | .laneRelease _ _ => some .laneRelease
  | .laneRead _ => some .laneRead
  | .bellRing _ _ _ => some .bellRing
  | .bellStop _ => some .bellStop
  | .outputHold _ _ _ => some .outputHold
  | .egressEnd => some .egressEnd
  | .loadBegin _ => some .loadBegin
  | .loadRows _ _ _ => some .loadRows
  | .loadEnd => some .loadEnd
  | .bankSwitch _ => some .bankSwitch
  | .tableRead _ _ _ _ => some .tableRead
  | .spoolTake _ _ => some .spoolTake
  | .spoolClear _ => some .spoolClear
  | .status => some .status
  | .setupWrite _ => some .setupWrite
  | .setupRead _ => some .setupRead
  | .restart => some .restart
  | .secondEnd => none
  | .secondBoundary _ => none
  | .deadlineExpiry => none
  | .stepNotice _ => none
  | .resumptionNotice _ => none
  | .pendingSwitchDue => none
  | .poll => none
  | .pollTimeout => none
  | .idle _ => none
  | .garbledAnswer => none
  | .strayCharacters => none
  | .punch _ _ _ => none
  | .referralTimeout _ => none
  | .doorOpening _ => none
  | .doorClosing _ => none
  | .releaseExpiry _ => none
  | .heldOpenExpiry _ => none
  | .requestToExit _ => none
  | .exitAllowanceExpiry _ => none
  | .encoderChange _ _ _ => none
  | .interlockWaitExpiry _ => none
  | .deadTimeEnd _ => none
  | .ringEnd _ => none
  | .cadencePhaseChange _ => none
  | .debounceSample _ => none
  | .watchFire _ => none
  | .moveWaitingTotals => none
  | .warmRestart => none
  | .frameReceipt _ => none
  | .receiveTimeout => none
  | .frameDispatch => none
  | .frameSent => none
  | .silenceTimeout => none
  | .supplyHold => none
  | .supplyReturn => none
  | .backupLoss => none
  | .powerOn => none
  | .frameLengthBad _ => none

/-- The minimum class of an order, as its chapter names it (R188 check 3). -/
def minimumClass : OrderName → StationClass
  | .clockRead => .view
  | .laneRead => .view
  | .status => .view
  | .rosterEnrol => .payroll
  | .rosterAmend => .payroll
  | .rosterWithdraw => .payroll
  | .rosterRead => .payroll
  | .presenceSet => .payroll
  | .tableRead => .payroll
  | .spoolTake => .payroll
  | .spoolClear => .payroll
  | .clockSet => .operator
  | .clockSlew => .operator
  | .clockTrim => .operator
  | .rosterPurge => .operator
  | .presenceClear => .operator
  | .ruling => .operator
  | .laneMode => .operator
  | .laneRelease => .operator
  | .bellRing => .operator
  | .bellStop => .operator
  | .outputHold => .operator
  | .egressEnd => .operator
  | .loadBegin => .operator
  | .loadRows => .operator
  | .loadEnd => .operator
  | .bankSwitch => .operator
  | .setupWrite => .operator
  | .setupRead => .operator
  | .restart => .operator

/-- The rank of a class: VIEW, then PAYROLL, then OPERATOR (R188). -/
def classRank : StationClass → Nat
  | .view => 0
  | .payroll => 1
  | .operator => 2

/-- The class of a station id: OPERATOR while every entry of the table is EMPTY; none where the table holds entries and none
has the id (R188 check 1). -/
def State.stationClass (s : State) (id : Nat) : Option StationClass :=
  let entries := s.setup.stations.toList.filterMap fun e => e
  if entries = [] then some .operator else (entries.find? fun e => decide (e.id = id)).map Station.cls

/-- The order a frame's code names: a code 01h–6Fh that names one (R188 check 2). -/
def orderNameOf (code : Nat) : Option OrderName := if 1 ≤ code ∧ code ≤ 0x6F then Config.orderOfCode code else none

/-- The order of a name whose order carries no fields (R15, R29, R164, R171, R192, R193); none for the orders with fields. -/
def bareOrder : OrderName → Option Instr
  | .clockRead => some .clockRead
  | .presenceClear => some .presenceClear
  | .egressEnd => some .egressEnd
  | .loadEnd => some .loadEnd
  | .status => some .status
  | .restart => some .restart
  | .clockSet => none
  | .clockSlew => none
  | .clockTrim => none
  | .rosterEnrol => none
  | .rosterAmend => none
  | .rosterWithdraw => none
  | .rosterRead => none
  | .rosterPurge => none
  | .presenceSet => none
  | .ruling => none
  | .laneMode => none
  | .laneRelease => none
  | .laneRead => none
  | .bellRing => none
  | .bellStop => none
  | .outputHold => none
  | .loadBegin => none
  | .loadRows => none
  | .bankSwitch => none
  | .tableRead => none
  | .spoolTake => none
  | .spoolClear => none
  | .setupWrite => none
  | .setupRead => none

/-- The order a frame's payload spells for its name, or none where its length or content does not fit the order's fields: an
order that carries no fields has the empty payload and no other (R188 check 4). The layout of fields is not the manual's (log
entry 2). -/
def orderOf (name : OrderName) (payload : List Byte) : Option Instr :=
  match bareOrder name with
  | some order => if payload = [] then some order else none
  | none =>
    match Config.orderOfPayload name payload with
    | none => none
    | some order => if orderName order = some name then some order else none

/-- What the checks of a dispatched frame give, in their order: an order to hand over, or a reply code (R188). -/
def State.checkFrame (s : State) (f : Frame) : Except ReplyCode Instr :=
  match s.stationClass f.station with
  | none => .error .unknownStation
  | some cls =>
    match orderNameOf f.code with
    | none => .error .badOrder
    | some name =>
      if classRank cls < classRank (minimumClass name) then .error .notPermitted
      else match orderOf name f.payload with
        | none => .error .badOrder
        | some order => .ok order

/-- The station id, code and tag of a frame, as its reply carries them back (R188). -/
def Frame.ref (f : Frame) : OrderRef := ⟨f.station, f.code, f.tag⟩

/-- A reply given at dispatch is queued (R188, R189). -/
def State.queueReply (s : State) (r : OrderRef) (x : Reply) : State :=
  s.setLink { s.link with transmit := s.link.transmit ++ [.reply r x], lastReply := some x }

/-- Whether a frame of the transmit queue is a reply. -/
def TxFrame.isReply : TxFrame → Bool
  | .reply _ _ => true
  | .report _ => false

/-- Whether the next frame may be dispatched: no order is in hand, the reply to the last order has been sent, and no restart
is outstanding (R188, R193). -/
def State.mayDispatch (s : State) : Bool :=
  s.link.handed.isNone && !s.link.transmit.any TxFrame.isReply && decide (s.link.restart = .none)

/-- The oldest frame leaves the receive buffer and is handed to its owner or answered (R188). -/
def State.dispatch (s : State) (f : Frame) (rest : List Frame) : State :=
  let t := s.setLink { s.link with received := rest }
  match t.checkFrame f with
  | .error code => t.queueReply f.ref ⟨code, .none⟩
  | .ok order => t.setLink { t.link with handed := some ⟨f.ref, order⟩ }

/-- FRAME_DISPATCH (R188). -/
def execFrameDispatch (s : State) : Host.Outcome State Fault Refusal :=
  whileRunning s fun s =>
    match s.link.received with
    | [] => s
    | f :: rest => if s.mayDispatch then s.dispatch f rest else s

/-! ## Sending and silence (R189, R190) -/

/-- FRAME_SENT: the oldest frame of the transmit queue has been sent; a RESTART's reply lets its restart begin (R189,
R193; log entry 31). -/
def execFrameSent (s : State) : Host.Outcome State Fault Refusal :=
  whileRunning s fun s =>
    match s.link.transmit with
    | [] => s
    | x :: rest =>
      s.setLink { s.link with
        transmit := rest, lastSent := some x
        restart := if x.isReply = true ∧ s.link.restart = .replying then .due else s.link.restart }

/-- SILENCE_TIMEOUT: the silence timer expires, the part is OFFLINE, and waiting reports are discarded (R190). DESIGN
CHOICE (log entry 45): the model keeps no frame in sending, so a report that no FRAME_SENT has taken counts as waiting. -/
def execSilenceTimeout (s : State) : Host.Outcome State Fault Refusal :=
  whileRunning s fun s =>
    match s.link.silence with
    | none => s
    | some t =>
      let u := s.reach t
      u.setLink { u.link with online := false, silence := none, transmit := u.link.transmit.filter TxFrame.isReply }

end Sys2Proof.Machine
end

