-- ==== Sys2Proof/Machine/Roster.lean ====
section
/-!
DEFINITION. The meanings of the roster and presence orders (02; R16–R29).
-/
namespace Sys2Proof.Machine

/-! ## Enrolment, amendment, withdrawal (R21–R24) -/

/-- The reply to an enrolment, by how it ended (R21). -/
def State.answerEnrol (s : State) (order : Instr) : EnrolAnswer → State
  | .done a => s.answer order .ok (.slot a)
  | .duplicate _ => s.refuse order .duplicate
  | .full => s.refuse order .full

/-- ROSTER ENROL (R21). -/
def execRosterEnrol (badge payClass pattern : Nat) (lanes : LaneSet) (s : State) : Host.Outcome State Fault Refusal :=
  whileRunning s fun s =>
    if validBadge badge && validIndices payClass pattern then
      let r := s.enrol badge ⟨payClass, pattern, lanes⟩
      r.1.answerEnrol (.rosterEnrol badge payClass pattern lanes) r.2
    else s.refuse (.rosterEnrol badge payClass pattern lanes) .outOfRange

/-- A slot as ROSTER AMEND writes it: each field present is written, each absent one kept (R22). -/
def amendSlot (payClass pattern : Option Nat) (lanes : Option LaneSet) (resetUnrecorded : Bool) (x : Slot) : Slot :=
  { x with
    payClass := payClass.getD x.payClass
    pattern := pattern.getD x.pattern
    lanes := lanes.getD x.lanes
    unrecorded := if resetUnrecorded then 0 else x.unrecorded }

/-- ROSTER AMEND (R22). -/
def execRosterAmend (badge : Nat) (payClass pattern : Option Nat) (lanes : Option LaneSet) (resetUnrecorded : Bool)
    (s : State) : Host.Outcome State Fault Refusal :=
  whileRunning s fun s =>
    let order := Instr.rosterAmend badge payClass pattern lanes resetUnrecorded
    if validBadge badge && validIndices (payClass.getD 0) (pattern.getD 0) then
      let r := s.lookup badge
      match r.2 with
      | none => r.1.refuse order .notFound
      | some a =>
        (r.1.setSlot a (amendSlot payClass pattern lanes resetUnrecorded (r.1.slot a))).answer order .ok (.slot a)
    else s.refuse order .outOfRange

/-- A matched slot becomes WITHDRAWN, its waiting total keeping its place (R24). -/
def State.markWithdrawn (s : State) (a : Nat) : State := s.setSlot a { s.slot a with status := .withdrawn }

/-- A withdrawal's forced closure: the slot becomes FREE where the total went into the spool, WITHDRAWN where it waits
(R24). -/
def State.forceClosure (s : State) (order : Instr) (a : Nat) (now : Stamp) : State :=
  let r := s.closeRecord a now .forced
  match r.2 with
  | .spooled => (r.1.freeSlotAt a).answer order .ok (.withdrawal .free)
  | .waiting => (r.1.markWithdrawn a).answer order .ok (.withdrawal .withdrawn)
  | .abandoned => r.1.refuse order .notFound

/-- The checks of ROSTER WITHDRAW for a matched slot, in their order, and the cases they leave (R23, R24). -/
def State.withdraw (s : State) (order : Instr) (a : Nat) (force : Bool) : State :=
  let x := s.slot a
  if x.mark.isSome then s.refuse order .busy
  else match x.record with
    | .off => (s.freeSlotAt a).answer order .ok (.withdrawal .free)
    | .closedWaiting _ _ _ => (s.markWithdrawn a).answer order .ok (.withdrawal .withdrawn)
    | .onShift _ _ | .onBreak _ _ =>
      if force then
        match s.now with
        | none => s.refuse order .clockInvalid
        | some t => s.forceClosure order a t
      else s.refuse order .openRecord

/-- ROSTER WITHDRAW (R23, R24). -/
def execRosterWithdraw (badge : Nat) (force : Bool) (s : State) : Host.Outcome State Fault Refusal :=
  whileRunning s fun s =>
    if validBadge badge then
      let r := s.lookup badge
      match r.2 with
      | none => r.1.refuse (.rosterWithdraw badge force) .notFound
      | some a => r.1.withdraw (.rosterWithdraw badge force) a force
    else s.refuse (.rosterWithdraw badge force) .outOfRange

/-! ## Reading and purging (R25, R26) -/

/-- The place of a slot's reference in the closure queue, counted from 1 (R94). -/
def State.queuePlace (s : State) (a : Nat) : Option Nat := (s.records.closureQueue.idxOf? a).map (· + 1)

/-- The fields a slot report gives of an ACTIVE or WITHDRAWN slot (R25). -/
def State.slotFields (s : State) (a : Nat) : SlotFields :=
  let x := s.slot a
  { badge := x.badge, payClass := x.payClass, pattern := x.pattern, lanes := x.lanes, presence := s.presenceOf x
    presenceStamp := x.presenceStamp, weekIndex := x.weekIndex, weekTotal := x.weekTotal, lastPunch := x.lastPunch
    unrecorded := x.unrecorded, mark := x.mark, record := x.record
    place := match x.record with
      | .closedWaiting _ _ _ => s.queuePlace a
      | _ => none }

/-- The report of a slot in its status (R25). -/
def State.slotReport (s : State) (a : Nat) : SlotReport :=
  { address := a, status := s.statusOf a
    fields := match s.statusOf a with
      | .free => none
      | .damaged => none
      | .active => some (s.slotFields a)
      | .withdrawn => some (s.slotFields a) }

/-- Slots read checked and reported, one after another (R25). -/
def State.reportSlots (s : State) : List Nat → State × List SlotReport
  | [] => (s, [])
  | a :: rest =>
    let t := s.checkedRead a
    let r := t.reportSlots rest
    (r.1, t.slotReport a :: r.2)

/-- The addresses a ROSTER READ by address names, stopping at slot 6,143 (R25). -/
def readAddresses (first count : Nat) : List Nat := (List.range (min count (6144 - first))).map (first + ·)

/-- ROSTER READ (R25). -/
def execRosterRead (key : RosterKey) (s : State) : Host.Outcome State Fault Refusal :=
  whileRunning s fun s =>
    match key with
    | .byBadge badge =>
      if validBadge badge then
        let r := s.lookup badge
        match r.2 with
        | none => r.1.refuse (.rosterRead key) .notFound
        | some a => r.1.answer (.rosterRead key) .ok (.slots 1 [r.1.slotReport a])
      else s.refuse (.rosterRead key) .outOfRange
    | .byAddress first count =>
      if validAddress first = true ∧ 1 ≤ count ∧ count ≤ 8 then
        let r := s.reportSlots (readAddresses first count)
        r.1.answer (.rosterRead key) .ok (.slots r.2.length r.2)
      else s.refuse (.rosterRead key) .outOfRange

/-- A DAMAGED slot is freed: its mark in the damage map is removed, its fields take their FREE values with fresh codes, and
both counts fall by one (R26). -/
def State.purge (s : State) (a : Nat) : State :=
  s.setRoster { s.roster with
    slots := s.roster.slots.put Slot.freeSlot a Slot.freeSlot
    damage := s.roster.damage.put false a false
    damagedCount := s.roster.damagedCount - 1
    occupiedCount := s.roster.occupiedCount - 1 }

/-- ROSTER PURGE (R26). -/
def execRosterPurge (address : Nat) (s : State) : Host.Outcome State Fault Refusal :=
  whileRunning s fun s =>
    if validAddress address then
      if s.isDamaged address then (s.purge address).answer (.rosterPurge address) .ok .none
      else s.refuse (.rosterPurge address) .wrongState
    else s.refuse (.rosterPurge address) .outOfRange

/-! ## Presence orders (R28, R29) -/

/-- A slot's presence as PRESENCE SET writes it at an epoch (R28). -/
def presenceSlot (epoch : Nat) (v : PresenceRead) (x : Slot) : Slot :=
  match v with
  | .inside => { x with inside := true, presenceStamp := epoch }
  | .outside => { x with inside := false, presenceStamp := epoch }
  | .unknown => { x with presenceStamp := 0 }

/-- PRESENCE SET (R28). -/
def execPresenceSet (badge : Nat) (value : Choice PresenceRead) (s : State) : Host.Outcome State Fault Refusal :=
  whileRunning s fun s =>
    match value with
    | .unlisted _ => s.refuse (.presenceSet badge value) .badOrder
    | .listed v =>
      if validBadge badge then
        let r := s.lookup badge
        match r.2 with
        | none => r.1.refuse (.presenceSet badge value) .notFound
        | some a =>
          let t := r.1.setSlot a (presenceSlot r.1.roster.epoch v (r.1.slot a))
          t.answer (.presenceSet badge value) .ok (.slotPresence a (t.presenceOf (t.slot a)))
      else s.refuse (.presenceSet badge value) .outOfRange

/-- PRESENCE CLEAR (R29). -/
def execPresenceClear (s : State) : Host.Outcome State Fault Refusal :=
  whileRunning s fun s => s.advanceEpoch.answer .presenceClear .ok (.epoch s.advanceEpoch.roster.epoch)

end Sys2Proof.Machine
end

