-- ==== Sys2Proof/Machine/Schedule.lean ====
section
/-!
DEFINITION. The meanings of the bell orders and of a ring's events (07; R140–R144).
-/
namespace Sys2Proof.Machine

/-- BELL RING (R143). -/
def execBellRing (outputs : BellSet) (tone duration : Nat) (s : State) : Host.Outcome State Fault Refusal :=
  whileRunning s fun s =>
    let order := Instr.bellRing outputs tone duration
    if 7 < tone ∨ duration < 1 ∨ 120 < duration then s.refuse order .outOfRange
    else
      let r := s.requestRings outputs (s.activeBank.tone tone) duration
      r.1.settle.answer order .ok (.rings r.2)

/-- Whether an output's ring is ORDINARY (R144). -/
def State.ringsOrdinary (s : State) (b : BellId) : Bool :=
  match s.bells.rings[b] with
  | some r => decide (r.kind = .ordinary)
  | none => false

/-- The ORDINARY ring of one output of a set ends (R144). -/
def State.stopRing (set : BellSet) (s : State) (b : BellId) : State :=
  if inSet set b.val && s.ringsOrdinary b then s.endRing b else s

/-- The outputs of a set whose rings are ORDINARY (R144). -/
def State.ordinaryIn (s : State) (set : BellSet) : BellSet :=
  allBells.foldl
    (fun acc b => if inSet set b.val && s.ringsOrdinary b then acc ||| BitVec.ofNat 8 (2 ^ b.val) else acc) 0

/-- BELL STOP (R144). -/
def execBellStop (outputs : BellSet) (s : State) : Host.Outcome State Fault Refusal :=
  whileRunning s fun s =>
    ((allBells.foldl (State.stopRing outputs) s).settle).answer (.bellStop outputs) .ok
      (.bellsStopped (s.ordinaryIn outputs))

/-- RING_END: a ring's end is reached (R141). -/
def execRingEnd (bell : BellId) (s : State) : Host.Outcome State Fault Refusal :=
  whileRunning s fun s =>
    match s.bells.rings[bell] with
    | none => s
    | some r =>
      match r.finish with
      | none => s
      | some t => ((s.reach t).endRing bell).settle

/-- CADENCE_PHASE_CHANGE: a ring's cadence reaches its next phase (R140). -/
def execCadencePhaseChange (bell : BellId) (s : State) : Host.Outcome State Fault Refusal :=
  whileRunning s fun s =>
    match s.bells.rings[bell] with
    | none => s
    | some r =>
      match r.nextPhase with
      | none => s
      | some t => ((s.reach t).startRing bell (nextPhaseOf r t)).settle

end Sys2Proof.Machine
end

