-- ==== Sys2Proof/Machine/SpoolOrders.lean ====
section
/-!
DEFINITION. The meanings of the spool orders and of the moving of waiting totals (10; R182–R184, R110).
-/
namespace Sys2Proof.Machine

/-- The oldest held sequence number (R179). -/
def Spool.oldest (x : Spool) : Option Nat := x.entries.head?.map SpoolEntry.seq

/-- The place of a sequence number in the entry list, where it is held (R179). -/
def Spool.place (x : Spool) (seq : Nat) : Option Nat := x.entries.findIdx? fun e => decide (e.seq = seq)

/-- A sequence number that is not held is refused NOT_FOUND, the reply giving the oldest held and the next sequence number
(R182, R183). -/
def State.notHeld (s : State) (order : Instr) : State :=
  s.answer order .notFound (.spoolEnds s.spool.oldest s.spool.next)

/-- SPOOL TAKE (R182). -/
def execSpoolTake (start count : Nat) (s : State) : Host.Outcome State Fault Refusal :=
  whileRunning s fun s =>
    let order := Instr.spoolTake start count
    if start = 0 ∨ count < 1 ∨ 12 < count then s.refuse order .outOfRange
    else match s.spool.place start with
      | none => s.notHeld order
      | some i =>
        let taken := (s.spool.entries.drop i).take count
        s.answer order .ok (.spoolEntries taken.length taken s.spool.next)

/-- The entries through a place are removed, and the Record Unit is told that room has appeared (R183, R184). -/
def State.clearThrough (s : State) (i : Nat) : State :=
  let t := s.setSpool { s.spool with entries := s.spool.entries.drop (i + 1) }
  t.setRecords { t.records with roomReported := true }

/-- SPOOL CLEAR (R183). -/
def execSpoolClear (through : Nat) (s : State) : Host.Outcome State Fault Refusal :=
  whileRunning s fun s =>
    if through = 0 then s.refuse (.spoolClear through) .outOfRange
    else match s.spool.place through with
      | none => s.notHeld (.spoolClear through)
      | some i =>
        let t := s.clearThrough i
        t.answer (.spoolClear through) .ok (.spoolCleared (i + 1) t.spool.entries.length t.spool.oldest)

/-- MOVE_WAITING_TOTALS: the Record Unit takes the room report and moves waiting totals until the queue is empty or the Spool
refuses (R110, R184; log entry 27). -/
def execMoveWaitingTotals (s : State) : Host.Outcome State Fault Refusal :=
  whileRunning s fun s => (s.setRecords { s.records with roomReported := false }).moveTotals

end Sys2Proof.Machine
end

