-- ==== Sys2Proof/Machine/SupplyMonitor.lean ====
section
/-!
DEFINITION. The meanings of the supply's events (11; R194–R196): supply hold, supply return, the loss of the backup supply,
and power-on.
-/
namespace Sys2Proof.Machine

/-! ## Hold entry (R194) -/

/-- The plant link stops: buffers emptied, no frame in progress and no order in hand, OFFLINE, the silence timer stopped
(R194; a frame in sending is dropped with its queue, log entry 45). -/
def Link.stop (x : Link) : Link :=
  { x with
    inProgress := [], stall := none, received := [], transmit := [], handed := none, online := false, silence := none
    restart := .none, again := 0 }

/-- The Time Base's part in hold entry: the hold count advances and the hold-begin stamp is noted (R9). -/
def State.noteHold (s : State) : State :=
  s.setTime { s.time with holdCount := wrapSucc s.time.holdCount, holdBegin := s.now }

/-- A lane's part in hold entry, its grant voided: held state NORMAL, no timer, no allowance (R93). -/
def State.holdLane (s : State) (l : LaneId) : State :=
  s.setLane l { s.lane l with held := false, heldTimer := none, exitAllowance := none }

/-- The gate line stops (R41). -/
def State.stopGateLine (s : State) : State := s.setPunch { s.punch with outstanding := none, verdicts := [] }

/-- Sampling stops: every debounced level is absent and no change is left to take (R155, R165). -/
def InputSampler.stop (x : InputSampler) : InputSampler :=
  { x with
    general := Vector.replicate 16 .absent, doors := Vector.replicate 8 .absent, exits := Vector.replicate 8 .absent
    encodersA := Vector.replicate 8 .absent, encodersB := Vector.replicate 8 .absent, deliveries := [] }

/-- Every ring ends and the evacuation set becomes absent (R147, R151). -/
def State.stopRings (s : State) : State :=
  let t := s.endAllRings
  t.setBells { t.bells with evacSet := none }

/-- A boundary the Schedule Unit has been given and not yet taken as a hold begins: since no entry fires after the return that
is due before it, the boundary's second counts as held, its rings dropped and its modes caught up (R151, R148, R149; log entry
10). -/
def Notice.overHold : Notice → Notice
  | .boundary t => .resumption (t - 1) t
  | x => x

/-- The Schedule Unit's notices as a hold begins (R151; log entry 10). -/
def State.heldNotices (s : State) : State :=
  s.setNotices { s.notices with scheduleUnit := s.notices.scheduleUnit.map Notice.overHold }

/-- The Supply Monitor's and the Time Base's part in hold entry, the plant link having stopped: the state becomes HOLD, the
hold count advances, and HOLD_BEGIN is requested (R194; log entry 18). -/
def State.beginHold (s : State) : State :=
  let t := ((s.setSupply { s.supply with state := .hold }).setLink s.link.stop).noteHold
  t.systemEvent t.time.holdBegin (.holdBegin t.time.holdCount)

/-- The part enters supply hold (R194, R93, R41, R62, R151, R155, R160; log entry 18). -/
def State.enterHold (s : State) : State :=
  let a := s.beginHold
  let b := allLanes.foldl (State.cancelWait false) (allLanes.foldl (State.voidGrant .supplyHold) a)
  let c := (allLanes.foldl State.holdLane b).stopGateLine.stopRings.heldNotices
  (c.setInputs c.inputs.stop).settle

/-- The part without any supply: nothing is left of its state, and its outputs are off (R196; log entry 12). -/
def State.goneDark (s : State) : State :=
  (State.reset.setSupply { State.reset.supply with state := .dark, backup := false }).setPending s.pending

/-- SUPPLY_HOLD: the main supply falls below threshold while the state is RUN; with the backup lost the part has no supply
(R194, R196). -/
def execSupplyHold (s : State) : Host.Outcome State Fault Refusal :=
  .next (if s.supply.state = .run then (if s.supply.backup then s.enterHold else s.goneDark) else s)

/-! ## Supply return (R195) -/

/-- The Supply Monitor's part in a return: RUN, cause SUPPLY_RETURN, and HOLD_END requested (R195; log entry 18). -/
def State.endHold (s : State) : State :=
  let t := s.setSupply { s.supply with state := .run, resetCause := .supplyReturn, returnedAt := some s.elapsed }
  t.systemEvent t.now (.holdEnd t.time.holdBegin)

/-- The Time Base's part in a return: the CLOCK_LOST entry of a clock that ran off its range in the hold, and the resumption
notice of the held span, where the clock was VALID as hold began (R9). -/
def State.resumeTime (s : State) : State :=
  let t := if s.time.lostInHold then (s.setTime { s.time with lostInHold := false }).systemEvent none .clockLost else s
  match t.time.holdBegin with
  | none => t
  | some h => t.giveNotice (.resumption h (absSecond t.time.day t.time.second))

/-- An evacuation cut short by the hold ends with EVAC_END, SUPPLY_RETURN (R165). -/
def State.endCutShort (s : State) : State :=
  if s.inputs.evacuating then
    let t := s.endEvacuation
    t.systemEvent t.now (.evacEnd .supplyReturn)
  else s

/-- The Input Sampler's part in a return: every watch UNEQUAL, and sampling begins again, each group's first sample one period
after the return (R155, R157; log entry 21). -/
def State.resumeSampling (s : State) : State :=
  let g := s.setup.general
  s.setInputs { s.inputs with
    equal := Vector.replicate 4 false
    nextGeneral := s.elapsed + g.generalDebounce.period
    nextContacts := s.elapsed + g.contactDebounce.period
    nextEncoders := s.elapsed + g.encoderDebounce.period }

/-- The part returns from supply hold (R195, R9, R41, R93, R165; log entry 18). -/
def State.leaveHold (s : State) : State :=
  let t := s.endHold.resumeTime.endCutShort.resumeSampling
  ((allLanes.foldl State.zeroEncoder t).restartGateLine).settle

/-- The part starts with power-on values, the commands that wait still waiting (R196; log entry 12). -/
def State.powerUp (s : State) : State := State.reset.setPending s.pending

/-- SUPPLY_RETURN: the main supply returns: out of supply hold, or, where both supplies were lost, to a power-on (R195,
R196). -/
def execSupplyReturn (s : State) : Host.Outcome State Fault Refusal :=
  .next (match s.supply.state with
    | .run => s
    | .hold => s.leaveHold
    | .dark => s.powerUp)

/-- BACKUP_LOSS: alone it leaves the part in RUN, its next main failure a power-on; in supply hold the part has no supply
left (R196). -/
def execBackupLoss (s : State) : Host.Outcome State Fault Refusal :=
  .next (match s.supply.state with
    | .run => s.setSupply { s.supply with backup := false }
    | .hold => s.goneDark
    | .dark => s)

/-- POWER_ON: every block takes its power-on values (R196). -/
def execPowerOn (s : State) : Host.Outcome State Fault Refusal := .next s.powerUp

end Sys2Proof.Machine
end

