-- ==== Sys2Proof/Machine/TimeBase.lean ====
section
/-!
DEFINITION. The meanings of the clock orders, of a second's end, and of the boundaries and notices the receiving blocks take
(01; R102–R104, R138, R148–R150, R173).
-/
namespace Sys2Proof.Machine

/-! ## A second's end (R1) -/

/-- SECOND_END: the prescaler reaches the length of the current second, and the second ends (R1, R3, R5, R7, R9; log entry
9). -/
def execSecondEnd (s : State) : Host.Outcome State Fault Refusal :=
  .next (if s.supply.state = .dark ∨ s.time.valid = false then s
    else (s.passPeriods (s.time.length - s.time.prescaler)).endSecond)

/-! ## Clock orders (R12–R15) -/

/-- The step kind of a CLOCK SET from an old stamp to a new one (R12, R8). -/
def stepKind : Option Stamp → Stamp → StepKind
  | none, _ => .first
  | some o, n => if o < n then .forward else if n < o then .backward else .none

/-- The Time Base as CLOCK SET writes it (R12 steps 2 and 3). -/
def TimeBase.setClock (t : TimeBase) (day second offset : Nat) : TimeBase :=
  { t with
    valid := true, day := day, second := second, prescaler := 0, length := secondLength 0 t.trim second, slewing := false
    slew := 0, stepCount := if t.valid then wrapSucc t.stepCount else t.stepCount, weekdayOffset := offset }

/-- The step notice of a CLOCK SET, given for a step forward or backward (R8). -/
def State.giveStep (s : State) (old : Option Stamp) (new : Stamp) : State :=
  match old with
  | none => s
  | some o => if o = new then s else s.giveNotice (.step o new)

/-- CLOCK SET (R12). -/
def execClockSet (day second offset : Nat) (s : State) : Host.Outcome State Fault Refusal :=
  whileRunning s fun s =>
    if 65535 < day ∨ 86399 < second ∨ 6 < offset then s.refuse (.clockSet day second offset) .outOfRange
    else
      let new := absSecond day second
      let t := s.setTime (s.time.setClock day second offset)
      let u := t.systemEvent (some new) (.clockSet s.now offset (stepKind s.now new))
      (u.giveStep s.now new).answer (.clockSet day second offset) .ok .none

/-- CLOCK SLEW (R13). -/
def execClockSlew (seconds : Int) (s : State) : Host.Outcome State Fault Refusal :=
  whileRunning s fun s =>
    if seconds < -3600 ∨ 3600 < seconds then s.refuse (.clockSlew seconds) .outOfRange
    else if s.time.valid = false then s.refuse (.clockSlew seconds) .clockInvalid
    else (s.setTime { s.time with slew := 64 * seconds, slewing := false }).answer (.clockSlew seconds) .ok .none

/-- CLOCK TRIM (R14). -/
def execClockTrim (trim : Int) (s : State) : Host.Outcome State Fault Refusal :=
  whileRunning s fun s =>
    if trim < -255 ∨ 255 < trim then s.refuse (.clockTrim trim) .outOfRange
    else if s.time.valid = false then s.refuse (.clockTrim trim) .clockInvalid
    else (s.setTime { s.time with trim := trim }).answer (.clockTrim trim) .ok .none

/-- What CLOCK READ gives (R15). -/
def State.clockReport (s : State) : ClockReport :=
  { valid := s.time.valid, day := s.time.day, second := s.time.second, weekdayOffset := s.time.weekdayOffset
    dayType := s.now.map fun t => dayType s.activeBank s.time.weekdayOffset (dayOf t)
    weekIndex := s.now.map s.weekOf
    trim := s.time.trim, slew := s.time.slew, stepCount := s.time.stepCount, holdCount := s.time.holdCount
    elapsed := s.elapsed }

/-- CLOCK READ (R15). -/
def execClockRead (s : State) : Host.Outcome State Fault Refusal :=
  whileRunning s fun s => s.answer .clockRead .ok (.clock s.clockReport)

/-! ## Boundaries (R7, R102, R138, R173) -/

/-- The notices with a block's oldest one gone from its list, for the Schedule Unit with the bank that answers it. -/
def Notices.dropFor (n : Notices) : Receiver → Notices
  | .recordUnit => { n with recordUnit := n.recordUnit.tail }
  | .scheduleUnit => { n with scheduleUnit := n.scheduleUnit.tail, oldBanks := n.oldBanks.tail }
  | .bankStore => { n with bankStore := n.bankStore.tail }

/-- A block's oldest notice leaves its list as the block takes it. -/
def State.dropNotice (s : State) (r : Receiver) : State := s.setNotices (s.notices.dropFor r)

/-- One schedule entry is fired where it is due: a RING entry requests its rings, a LANE_MODE entry its lanes' mode
(R138). -/
def State.fireEntry (b : Bank) (t : Stamp) (s : State) (e : ScheduleEntry) : State :=
  if entryDue b s.time.weekdayOffset e t then
    match e.kind, askOf e.mode with
    | .listed .ring, _ => (s.requestRings e.bells (b.tone e.tone) e.duration).1
    | .listed .laneMode, some m => s.askModes e.lanes m
    | _, _ => s
  else s

/-- The Schedule Unit takes a boundary: every entry of the bank in force is tested in index order and fired where due
(R138). -/
def State.fireSchedule (s : State) (b : Bank) (t : Stamp) : State := b.schedule.toList.foldl (State.fireEntry b t) s

/-- A block takes a boundary, its oldest notice, which leaves its list (R102, R138, R173). -/
def State.takeBoundary (s : State) (r : Receiver) (t : Stamp) : State :=
  let u := s.dropNotice r
  match r with
  | .recordUnit => u.closeDue t
  | .scheduleUnit => (u.fireSchedule (s.bankAtBoundary t) t).settle
  | .bankStore => if t % 60 = 0 then u.switchIfReached t else u

/-- SECOND_BOUNDARY: the block's oldest notice, a boundary, is taken (R7). With none waiting nothing is taken (log
entry 10); none given while the clock was VALID still waits after it has run off its range (R5; log entry 44). -/
def execSecondBoundary (r : Receiver) (s : State) : Host.Outcome State Fault Refusal :=
  whileRunning s fun s =>
    match s.notices.forBlock r with
    | .boundary t :: _ => s.takeBoundary r t
    | _ => s

/-- Whether the deadline list's head is due at a stamp (R102). -/
def State.headDue (s : State) (b : Stamp) : Bool :=
  match s.records.deadlines with
  | [] => false
  | a :: _ => match s.deadlineOf a with
    | some t => decide (t ≤ b)
    | none => false

/-- DEADLINE_EXPIRY: the Record Unit takes the boundary it has been given, at which the deadline list's head is due, and
closes every record due at it (R102). A boundary that waits as the clock runs off its range is withdrawn, so that no deadline
expires while it is INVALID (R5; log entry 44). -/
def execDeadlineExpiry (s : State) : Host.Outcome State Fault Refusal :=
  whileRunning s fun s =>
    match s.notices.recordUnit with
    | .boundary t :: _ => if s.headDue t then (s.dropNotice .recordUnit).closeDue t else s
    | _ => s

/-- PENDING_SWITCH_DUE: the Bank Store takes the minute boundary it has been given, at or after the pending target, and
carries the switch out (R173). No such boundary waits after the clock has run off its range (R6; log entry 44). -/
def execPendingSwitchDue (s : State) : Host.Outcome State Fault Refusal :=
  whileRunning s fun s =>
    match s.notices.bankStore, s.banks.pending with
    | .boundary t :: _, some p =>
      if t % 60 = 0 ∧ p.target ≤ t then (s.dropNotice .bankStore).switchAtNotice (some t) p.timed else s
    | _, _ => s

/-! ## Notices (R8, R9, R103, R104, R148–R150, R173) -/

/-- One lane is caught up over a skipped or held span (R149). -/
def State.catchUpLane (b : Bank) (first last : Stamp) (s : State) (l : LaneId) : State :=
  match catchUpMode b s.time.weekdayOffset l first last with
  | none => s
  | some m => s.askMode m l

/-- The Schedule Unit takes a skipped or held span: rings due in it are dropped, and lane modes are caught up (R148,
R149). -/
def State.catchUp (s : State) (b : Bank) (first last : Stamp) : State :=
  (allLanes.foldl (State.catchUpLane b first last) s).settle

/-- A block takes a skipped or held span, its oldest notice, which leaves its list (R103, R104, R148, R173). -/
def State.takeSpan (s : State) (r : Receiver) (first last : Stamp) : State :=
  let u := s.dropNotice r
  match r with
  | .recordUnit => u.closeDue last
  | .scheduleUnit => u.catchUp (s.bankAtSpanEnd last) first last
  | .bankStore => u.switchIfReached last

/-- STEP_NOTICE: the block's oldest notice, a step, is taken; a backward step changes nothing (R8, R103, R148, R150, R173). -/
def execStepNotice (r : Receiver) (s : State) : Host.Outcome State Fault Refusal :=
  whileRunning s fun s =>
    match s.notices.forBlock r with
    | .step o n :: _ => if o < n then s.takeSpan r o n else s.dropNotice r
    | _ => s

/-- RESUMPTION_NOTICE: the block's oldest notice, a resumption, is taken as a skipped span (R9, R104, R148, R173). -/
def execResumptionNotice (r : Receiver) (s : State) : Host.Outcome State Fault Refusal :=
  whileRunning s fun s =>
    match s.notices.forBlock r with
    | .resumption h t :: _ => s.takeSpan r h t
    | _ => s

end Sys2Proof.Machine
end

