-- ==== Sys2Proof/Machine/Dispatch.lean ====
section
/-!
DEFINITION. The dispatch of a command to its meaning: one arm per constructor of `Instr`.
-/
namespace Sys2Proof.Machine

/-- A command's effect on everything but the queue of the commands that wait. -/
def exec (i : Instr) (s : State) : Host.Outcome State Fault Refusal :=
  match i with
  | .clockSet day second offset => Sys2Proof.Machine.execClockSet day second offset s
  | .clockSlew seconds => Sys2Proof.Machine.execClockSlew seconds s
  | .clockTrim trim => Sys2Proof.Machine.execClockTrim trim s
  | .clockRead => Sys2Proof.Machine.execClockRead s
  | .secondEnd => Sys2Proof.Machine.execSecondEnd s
  | .secondBoundary receiver => Sys2Proof.Machine.execSecondBoundary receiver s
  | .deadlineExpiry => Sys2Proof.Machine.execDeadlineExpiry s
  | .stepNotice receiver => Sys2Proof.Machine.execStepNotice receiver s
  | .resumptionNotice receiver => Sys2Proof.Machine.execResumptionNotice receiver s
  | .pendingSwitchDue => Sys2Proof.Machine.execPendingSwitchDue s
  | .rosterEnrol badge payClass pattern lanes => Sys2Proof.Machine.execRosterEnrol badge payClass pattern lanes s
  | .rosterAmend badge payClass pattern lanes resetUnrecorded => Sys2Proof.Machine.execRosterAmend badge payClass pattern lanes resetUnrecorded s
  | .rosterWithdraw badge force => Sys2Proof.Machine.execRosterWithdraw badge force s
  | .rosterRead key => Sys2Proof.Machine.execRosterRead key s
  | .rosterPurge address => Sys2Proof.Machine.execRosterPurge address s
  | .presenceSet badge value => Sys2Proof.Machine.execPresenceSet badge value s
  | .presenceClear => Sys2Proof.Machine.execPresenceClear s
  | .poll => Sys2Proof.Machine.execPoll s
  | .pollTimeout => Sys2Proof.Machine.execPollTimeout s
  | .idle head => Sys2Proof.Machine.execIdle head s
  | .garbledAnswer => Sys2Proof.Machine.execGarbledAnswer s
  | .strayCharacters => Sys2Proof.Machine.execStrayCharacters s
  | .punch head badge intent => Sys2Proof.Machine.execPunch head badge intent s
  | .referralTimeout lane => Sys2Proof.Machine.execReferralTimeout lane s
  | .ruling lane badge decision fields => Sys2Proof.Machine.execRuling lane badge decision fields s
  | .doorOpening lane => Sys2Proof.Machine.execDoorOpening lane s
  | .doorClosing lane => Sys2Proof.Machine.execDoorClosing lane s
  | .releaseExpiry lane => Sys2Proof.Machine.execReleaseExpiry lane s
  | .heldOpenExpiry lane => Sys2Proof.Machine.execHeldOpenExpiry lane s
  | .requestToExit lane => Sys2Proof.Machine.execRequestToExit lane s
  | .exitAllowanceExpiry lane => Sys2Proof.Machine.execExitAllowanceExpiry lane s
  | .encoderChange lane a b => Sys2Proof.Machine.execEncoderChange lane a b s
  | .interlockWaitExpiry lane => Sys2Proof.Machine.execInterlockWaitExpiry lane s
  | .deadTimeEnd lane => Sys2Proof.Machine.execDeadTimeEnd lane s
  | .laneMode lanes mode => Sys2Proof.Machine.execLaneMode lanes mode s
  | .laneRelease lane dir => Sys2Proof.Machine.execLaneRelease lane dir s
  | .laneRead lane => Sys2Proof.Machine.execLaneRead lane s
  | .bellRing outputs tone duration => Sys2Proof.Machine.execBellRing outputs tone duration s
  | .bellStop outputs => Sys2Proof.Machine.execBellStop outputs s
  | .ringEnd bell => Sys2Proof.Machine.execRingEnd bell s
  | .cadencePhaseChange bell => Sys2Proof.Machine.execCadencePhaseChange bell s
  | .debounceSample sample => Sys2Proof.Machine.execDebounceSample sample s
  | .watchFire watch => Sys2Proof.Machine.execWatchFire watch s
  | .outputHold releases bells hold => Sys2Proof.Machine.execOutputHold releases bells hold s
  | .egressEnd => Sys2Proof.Machine.execEgressEnd s
  | .loadBegin kind => Sys2Proof.Machine.execLoadBegin kind s
  | .loadRows table first rows => Sys2Proof.Machine.execLoadRows table first rows s
  | .loadEnd => Sys2Proof.Machine.execLoadEnd s
  | .bankSwitch time => Sys2Proof.Machine.execBankSwitch time s
  | .tableRead bank table first count => Sys2Proof.Machine.execTableRead bank table first count s
  | .spoolTake start count => Sys2Proof.Machine.execSpoolTake start count s
  | .spoolClear through => Sys2Proof.Machine.execSpoolClear through s
  | .moveWaitingTotals => Sys2Proof.Machine.execMoveWaitingTotals s
  | .status => Sys2Proof.Machine.execStatus s
  | .setupWrite part => Sys2Proof.Machine.execSetupWrite part s
  | .setupRead name => Sys2Proof.Machine.execSetupRead name s
  | .restart => Sys2Proof.Machine.execRestart s
  | .warmRestart => Sys2Proof.Machine.execWarmRestart s
  | .frameReceipt bytes => Sys2Proof.Machine.execFrameReceipt bytes s
  | .receiveTimeout => Sys2Proof.Machine.execReceiveTimeout s
  | .frameDispatch => Sys2Proof.Machine.execFrameDispatch s
  | .frameSent => Sys2Proof.Machine.execFrameSent s
  | .silenceTimeout => Sys2Proof.Machine.execSilenceTimeout s
  | .supplyHold => Sys2Proof.Machine.execSupplyHold s
  | .supplyReturn => Sys2Proof.Machine.execSupplyReturn s
  | .backupLoss => Sys2Proof.Machine.execBackupLoss s
  | .powerOn => Sys2Proof.Machine.execPowerOn s
  | .frameLengthBad length => Sys2Proof.Machine.execFrameLengthBad length s

end Sys2Proof.Machine
end

