-- ==== Sys2Proof/Machine/Due.lean ====
section
/-!
DEFINITION. The events that fall due inside the part of themselves, in the order in which a step with no command waiting takes
them (log entry 1). Where several are due at once the manual lets either be taken first.
-/
namespace Sys2Proof.Machine

/-- A timer that has expired. -/
def State.expired (s : State) (t : Option Elapsed) : Bool :=
  match t with
  | none => false
  | some t => decide (t ≤ s.elapsed)

/-- The event by which a block takes its oldest notice (R7, R8, R9, R102, R173). -/
def State.noticeEvent (s : State) (r : Receiver) : Option Instr :=
  match s.notices.forBlock r with
  | [] => none
  | .boundary t :: _ =>
    match r with
    | .recordUnit => some (if s.headDue t then .deadlineExpiry else .secondBoundary r)
    | .scheduleUnit => some (.secondBoundary r)
    | .bankStore =>
      match s.banks.pending with
      | some p => some (if t % 60 = 0 ∧ p.target ≤ t then .pendingSwitchDue else .secondBoundary r)
      | none => some (.secondBoundary r)
  | .step _ _ :: _ => some (.stepNotice r)
  | .resumption _ _ :: _ => some (.resumptionNotice r)

/-- The event by which a block takes the oldest change delivered to it (R154, R158). -/
def State.deliveryEvent (s : State) : Option Instr :=
  match s.inputs.deliveries with
  | [] => none
  | .door l true :: _ => some (.doorOpening l)
  | .door l false :: _ => some (.doorClosing l)
  | .exitRequest l :: _ => some (.requestToExit l)
  | .encoder l a b :: _ => some (.encoderChange l a b)
  | .watch k :: _ => some (.watchFire k)

/-- The Link Controller's event that is due: a frame to dispatch, the stop of the frame in progress, or the silence timer's
expiry (R187, R188, R190). -/
def State.linkEvent (s : State) : Option Instr :=
  if s.link.received ≠ [] ∧ s.mayDispatch = true then some .frameDispatch
  else if s.expired s.link.stall then some .receiveTimeout
  else if s.expired s.link.silence then some .silenceTimeout
  else none

/-- A grant's event that is due: the wait expiry or the release expiry (R76, R87). -/
def State.grantEvent (s : State) (l : LaneId) : Option Instr :=
  match (s.lane l).grant with
  | none => none
  | some g =>
    match g.phase with
    | .waiting => if s.expired (some g.waitExpiry) then some (.interlockWaitExpiry l) else none
    | .released => if s.expired g.releaseExpiry then some (.releaseExpiry l) else none

/-- A lane's event that is due, the end of a dead time that the present elapsed time has reached before the others (R61, R76, R79,
R80, R86, R87). -/
def State.laneEvent (s : State) (l : LaneId) : Option Instr :=
  if s.expired (s.deadTimeDue l) then some (.deadTimeEnd l)
  else (s.grantEvent l).orElse fun _ =>
    if s.expired (s.punch.waits[l].map ReferralWait.expiry) then some (.referralTimeout l)
    else if s.expired (s.lane l).heldTimer then some (.heldOpenExpiry l)
    else if s.expired (s.lane l).exitAllowance then some (.exitAllowanceExpiry l)
    else none

/-- A ring's event that is due (R140, R141). -/
def State.bellEvent (s : State) (b : BellId) : Option Instr :=
  match s.bells.rings[b] with
  | none => none
  | some r =>
    if s.expired r.finish then some (.ringEnd b)
    else if s.expired r.nextPhase then some (.cadencePhaseChange b)
    else none

/-- The current second has reached its length (R1). -/
def State.secondEvent (s : State) : Option Instr :=
  if s.time.valid = true ∧ s.time.length ≤ s.time.prescaler then some .secondEnd else none

/-- The first event due while the main supply runs. -/
def State.runningEvent (s : State) : Option Instr :=
  [s.link.handed.map HandedOrder.order,
   s.noticeEvent .recordUnit,
   s.noticeEvent .scheduleUnit,
   s.noticeEvent .bankStore,
   s.deliveryEvent,
   if s.link.restart = .due then some .warmRestart else none,
   if s.records.roomReported then some .moveWaitingTotals else none,
   s.secondEvent,
   allLanes.findSome? s.laneEvent,
   allBells.findSome? s.bellEvent,
   if s.expired (s.punch.outstanding.map OpenPoll.expiry) then some .pollTimeout else none,
   s.linkEvent].findSome? id

/-- The event the part takes of itself with no command waiting: in supply hold the clock alone runs (R9, R194). -/
def State.dueEvent (s : State) : Option Instr :=
  match s.supply.state with
  | .run => s.runningEvent
  | .hold => s.secondEvent
  | .dark => none

/-- What a step does with no command waiting: the event that is due, or else one crystal period (R1, R4); without any supply
nothing (R196). -/
def State.idleStep (s : State) : Host.Outcome State Fault Refusal :=
  match s.dueEvent with
  | some c => exec c s
  | none => .next (if s.supply.state = .dark then s else s.passPeriods 1)

end Sys2Proof.Machine
end

