-- ==== Sys2Proof/Safety.lean ====
section
/-!
DEFINITION. What counts as a sound state of the GT840, in the terms the statements use: the laws the manual states of its
storage, its queues and its outputs, each as a predicate on states, and what the part's outputs show.
-/
namespace Sys2Proof.Machine

/-- The roster's storage is in its canonical form (the model's own law: equal rosters are equal data). -/
def State.rosterForm (s : State) : Prop :=
  s.roster.slots.wf Slot.freeSlot = true ∧ s.roster.damage.wf false = true

/-- The presence epoch lies in 1–65,535 (R27, R29). -/
def State.epochLaw (s : State) : Prop := 1 ≤ s.roster.epoch ∧ s.roster.epoch ≤ 65535

/-- The entries carry consecutive sequence numbers, the next after the newest being the one to be given (R179). -/
def consecutive : List SpoolEntry → Nat → Prop
  | [], _ => True
  | [e], next => seqSucc e.seq = next
  | e :: f :: rest, next => seqSucc e.seq = f.seq ∧ consecutive (f :: rest) next

/-- The law of the spool: at most 4,096 entries, in consecutive sequence order (R179). -/
def State.spoolLaw (s : State) : Prop :=
  s.spool.entries.length ≤ 4096 ∧ consecutive s.spool.entries s.spool.next

/-- The verdict queue holds at most one entry for a head (R40). -/
def State.verdictLaw (s : State) : Prop := (s.punch.verdicts.map QueuedVerdict.head).Nodup

/-- The buffers of the plant link keep their sizes: at most two frames received, at most 31 reports queued, and at most one
reply queued or in the making (R187, R188, R189). -/
def State.linkLaw (s : State) : Prop :=
  s.link.received.length ≤ 2 ∧
    (s.link.transmit.filter fun x => !x.isReply).length ≤ 31 ∧
    (s.link.transmit.filter TxFrame.isReply).length + (if s.link.handed.isSome then 1 else 0) ≤ 1

/-- Every requested and driven level is what the rules give (R71, R160). -/
def State.levelLaw (s : State) : Prop :=
  (∀ l : LaneId, (s.lane l).requested = (s.lane l).wantsRelease) ∧
    (∀ l : LaneId, s.inputs.drivenRelease[l] = s.driveRelease l) ∧
    ∀ b : BellId, s.inputs.drivenBell[b] = s.driveBell b

/-- The plant time registers lie in their ranges (01, table). -/
def State.timeLaw (s : State) : Prop :=
  s.time.day ≤ 65535 ∧ s.time.second ≤ 86399 ∧ s.time.weekdayOffset ≤ 6 ∧ s.time.stepCount ≤ 65535 ∧
    s.time.holdCount ≤ 65535 ∧ (-255 ≤ s.time.trim ∧ s.time.trim ≤ 255) ∧ (-230400 ≤ s.time.slew ∧ s.time.slew ≤ 230400)

/-- Elapsed time lies in its range, the fraction below a millisecond (R4). -/
def State.elapsedLaw (s : State) : Prop := s.time.elapsed ≤ elapsedTop ∧ s.time.phase < 32768

/-- The bank in use carries a generation in its range (R172). -/
def State.generationLaw (s : State) : Prop := s.banks.generation ≤ 65535

/-- No protected word of a slot that is not DAMAGED holds a flipped bit, so that no read corrects or damages anything (R33). -/
def State.soundWords (s : State) : Prop := ∀ a, s.isDamaged a = false → (s.slot a).errors = ⟨0, false⟩

/-- What a slot that holds nothing looks like: a FREE slot has its FREE values but for its words' condition, and a DAMAGED
one has lost its contents (R17, R34). -/
def State.emptyLaw (s : State) : Prop :=
  (∀ a, (s.slot a).status = .free → s.slot a = { Slot.freeSlot with errors := (s.slot a).errors }) ∧
    ∀ a, s.isDamaged a = true → (s.slot a).status = .free

/-- The two lists of the Record Unit: the deadline list names exactly the slots whose records are open, each once, earliest
deadline first, and the closure queue exactly those whose records wait, each once (R101, R109). -/
def State.listLaw (s : State) : Prop :=
  s.records.deadlines.Nodup ∧ s.records.closureQueue.Nodup ∧
    (∀ a, a ∈ s.records.deadlines ↔ (s.slot a).record.openData.isSome = true) ∧
    (∀ a, a ∈ s.records.closureQueue ↔ ∃ d out total, (s.slot a).record = .closedWaiting d out total) ∧
    s.records.deadlines.Pairwise fun a c => ∀ x y, s.deadlineOf a = some x → s.deadlineOf c = some y → x ≤ y

/-- What a lane's activity state stands for: RELEASED a grant in phase RELEASED, INTERLOCK_WAIT a waiting one, REFERRAL_WAIT
a referral wait, IDLE none; a handed punch stands behind each WORKER or VISITOR grant and no other (R53, R70, R72, R73). -/
def State.laneLaw (s : State) : Prop :=
  ∀ l : LaneId,
    ((s.lane l).activity = .released ↔ ∃ g, (s.lane l).grant = some g ∧ g.phase = .released) ∧
    ((s.lane l).activity = .interlockWait ↔ ∃ g, (s.lane l).grant = some g ∧ g.phase = .waiting) ∧
    ((s.lane l).activity = .referralWait ↔ s.punch.waits[l].isSome = true) ∧
    ((s.handedAt l).isSome = true ↔ ∃ g, (s.lane l).grant = some g ∧ (g.kind = .worker ∨ g.kind = .visitor)) ∧
    ((s.lane l).pendingSetup.isSome = true → (s.lane l).activity ≠ .idle)

/-- A referral wait is of the lane of the head it answers (R42, R58). -/
def State.waitLaw (s : State) : Prop := ∀ (l : LaneId) (w : ReferralWait), s.punch.waits[l] = some w → w.head.lane = l

/-- How many of the 6,144 slots a test holds of. -/
def countSlots (p : Nat → Bool) : Nat := ((List.range 6144).filter p).length

/-- The Roster Store's counts: the occupied-slot count is the number of the slots that are not FREE, DAMAGED ones among them,
and the damaged-slot count that of the DAMAGED ones (R18, R34). -/
def State.countLaw (s : State) : Prop :=
  s.roster.occupiedCount = countSlots (fun a => decide (s.statusOf a ≠ .free)) ∧
    s.roster.damagedCount = countSlots s.isDamaged

/-- The roster has no slot past address 6,143: nothing stands there (R16). -/
def State.addressLaw (s : State) : Prop := ∀ a, 6143 < a → s.slot a = Slot.freeSlot ∧ s.isDamaged a = false

/-- The modes: EGRESS is the mode of exactly the DOOR and TURNSTILE lanes during an evacuation, and those lanes alone remember
a mode (R69, R91); a member of an interlock pair is not FREE, does not remember FREE, and is not held on (R66, R69, R161). -/
def State.modeLaw (s : State) : Prop :=
  ∀ l : LaneId,
    ((s.lane l).mode = .egress ↔ s.inputs.evacuating = true ∧ (s.lane l).setup.kind ≠ .unused) ∧
    ((s.lane l).remembered.isSome = true ↔ s.inputs.evacuating = true ∧ (s.lane l).setup.kind ≠ .unused) ∧
    (s.inPair l = true →
      (s.lane l).mode ≠ .free ∧ (s.lane l).remembered ≠ some .free ∧ s.inputs.releaseHolds[l] ≠ some true)

/-- A pending-grant mark names a lane whose grant is for that slot (R30). -/
def State.markLaw (s : State) : Prop :=
  ∀ a l, (s.slot a).mark = some l →
    (∃ g, (s.lane l).grant = some g ∧ g.slot = some a) ∧ ∃ p, s.handedAt l = some p ∧ p.slot = some a

/-- Every slot that is not FREE stands in its badge's bucket, and no two ACTIVE slots hold one badge (R16, R21). -/
def State.badgeLaw (s : State) : Prop :=
  (∀ a, (s.slot a).status ≠ .free →
      a < 6144 ∧ ∃ b, (s.slot a).badge = some b ∧ validBadge b = true ∧ a / 4 = bucketOf b) ∧
    ∀ a c b, s.holdsBadge b a = true → s.holdsBadge b c = true → a = c

/-! ## What a command may touch -/

/-- The parts the state is made of, the queue of waiting commands apart. -/
inductive Block where
  | time
  | roster
  | records
  | punch
  | lanes
  | bells
  | inputs
  | banks
  | spool
  | link
  | setup
  | supply
  | notices
deriving DecidableEq, Repr

/-- A part of the state is the same in two states. -/
def Block.same (s t : State) : Block → Prop
  | .time => t.time = s.time
  | .roster => t.roster = s.roster
  | .records => t.records = s.records
  | .punch => t.punch = s.punch
  | .lanes => t.lanes = s.lanes
  | .bells => t.bells = s.bells
  | .inputs => t.inputs = s.inputs
  | .banks => t.banks = s.banks
  | .spool => t.spool = s.spool
  | .link => t.link = s.link
  | .setup => t.setup = s.setup
  | .supply => t.supply = s.supply
  | .notices => t.notices = s.notices

/-- Nothing has changed from one state to another outside the parts listed; the queue of waiting commands is the same. -/
def unchangedBut (l : List Block) (s t : State) : Prop := t.pending = s.pending ∧ ∀ b, b ∈ l ∨ b.same s t

/-- All parts of the state. -/
def allBlocks : List Block :=
  [.time, .roster, .records, .punch, .lanes, .bells, .inputs, .banks, .spool, .link, .setup, .supply, .notices]

/-- What the Spool and the Link Controller take part in wherever an entry is requested (R180, R189). -/
def entryBlocks : List Block := [.spool, .link]

/-- What a release output's course takes part in: a grant's verdicts and marks, its lane, and the driven levels (R53, R72,
R73, R160). -/
def grantBlocks : List Block := [.lanes, .punch, .inputs, .roster, .records, .spool, .link]

/-- What the passing of time to a timer's expiry takes part in: the clock, and where seconds end on the way, their boundaries or
the entry of a clock that runs off its range (R1, R4, R5, R7). -/
def timerBlocks : List Block := [.time, .notices, .spool, .link]

/-- The parts of the state a command may change, by the rules that give its effect. -/
def Instr.touches : Instr → List Block
  | .clockSet _ _ _ => [.time, .notices, .spool, .link]
  | .clockSlew _ => [.time, .link]
  | .clockTrim _ => [.time, .link]
  | .clockRead => [.link]
  | .secondEnd => [.time, .notices, .spool, .link]
  | .secondBoundary .recordUnit => [.notices, .records, .roster, .spool, .link]
  | .secondBoundary .scheduleUnit => [.notices, .bells] ++ grantBlocks
  | .secondBoundary .bankStore => [.notices, .banks, .spool, .link]
  | .deadlineExpiry => [.notices, .records, .roster, .spool, .link]
  | .stepNotice .recordUnit => [.notices, .records, .roster, .spool, .link]
  | .stepNotice .scheduleUnit => [.notices] ++ grantBlocks
  | .stepNotice .bankStore => [.notices, .banks, .spool, .link]
  | .resumptionNotice .recordUnit => [.notices, .records, .roster, .spool, .link]
  | .resumptionNotice .scheduleUnit => [.notices] ++ grantBlocks
  | .resumptionNotice .bankStore => [.notices, .banks, .spool, .link]
  | .pendingSwitchDue => [.notices, .banks, .spool, .link]
  | .rosterEnrol _ _ _ _ => [.roster, .records, .spool, .link]
  | .rosterAmend _ _ _ _ _ => [.roster, .records, .spool, .link]
  | .rosterWithdraw _ _ => [.roster, .records, .spool, .link]
  | .rosterRead _ => [.roster, .records, .spool, .link]
  | .rosterPurge _ => [.roster, .link]
  | .presenceSet _ _ => [.roster, .records, .spool, .link]
  | .presenceClear => [.roster, .link]
  | .poll => [.punch]
  | .pollTimeout => [.punch] ++ timerBlocks
  | .idle _ => [.punch, .spool, .link]
  | .garbledAnswer => [.punch, .spool, .link]
  | .strayCharacters => [.punch]
  | .punch _ _ _ => grantBlocks
  | .referralTimeout _ => timerBlocks ++ grantBlocks
  | .ruling _ _ _ _ => grantBlocks
  | .doorOpening _ => grantBlocks
  | .doorClosing _ => grantBlocks
  | .releaseExpiry _ => timerBlocks ++ grantBlocks
  | .heldOpenExpiry _ => [.lanes] ++ timerBlocks
  | .requestToExit _ => grantBlocks
  | .exitAllowanceExpiry _ => [.lanes] ++ timerBlocks
  | .encoderChange _ _ _ => grantBlocks
  | .interlockWaitExpiry _ => timerBlocks ++ grantBlocks
  | .deadTimeEnd _ => timerBlocks ++ grantBlocks
  | .laneMode _ _ => grantBlocks
  | .laneRelease _ _ => grantBlocks
  | .laneRead _ => [.link]
  | .bellRing _ _ _ => [.bells] ++ grantBlocks
  | .bellStop _ => [.bells] ++ grantBlocks
  | .ringEnd _ => [.bells] ++ timerBlocks ++ grantBlocks
  | .cadencePhaseChange _ => [.bells] ++ timerBlocks ++ grantBlocks
  | .debounceSample _ => timerBlocks ++ grantBlocks
  | .watchFire _ => [.bells] ++ grantBlocks
  | .outputHold _ _ _ => grantBlocks
  | .egressEnd => [.bells] ++ grantBlocks
  | .loadBegin _ => [.banks, .link]
  | .loadRows _ _ _ => [.banks, .link]
  | .loadEnd => [.banks, .link]
  | .bankSwitch _ => [.banks, .spool, .link, .notices]
  | .tableRead _ _ _ _ => [.link]
  | .spoolTake _ _ => [.link]
  | .spoolClear _ => [.spool, .records, .link]
  | .moveWaitingTotals => [.records, .roster, .spool, .link]
  | .status => [.link]
  | .setupWrite _ => [.setup, .bells] ++ grantBlocks
  | .setupRead _ => [.link]
  | .restart => [.link]
  | .warmRestart => [.supply, .bells] ++ grantBlocks
  | .frameReceipt _ => [.link]
  | .receiveTimeout => timerBlocks
  | .frameDispatch => [.link]
  | .frameSent => [.link]
  | .silenceTimeout => timerBlocks
  | .supplyHold => allBlocks
  | .supplyReturn => allBlocks
  | .backupLoss => allBlocks
  | .powerOn => allBlocks
  | .frameLengthBad _ => [.link]

/-! ## Entries -/

/-- Between two states an entry has been requested of the Spool and copied to the Link Controller where its kind is (R180,
R189), and neither has changed otherwise. -/
def entered (e : Entry) (s t : State) : Prop :=
  t.spool = (s.requestEntry e).spool ∧ t.link = (s.requestEntry e).link

/-! ## Punches that pass their checks -/

/-- What the admit window says of a punch at a slot, with the classification it has there (R51). -/
def State.windowOf (s : State) (p : PunchRead) (a : Nat) : WindowAnswer :=
  s.windowFor (s.slot a) (classify p.head.dir (s.slot a).record p.intent).cls p.stamp

/-- Checks 5 to 11 end no punch: the slot is marked for no other lane, the repeat guard and the lane permission let it pass, a
passback violation is not at a HARD lane, and the admit window does not deny it (R42, R46, R47, R50, R51). -/
def State.passes (s : State) (p : PunchRead) (a : Nat) : Prop :=
  (∀ l ∈ (s.slot a).mark, l = p.head.lane) ∧ repeatCaught s.setup.general.repeatGuard p (s.slot a) = false ∧
    inSet (s.slot a).lanes p.head.lane.val = true ∧
    ¬ (passbackViolated p.head.dir (s.presenceOf (s.slot a)) = true ∧ (s.lane p.head.lane).setup.passback = .hard) ∧
    s.windowOf p a ≠ .denied

/-- The handed punch of a punch that passes its checks at a slot: its classification, turned to PASS_IN or PASS_OUT where the
clock was INVALID at its read, and its note causes in order (R48, R50–R53, R56). -/
def State.handedFor (s : State) (p : PunchRead) (a : Nat) : HandedPunch :=
  let k := classify p.head.dir (s.slot a).record p.intent
  let soft := passbackViolated p.head.dir (s.presenceOf (s.slot a)) && decide ((s.lane p.head.lane).setup.passback = .soft)
  let off := decide (s.windowOf p a = .offWindow)
  { head := p.head, badge := p.badge, stamp := p.stamp, slot := some a
    cls := if p.stamp = none then some (match p.head.dir with | .inward => .passIn | .outward => .passOut) else some k.cls
    original := if p.stamp = none then some k.cls else none
    notes := k.note.toList ++ (if soft = true then [.passbackSoft] else []) ++ (if off = true then [.offWindow] else [])
    notRecorded := k.notRecorded || p.stamp.isNone
    offWindow := off }

/-- A slot after the classification of a punch at it: an entry-head punch against a CLOSED_WAITING record has raised the
unrecorded count, up to 255 (R31, R49). -/
def Slot.counted (x : Slot) (d : Dir) (i : Intent) : Slot :=
  if (classify d x.record i).raises then { x with unrecorded := min 255 (x.unrecorded + 1) } else x

/-- A handed punch for a visitor: no slot, no classification, the note MISS_ADMITTED, NOT_RECORDED (R45). -/
def visitorHanded (p : PunchRead) : HandedPunch :=
  { head := p.head, badge := p.badge, stamp := p.stamp, slot := none, cls := none, original := none,
    notes := [.missAdmitted], notRecorded := true, offWindow := false }

/-- Between two states a lane has taken a handed punch as its grant, released at once for the lane's release time, with the
verdict of the release joining the queue (R53, R72, R43). -/
def grantReleased (p : HandedPunch) (s t : State) : Prop :=
  let l := p.head.lane
  (t.lane l).activity = .released ∧ (t.lane l).mode = (s.lane l).mode ∧ (t.lane l).requested = true ∧
    (t.lane l).grant = some
      { kind := if p.slot.isSome = true then .worker else .visitor, dir := p.head.dir, slot := p.slot
        punch := some (p.stamp, p.cls), phase := .released, waitEntry := 0, waitExpiry := 0, passageSeen := false
        releaseExpiry := some (s.time.elapsed + 1000 * (s.lane l).setup.releaseTime) } ∧
    t.handedAt l = some p ∧
    t.punch.verdicts = s.punch.verdicts ++ [⟨p.head,
      ⟨if p.slot.isSome = true then .release else .releaseNoted, (p.cls.map messageOf).getD .pass, p.notRecorded⟩⟩]

/-- The EVACUATION ring of a tone pattern, started at an elapsed time: it has no end, and begins in its on phase (R140, R146). -/
def evacRingOf (p : TonePattern) (start : Elapsed) : Ring :=
  { kind := .evacuation, frequency := p.frequency, onTime := p.onTime, offTime := p.offTime, cadenceStart := start
    finish := none, onPhase := true, nextPhase := if p.offTime = 0 then none else some (start + 100 * p.onTime) }

/-- A grant taken at a lane is released at once: the lane is in no interlock pair, or its interlock condition holds and its
partner does not wait (R72, R85). -/
def State.takesAtOnce (s : State) (l : LaneId) : Prop :=
  ∀ m, s.partnerOf l = some m → s.interlockClear l m = true ∧ (s.lane m).activity ≠ .interlockWait

/-- A lane's partner, where it has one, holds no waiting grant that could be released as the lane enters INTERLOCK_WAIT
(R86). -/
def State.partnerStays (s : State) (l : LaneId) : Prop :=
  ∀ m g, s.partnerOf l = some m → (s.lane m).grant = some g → g.phase = .waiting → s.interlockClear m l = false

/-- Between two states a lane has taken a handed punch as its grant and holds it in INTERLOCK_WAIT for its wait limit, WAIT
joining the queue (R53, R72, R85). -/
def grantHeld (p : HandedPunch) (s t : State) : Prop :=
  let l := p.head.lane
  (t.lane l).activity = .interlockWait ∧ (t.lane l).mode = (s.lane l).mode ∧
    (t.lane l).grant = some
      { kind := if p.slot.isSome = true then .worker else .visitor, dir := p.head.dir, slot := p.slot
        punch := some (p.stamp, p.cls), phase := .waiting, waitEntry := s.time.elapsed
        waitExpiry := s.time.elapsed + 1000 * (s.lane l).setup.waitLimit, releaseExpiry := none, passageSeen := false } ∧
    t.handedAt l = some p ∧ t.punch.verdicts = s.punch.verdicts ++ [⟨p.head, ⟨.wait, .none, false⟩⟩]

end Sys2Proof.Machine
end

