-- ==== Sys2Proof/WellFormed.lean ====
section
/-!
DEFINITION. Which commands can be sent at all, and by whom. A number out of an order's range is no ill-formedness: the order's
rule refuses or clamps it. What is ill-formed is what no sender can make: a part that is not whole, or an arrival of no byte.
-/
namespace Sys2Proof

/-- Who brings a command about: a station over the plant link, a head on the gate line, a wired line as it is sampled, the
plant clock, a timer on elapsed time, the bytes on the plant link, the supplies, or a block that hands work on. -/
inductive Agent where
  | station
  | gateLine
  | wiredLines
  | clock
  | timer
  | plantLink
  | supplies
  | block
deriving DecidableEq, Repr

/-- Who brings a command about. -/
def Instr.agent : Instr → Agent
  | .clockSet _ _ _ => .station
  | .clockSlew _ => .station
  | .clockTrim _ => .station
  | .clockRead => .station
  | .secondEnd => .clock
  | .secondBoundary _ => .clock
  | .deadlineExpiry => .clock
  | .stepNotice _ => .clock
  | .resumptionNotice _ => .clock
  | .pendingSwitchDue => .clock
  | .rosterEnrol _ _ _ _ => .station
  | .rosterAmend _ _ _ _ _ => .station
  | .rosterWithdraw _ _ => .station
  | .rosterRead _ => .station
  | .rosterPurge _ => .station
  | .presenceSet _ _ => .station
  | .presenceClear => .station
  | .poll => .gateLine
  | .pollTimeout => .gateLine
  | .idle _ => .gateLine
  | .garbledAnswer => .gateLine
  | .strayCharacters => .gateLine
  | .punch _ _ _ => .gateLine
  | .referralTimeout _ => .timer
  | .ruling _ _ _ _ => .station
  | .doorOpening _ => .wiredLines
  | .doorClosing _ => .wiredLines
  | .releaseExpiry _ => .timer
  | .heldOpenExpiry _ => .timer
  | .requestToExit _ => .wiredLines
  | .exitAllowanceExpiry _ => .timer
  | .encoderChange _ _ _ => .wiredLines
  | .interlockWaitExpiry _ => .timer
  | .deadTimeEnd _ => .timer
  | .laneMode _ _ => .station
  | .laneRelease _ _ => .station
  | .laneRead _ => .station
  | .bellRing _ _ _ => .station
  | .bellStop _ => .station
  | .ringEnd _ => .timer
  | .cadencePhaseChange _ => .timer
  | .debounceSample _ => .wiredLines
  | .watchFire _ => .wiredLines
  | .outputHold _ _ _ => .station
  | .egressEnd => .station
  | .loadBegin _ => .station
  | .loadRows _ _ _ => .station
  | .loadEnd => .station
  | .bankSwitch _ => .station
  | .tableRead _ _ _ _ => .station
  | .spoolTake _ _ => .station
  | .spoolClear _ => .station
  | .moveWaitingTotals => .block
  | .status => .station
  | .setupWrite _ => .station
  | .setupRead _ => .station
  | .restart => .station
  | .warmRestart => .block
  | .frameReceipt _ => .plantLink
  | .receiveTimeout => .plantLink
  | .frameDispatch => .plantLink
  | .frameSent => .plantLink
  | .silenceTimeout => .timer
  | .supplyHold => .supplies
  | .supplyReturn => .supplies
  | .backupLoss => .supplies
  | .powerOn => .supplies
  | .frameLengthBad _ => .plantLink

/-- A part of the setup record carries every field of that part: eight bell kinds, four station entries (R139, R191). -/
def wellFormedPart : SetupPart → Bool
  | .general _ => true
  | .bells b => decide (b.kinds.length = 8)
  | .lane _ _ => true
  | .watch _ _ => true
  | .stations entries => decide (entries.length = 4)

/-- Whether a command is one a sender can make. -/
def Instr.wellFormed : Instr → Bool
  | .clockSet _ _ _ => true
  | .clockSlew _ => true
  | .clockTrim _ => true
  | .clockRead => true
  | .secondEnd => true
  | .secondBoundary _ => true
  | .deadlineExpiry => true
  | .stepNotice _ => true
  | .resumptionNotice _ => true
  | .pendingSwitchDue => true
  | .rosterEnrol _ _ _ _ => true
  | .rosterAmend _ _ _ _ _ => true
  | .rosterWithdraw _ _ => true
  | .rosterRead _ => true
  | .rosterPurge _ => true
  | .presenceSet _ _ => true
  | .presenceClear => true
  | .poll => true
  | .pollTimeout => true
  | .idle _ => true
  | .garbledAnswer => true
  | .strayCharacters => true
  | .punch _ _ _ => true
  | .referralTimeout _ => true
  | .ruling _ _ _ _ => true
  | .doorOpening _ => true
  | .doorClosing _ => true
  | .releaseExpiry _ => true
  | .heldOpenExpiry _ => true
  | .requestToExit _ => true
  | .exitAllowanceExpiry _ => true
  | .encoderChange _ _ _ => true
  | .interlockWaitExpiry _ => true
  | .deadTimeEnd _ => true
  | .laneMode _ _ => true
  | .laneRelease _ _ => true
  | .laneRead _ => true
  | .bellRing _ _ _ => true
  | .bellStop _ => true
  | .ringEnd _ => true
  | .cadencePhaseChange _ => true
  | .debounceSample _ => true
  | .watchFire _ => true
  | .outputHold _ _ _ => true
  | .egressEnd => true
  | .loadBegin _ => true
  | .loadRows _ _ rows => !rows.isEmpty
  | .loadEnd => true
  | .bankSwitch _ => true
  | .tableRead _ _ _ _ => true
  | .spoolTake _ _ => true
  | .spoolClear _ => true
  | .moveWaitingTotals => true
  | .status => true
  | .setupWrite part => wellFormedPart part
  | .setupRead _ => true
  | .restart => true
  | .warmRestart => true
  | .frameReceipt bytes => !bytes.isEmpty
  | .receiveTimeout => true
  | .frameDispatch => true
  | .frameSent => true
  | .silenceTimeout => true
  | .supplyHold => true
  | .supplyReturn => true
  | .backupLoss => true
  | .powerOn => true
  | .frameLengthBad length => decide (1024 < length) && decide (length ≤ 65535)

end Sys2Proof
end

