-- ==== Sys2Proof/Certificates/Slice0/Obligations.lean ====
section
/-!
DEFINITION. The statements about the GT840 model, one proposition each. The premise `s.supply.state = .run` says that the main
supply runs; without it no command but a second's end and the supply's own events has an effect (R194, R196).
-/
section Statements

open Sys2Proof Sys2Proof.Machine

/-! ## The machine as a whole -/

/-- A step takes the command at the front of the queue and runs it on the state with the rest of the queue. The queue is the
model's way to hand the part its commands (log entry 1). -/
def Obligations.StepTakesFrontCommand : Prop :=
  ∀ (c : Instr) (rest : List Instr) (s : State), s.pending = c :: rest → step s = exec c (s.setPending rest)

/-- With no command waiting the step is the model's own choice (log entry 1): the event that is due takes place, and with none
due one crystal period passes, of which 32,768 make 1,000 ms of elapsed time with the fraction carried (R4), and which the
prescaler counts while the clock is VALID (R1). -/
def Obligations.EmptyQueueStep : Prop :=
  (∀ (c : Instr) (s : State), s.pending = [] → s.dueEvent = some c → step s = exec c s) ∧
    ∀ s : State, s.pending = [] → s.dueEvent = none → s.supply.state ≠ .dark → s.elapsedLaw → s.time.elapsed < elapsedTop →
      ∃ t, step s = .next t ∧ unchangedBut [.time] s t ∧
        t.time.elapsed * 32768 + t.time.phase = s.time.elapsed * 32768 + s.time.phase + 1000 ∧ t.time.phase < 32768 ∧
        t.time = { s.time with
          elapsed := t.time.elapsed, phase := t.time.phase
          prescaler := if s.time.valid then s.time.prescaler + 1 else s.time.prescaler }

/-- Every command answers a next state, in every state, and touches only the parts of the state listed for it: no command stops
the part, none changes the queue of waiting commands, and what its rules do not name stays as it was. While the main supply
is below threshold no order, punch, report or input is taken (R194, R196). That every command but a second's end and the
supply's own events then leaves the whole state as it is, notices and events that fall due among them, is inferred from R194
(log entry 11); that it does so in the state without any supply, which has nothing left to change, is the model's choice (log
entry 12). -/
def Obligations.CommandsTouchOnlyTheirParts : Prop :=
  (∀ (c : Instr) (s : State), ∃ t, exec c s = .next t ∧ unchangedBut (Instr.touches c) s t) ∧
  ∀ (c : Instr) (s : State), s.supply.state ≠ .run → c.agent ≠ .supplies → c ≠ .secondEnd → exec c s = .next s

/-- What reset leaves, by the power-on column of each chapter's reset table: the clock INVALID at day 0 second 0, an empty
roster, empty lists and queues, every lane with the default setup (R64), the default setup record (R191, R139, R154, R156), both
banks with the power-on row of every table (R167, R135, R139), and every output off. The fields of a schedule entry that its
kind and basis leave unused and the backup supply's presence are the model's choice (log entry 19); the receiver's fields, the
count of further restarts, whether a dead time runs and the banks kept for notices are the model's own. The laws the steps keep
hold in the state after reset. -/
def Obligations.ResetLeavesPowerOnValues : Prop :=
  (let s := State.reset
  (s.time.valid = false ∧ s.time.day = 0 ∧ s.time.second = 0 ∧ s.time.prescaler = 0 ∧ s.time.trim = 0 ∧ s.time.slew = 0 ∧
    s.time.stepCount = 0 ∧ s.time.holdCount = 0 ∧ s.time.holdBegin = none ∧ s.time.weekdayOffset = 0 ∧ s.time.elapsed = 0) ∧
  (∀ a, s.isDamaged a = false ∧ s.slot a =
    { status := .free, badge := none, payClass := 0, pattern := 0, lanes := 0, inside := false, presenceStamp := 0
      weekIndex := 0, weekTotal := 0, lastPunch := none, unrecorded := 0, mark := none, record := .off
      errors := ⟨0, false⟩ }) ∧
  (s.roster.epoch = 1 ∧ s.roster.corrected = 0 ∧ s.roster.damagedCount = 0 ∧ s.roster.occupiedCount = 0) ∧
  (s.records.deadlines = [] ∧ s.records.closureQueue = [] ∧ s.records.roomReported = false) ∧
  (s.punch.position = none ∧ s.punch.outstanding = none ∧ (∀ h, s.headAt h = ⟨false, 0⟩) ∧ s.punch.lineErrors = 0 ∧
    s.punch.verdicts = [] ∧ (∀ l, s.handedAt l = none) ∧ ∀ l : LaneId, s.punch.waits[l] = none) ∧
  (∀ l, s.inputs.releaseHolds[l] = none ∧ s.inputs.drivenRelease[l] = false ∧ s.lane l =
    { setup := { kind := .unused, entryEnable := true, exitEnable := true, releaseTime := 5, releaseMode := .pulse
                 heldLimit := 30, passageStep := 24, passback := .off, referral := false, miss := .deny, partner := none
                 deadTime := 20, waitLimit := 5, fail := .failSecure }
      pendingSetup := none, mode := .secure, remembered := none, activity := .idle, grant := none, doorOpen := false
      lastClosing := none, deadRuns := false, held := false, heldTimer := none, exitAllowance := none, encoder := 0
      decoderA := false, decoderB := false, requested := false }) ∧
  ((∀ b : BellId, s.bells.rings[b] = none ∧ s.bells.requested[b] = .off ∧ s.inputs.bellHolds[b] = none ∧
      s.inputs.drivenBell[b] = .off) ∧ s.bells.evacSet = none) ∧
  (s.inputs.evacuating = false ∧ s.inputs.startingWatch = none ∧ s.inputs.deliveries = [] ∧
    (∀ i : Fin 16, s.inputs.general[i] = ⟨none, 0, false⟩) ∧
    (∀ l : LaneId, s.inputs.doors[l] = ⟨none, 0, false⟩ ∧ s.inputs.exits[l] = ⟨none, 0, false⟩ ∧
      s.inputs.encodersA[l] = ⟨none, 0, false⟩ ∧ s.inputs.encodersB[l] = ⟨none, 0, false⟩) ∧
    ∀ k : WatchId, s.inputs.equal[k] = false ∧ s.inputs.captures[k] = none ∧
      s.watch k = { enable := false, mask := 0, compare := 0, mode := .change, action := .alarm }) ∧
  (s.banks.active = .bankA ∧ s.banks.standby = .stale ∧ s.banks.generation = 0 ∧ s.banks.pending = none ∧
    s.banks.lastFault = none ∧ s.banks.bankA = Bank.initial ∧ s.banks.bankB = Bank.initial ∧
    (∀ i : Fin 16, Bank.initial.payClasses[i] =
      { unit := 1, rounding := .listed .nearest, inEarly := 0, inLate := 0, outEarly := 0, outLate := 0, earlyPaid := true
        latePaid := true, paidBreak := 0, mealThreshold := 0, mealLength := 0, dailyThreshold := 1440
        weeklyThreshold := 10080, overtimeRate := 100, nightPremium := 0, holidayRate := 100, nightStart := 0
        nightEnd := 0, autoClose := 960, admitEarly := 0, admitLate := 0, anyTime := false }) ∧
    (∀ i : Fin 64, Bank.initial.patterns[i] = { start := 0, length := 0, mask := 0 }) ∧
    (∀ i : Fin 128, Bank.initial.schedule[i] =
      { kind := .listed .ring, basis := .listed .fixed, second := 0, pattern := 0, anchor := .listed .start, offset := 0
        mask := 0, bells := 0, tone := 0, duration := 1, lanes := 0, mode := .listed .secure }) ∧
    (∀ i : Fin 8, Bank.initial.tones[i] = { frequency := 0, onTime := 10, offTime := 0 }) ∧
    ∀ i : Fin 32, Bank.initial.holidays[i] = none) ∧
  (s.spool.entries = [] ∧ s.spool.next = 1 ∧ s.spool.dropped = 0) ∧
  (s.link.inProgress = [] ∧ s.link.stall = none ∧ s.link.received = [] ∧ s.link.transmit = [] ∧ s.link.handed = none ∧
    s.link.online = false ∧ s.link.silence = none ∧ s.link.errors = 0 ∧ s.link.restart = .none ∧ s.link.again = 0) ∧
  (s.setup.general =
      { repeatGuard := 10, referralTimeout := 3, offlineTimeout := 30, weekStart := 0
        generalDebounce := { period := 5, count := 3 }, contactDebounce := { period := 5, count := 3 }
        encoderDebounce := { period := 5, count := 3 } } ∧
    s.setup.bells = { toneOutputs := 0, evacOutputs := 0xFF, evacTone := 0 } ∧ (∀ k : Fin 4, s.setup.stations[k] = none)) ∧
  (s.supply.state = .run ∧ s.supply.resetCause = .powerOn ∧ s.supply.backup = true) ∧
  s.notices = ⟨[], [], [], []⟩) ∧
  let s := State.reset
  s.rosterForm ∧ s.soundWords ∧ s.epochLaw ∧ s.spoolLaw ∧ s.verdictLaw ∧ s.linkLaw ∧ s.levelLaw ∧ s.timeLaw ∧ s.elapsedLaw ∧
    s.generationLaw ∧ s.emptyLaw ∧ s.listLaw ∧ s.laneLaw ∧ s.waitLaw ∧ s.modeLaw ∧ s.markLaw ∧ s.badgeLaw ∧ s.addressLaw ∧
    s.countLaw

/-! ## Laws that every step keeps -/

/-- Every step keeps the laws of the queues: the spool holds at most 4,096 entries in consecutive sequence order (R179), the
verdict queue at most one verdict for a head (R40), and the plant link's buffers their sizes with at most one reply (R187,
R189). Every step keeps the clock's registers, elapsed time, the bank generation and the presence epoch in their ranges (01,
table; R4, R27, R172). -/
def Obligations.StepKeepsQueuesAndRanges : Prop :=
  ((∀ s t : State, s.spoolLaw → step s = .next t → t.spoolLaw) ∧
    (∀ s t : State, s.verdictLaw → step s = .next t → t.verdictLaw) ∧
    ∀ s t : State, s.linkLaw → step s = .next t → t.linkLaw) ∧
  ∀ s t : State, s.timeLaw → s.elapsedLaw → s.generationLaw → s.epochLaw → step s = .next t →
    t.timeLaw ∧ t.elapsedLaw ∧ t.generationLaw ∧ t.epochLaw

/-- Every step keeps every requested and driven level as the rules give it (R71, R160). Every step keeps the law of the modes:
EGRESS is the mode of exactly the used lanes during an evacuation, which alone remember a mode (R69, R91), and no member of
an interlock pair is FREE, remembers FREE or is held on (R66, R161). -/
def Obligations.StepKeepsLevelsAndModes : Prop :=
  (∀ s t : State, s.levelLaw → step s = .next t → t.levelLaw) ∧
  ∀ s t : State, s.modeLaw → step s = .next t → t.modeLaw

/-- Every step keeps the laws of the records: a slot is referenced in the deadline list exactly when its record is open, and
in the closure queue exactly when it waits, each exactly once, the deadline list ordered earliest first (R101, R109). -/
def Obligations.StepKeepsListLaw : Prop :=
  ∀ s t : State, s.rosterForm → s.emptyLaw → s.listLaw → step s = .next t → t.emptyLaw ∧ t.listLaw

/-- Every step keeps the laws of the roster: its storage in canonical form (the model's own), every protected word sound, since
no command flips a bit (R33; words as counts, and flips that a run starts with: log entry 17), a slot that is not FREE in its
badge's bucket (R16), no two ACTIVE slots with one badge (R21), nothing past slot 6,143 (R16), and the occupied-slot and
damaged-slot counts equal to the numbers of slots that are not FREE and that are DAMAGED (R18, R34). -/
def Obligations.StepKeepsRosterLaws : Prop :=
  (∀ s t : State, s.rosterForm → step s = .next t → t.rosterForm) ∧
    (∀ s t : State, s.rosterForm → s.soundWords → step s = .next t → t.soundWords) ∧
    (∀ s t : State, s.rosterForm → s.badgeLaw → step s = .next t → t.badgeLaw) ∧
    ∀ s t : State, s.rosterForm → s.addressLaw → s.countLaw → step s = .next t → t.addressLaw ∧ t.countLaw

/-- Every step keeps the law of the lanes: each lane's activity state stands for the grant or the wait it holds, at most one
(R70, R72, R73), a referral wait is of its head's own lane (R58), and a pending-grant mark names a lane whose grant is for that
slot (R30). -/
def Obligations.StepKeepsLaneLaw : Prop :=
  (∀ s t : State, s.laneLaw → s.waitLaw → step s = .next t → t.laneLaw ∧ t.waitLaw) ∧
    ∀ s t : State, s.rosterForm → s.emptyLaw → s.laneLaw → s.waitLaw → s.markLaw → step s = .next t → t.markLaw

/-! ## Replies, entries and checked reads -/

/-- An owner's reply to an order that came in a frame is queued behind the frames already there, with the frame's station id,
code and tag, and the order is no longer in hand; an order that came in no frame has its reply noted alone (R188; log
entry 7). -/
def Obligations.ReplyCarriesTheFrameBack : Prop :=
  (∀ (s : State) (order : Instr) (code : ReplyCode) (body : ReplyBody) (h : HandedOrder),
    s.link.handed = some h → h.order = order →
    s.answer order code body = s.setLink { s.link with
      handed := none, transmit := s.link.transmit ++ [.reply h.ref ⟨code, body⟩], lastReply := some ⟨code, body⟩ }) ∧
  ∀ (s : State) (order : Instr) (code : ReplyCode) (body : ReplyBody),
    s.link.handed = none → s.answer order code body = s.setLink { s.link with lastReply := some ⟨code, body⟩ }

/-- An entry that is no shift total is admitted with the next sequence number while fewer than 3,840 are held, and dropped and
counted otherwise; a LANE_ALARM or SYSTEM entry is copied as an ALARM report while ONLINE, with its sequence number or marked
dropped, and counted as a link error where the transmit queue has no room; a shift total is admitted while fewer than 4,096
are held (R179, R180, R189). -/
def Obligations.EntriesAdmittedOrDropped : Prop :=
  (∀ (s : State) (e : Entry), s.spool.entries.length < 3840 →
    (s.requestEntry e).spool = { s.spool with
      entries := s.spool.entries ++ [⟨s.spool.next, e⟩]
      next := if s.spool.next = 4294967295 then 1 else s.spool.next + 1 }) ∧
  (∀ (s : State) (e : Entry), 3840 ≤ s.spool.entries.length →
    (s.requestEntry e).spool = { s.spool with dropped := min 65535 (s.spool.dropped + 1) }) ∧
  (∀ (s : State) (e : Entry), unchangedBut [.spool, .link] s (s.requestEntry e)) ∧
  (∀ (s : State) (stamp : Option Stamp) (l : LaneId) (cause : AlarmCause) (sys : SystemCause) (e : Entry),
    (e = .laneAlarm stamp l cause ∨ e = .system stamp sys) →
    (s.requestEntry e).link =
      if s.link.online = false then s.link
      else if s.link.transmit.length < 31 then
        { s.link with transmit := s.link.transmit ++
            [.report (.alarm e (if s.spool.entries.length < 3840 then some s.spool.next else none))] }
      else { s.link with errors := min 65535 (s.link.errors + 1) }) ∧
  (∀ (s : State) (total : ShiftTotal), s.spool.entries.length < 4096 →
    ∃ t, s.offerTotal total = some t ∧ unchangedBut [.spool] s t ∧
      t.spool.entries = s.spool.entries ++ [⟨s.spool.next, .shiftTotal total⟩] ∧ t.spool.dropped = s.spool.dropped) ∧
  ∀ (s : State) (total : ShiftTotal), 4096 ≤ s.spool.entries.length → s.offerTotal total = none

/-- A checked read corrects each word with one flipped bit, writes it back and counts it (R33); where a word has two, the
slot becomes DAMAGED, both counts follow, its references leave both lists, and a ROSTER_DAMAGE entry is requested with the
current stamp (R34), the words of that slot with one flipped bit counted as corrected before it. A sound slot, and one already
DAMAGED, is read without a change. That a slot's words are held as a count of single errors and whether any word holds two, and
that a DAMAGED slot reads as a FREE slot's values, are the model's choice (log entry 17). -/
def Obligations.CheckedReadCorrectsOrDamages : Prop :=
  (∀ (s : State) (a : Nat), s.isDamaged a = true → s.checkedRead a = s) ∧
  (∀ (s : State) (a : Nat), (s.slot a).errors = ⟨0, false⟩ → s.checkedRead a = s) ∧
  (∀ (s : State) (a n : Nat), s.rosterForm → s.isDamaged a = false → (s.slot a).errors = ⟨n, false⟩ →
    unchangedBut [.roster] s (s.checkedRead a) ∧
    (s.checkedRead a).slot a = { s.slot a with errors := ⟨0, false⟩ } ∧
    (∀ c, c ≠ a → (s.checkedRead a).slot c = s.slot c) ∧
    (s.checkedRead a).roster.corrected = (if n = 0 then s.roster.corrected else min 65535 (s.roster.corrected + n))) ∧
  ∀ (s : State) (a n : Nat), s.rosterForm → s.isDamaged a = false → (s.slot a).errors = ⟨n, true⟩ →
    unchangedBut [.roster, .records, .spool, .link] s (s.checkedRead a) ∧
    (s.checkedRead a).isDamaged a = true ∧ (s.checkedRead a).slot a = Slot.freeSlot ∧
    (∀ c, c ≠ a → (s.checkedRead a).slot c = s.slot c ∧ (s.checkedRead a).isDamaged c = s.isDamaged c) ∧
    (s.checkedRead a).roster.corrected = (if n = 0 then s.roster.corrected else min 65535 (s.roster.corrected + n)) ∧
    (s.checkedRead a).roster.damagedCount = s.roster.damagedCount + 1 ∧
    (s.checkedRead a).roster.occupiedCount =
      s.roster.occupiedCount + (if (s.slot a).status = .free then 1 else 0) ∧
    (s.checkedRead a).records.deadlines = s.records.deadlines.filter (fun c => decide (c ≠ a)) ∧
    (s.checkedRead a).records.closureQueue = s.records.closureQueue.filter (fun c => decide (c ≠ a)) ∧
    entered (.system s.now (.rosterDamage a)) s (s.checkedRead a)

/-! ## The roster -/

/-- ROSTER ENROL with every word of the roster sound (R21): out-of-range fields, a badge an ACTIVE slot of its bucket holds,
and a bucket with no FREE slot are refused; otherwise the lowest FREE position of the bucket becomes ACTIVE with the fields
given and every other field at its first value, the occupied-slot count rises by one, and the reply is OK with the
address. -/
def Obligations.RosterEnrolTakesTheLowestFreeSlot : Prop :=
  ∀ (s : State) (badge payClass pattern : Nat) (lanes : LaneSet), s.supply.state = .run → s.soundWords →
    let order := Instr.rosterEnrol badge payClass pattern lanes
    let bucket := bucketSlots (badge % 1536)
    let inRange := 1 ≤ badge ∧ badge ≤ 4294967294 ∧ payClass ≤ 15 ∧ pattern ≤ 63
    (¬ inRange → exec order s = .next (s.refuse order .outOfRange)) ∧
    (inRange → (∃ a ∈ bucket, s.holdsBadge badge a = true) → exec order s = .next (s.refuse order .duplicate)) ∧
    (inRange → (∀ a ∈ bucket, s.holdsBadge badge a = false ∧ s.statusOf a ≠ .free) →
      exec order s = .next (s.refuse order .full)) ∧
    ∀ a, inRange → (∀ c ∈ bucket, s.holdsBadge badge c = false) → a ∈ bucket → s.statusOf a = .free →
      (∀ c ∈ bucket, c < a → s.statusOf c ≠ .free) →
      exec order s = .next ((s.setRoster { s.roster with
        slots := s.roster.slots.put Slot.freeSlot a
          { status := .active, badge := some badge, payClass := payClass, pattern := pattern, lanes := lanes, inside := false,
            presenceStamp := 0, weekIndex := 0, weekTotal := 0, lastPunch := none, unrecorded := 0, mark := none,
            record := .off, errors := ⟨0, false⟩ }
        occupiedCount := s.roster.occupiedCount + 1 }).answer order .ok (.slot a))

/-- ROSTER AMEND with every word of the roster sound (R22): a badge or an index out of range is refused OUT_OF_RANGE and a
badge that no ACTIVE slot holds NOT_FOUND; otherwise each field present is written and each absent one kept, the unrecorded
count is reset on request, nothing else of the slot or of any other slot changes, and the reply is OK with the address. -/
def Obligations.RosterAmendWritesTheFieldsPresent : Prop :=
  ∀ (s : State) (badge : Nat) (payClass pattern : Option Nat) (lanes : Option LaneSet) (reset : Bool),
    s.supply.state = .run → s.soundWords → s.badgeLaw →
    let order := Instr.rosterAmend badge payClass pattern lanes reset
    let inRange := 1 ≤ badge ∧ badge ≤ 4294967294 ∧ (∀ c ∈ payClass, c ≤ 15) ∧ ∀ p ∈ pattern, p ≤ 63
    (¬ inRange → exec order s = .next (s.refuse order .outOfRange)) ∧
    (inRange → (∀ a, s.holdsBadge badge a = false) → exec order s = .next (s.refuse order .notFound)) ∧
    ∀ a, inRange → s.holdsBadge badge a = true →
      exec order s = .next ((s.setRoster { s.roster with
        slots := s.roster.slots.put Slot.freeSlot a { s.slot a with
          payClass := payClass.getD (s.slot a).payClass
          pattern := pattern.getD (s.slot a).pattern
          lanes := lanes.getD (s.slot a).lanes
          unrecorded := if reset then 0 else (s.slot a).unrecorded } }).answer order .ok (.slot a))

/-- PRESENCE SET with every word of the roster sound (R28): an invalid badge is refused OUT_OF_RANGE and a badge that no ACTIVE
slot holds NOT_FOUND; INSIDE and OUTSIDE write the value stamped with the current epoch, UNKNOWN leaves the value and sets
the stamp to 0, whatever the record and the pending grant, and the reply is OK with the address and the presence as now read.
PRESENCE CLEAR advances the presence epoch by one, from 65,535 to 1 with every presence stamp set to 0 first, in any state of
the part; the reply is OK with the new epoch, and every slot then reads UNKNOWN (R29, R27). -/
def Obligations.PresenceOrdersWriteAndClear : Prop :=
  (∀ (s : State) (badge : Nat) (value : PresenceRead), s.supply.state = .run → s.soundWords → s.badgeLaw → s.epochLaw →
    let order := Instr.presenceSet badge (.listed value)
    (¬ (1 ≤ badge ∧ badge ≤ 4294967294) → exec order s = .next (s.refuse order .outOfRange)) ∧
    (1 ≤ badge ∧ badge ≤ 4294967294 → (∀ a, s.holdsBadge badge a = false) →
      exec order s = .next (s.refuse order .notFound)) ∧
    ∀ a, 1 ≤ badge ∧ badge ≤ 4294967294 → s.rosterForm → s.holdsBadge badge a = true →
      exec order s = .next ((s.setRoster { s.roster with
        slots := s.roster.slots.put Slot.freeSlot a
          (match value with
            | .inside => { s.slot a with inside := true, presenceStamp := s.roster.epoch }
            | .outside => { s.slot a with inside := false, presenceStamp := s.roster.epoch }
            | .unknown => { s.slot a with presenceStamp := 0 }) }).answer order .ok (.slotPresence a value))) ∧
  ∀ s : State, s.supply.state = .run → s.rosterForm → s.epochLaw →
    ∃ t, exec .presenceClear s =
        .next (t.answer .presenceClear .ok (.epoch (if s.roster.epoch = 65535 then 1 else s.roster.epoch + 1))) ∧
      unchangedBut [.roster] s t ∧ t.roster.epoch = (if s.roster.epoch = 65535 then 1 else s.roster.epoch + 1) ∧
      (s.roster.epoch ≠ 65535 → t.roster.slots = s.roster.slots) ∧
      (s.roster.epoch = 65535 → ∀ a, t.slot a = { s.slot a with presenceStamp := 0 }) ∧
      t.roster.damage = s.roster.damage ∧ t.roster.occupiedCount = s.roster.occupiedCount ∧
      ((∀ a, (s.slot a).presenceStamp ≤ s.roster.epoch) → ∀ a, t.presenceOf (t.slot a) = .unknown)

/-- ROSTER WITHDRAW is refused OUT_OF_RANGE for an invalid badge, and, with every word of the roster sound, NOT_FOUND for one no
slot holds (R23). Of a badge that slot `a` holds (R23, R24): BUSY while a grant is pending; OPEN_RECORD for an open record
without force; CLOCK_INVALID for a forced closure without a clock; an OFF record frees the slot at once and a waiting one leaves
it WITHDRAWN; a forced closure at the current stamp has its shift total, with the flag WITHDRAWN, appended to the spool and
frees the slot, and where the total waits leaves the slot WITHDRAWN with that total in its record. -/
def Obligations.RosterWithdrawChecksInOrder : Prop :=
  (∀ (s : State) (badge : Nat) (force : Bool), s.supply.state = .run →
    let order := Instr.rosterWithdraw badge force
    (badge < 1 ∨ 4294967294 < badge → exec order s = .next (s.refuse order .outOfRange)) ∧
    (1 ≤ badge → badge ≤ 4294967294 → s.soundWords → (∀ a, s.holdsBadge badge a = false) →
      exec order s = .next (s.refuse order .notFound))) ∧
  ∀ (s : State) (badge a : Nat) (force : Bool), s.supply.state = .run → s.soundWords → s.badgeLaw →
    1 ≤ badge ∧ badge ≤ 4294967294 → s.holdsBadge badge a = true →
    let order := Instr.rosterWithdraw badge force
    ((s.slot a).mark.isSome = true → exec order s = .next (s.refuse order .busy)) ∧
    ((s.slot a).mark = none → (s.slot a).record.openData.isSome = true → force = false →
      exec order s = .next (s.refuse order .openRecord)) ∧
    ((s.slot a).mark = none → (s.slot a).record.openData.isSome = true → force = true → s.now = none →
      exec order s = .next (s.refuse order .clockInvalid)) ∧
    ((s.slot a).mark = none → (s.slot a).record = .off →
      exec order s = .next ((s.setRoster { s.roster with
        slots := s.roster.slots.put Slot.freeSlot a Slot.freeSlot
        occupiedCount := s.roster.occupiedCount - 1 }).answer order .ok (.withdrawal .free))) ∧
    (∀ d out total, (s.slot a).mark = none → (s.slot a).record = .closedWaiting d out total →
      exec order s = .next ((s.setRoster { s.roster with
        slots := s.roster.slots.put Slot.freeSlot a { s.slot a with status := .withdrawn } }).answer order .ok
          (.withdrawal .withdrawn))) ∧
    ∀ now d, s.rosterForm → (s.slot a).mark = none → (s.slot a).record.openData = some d → force = true →
      s.now = some now →
      let input := s.closureInput a d now .forced
      let total := shiftTotal input
      total.flags.withdrawn = true ∧ total.outStamp = now ∧ total.inStamp = d.inStamp ∧ total.badge = badge ∧ total.slot = a ∧
      ∃ t, exec order s = .next t ∧ unchangedBut [.roster, .records, .spool, .link] s t ∧
        t.records.deadlines = s.records.deadlines.filter (fun c => decide (c ≠ a)) ∧
        (∀ c, c ≠ a → t.slot c = s.slot c) ∧
        (s.records.closureQueue = [] ∧ s.spool.entries.length < 4096 →
          t.slot a = Slot.freeSlot ∧ t.records.closureQueue = [] ∧ t.spool.dropped = s.spool.dropped ∧
            t.spool.entries = s.spool.entries ++ [⟨s.spool.next, .shiftTotal total⟩] ∧
            t.spool.next = (if s.spool.next = 4294967295 then 1 else s.spool.next + 1) ∧
            t.roster.occupiedCount = s.roster.occupiedCount - 1 ∧ t.link.lastReply = some ⟨.ok, .withdrawal .free⟩) ∧
        (¬ (s.records.closureQueue = [] ∧ s.spool.entries.length < 4096) →
          t.slot a = { s.slot a with
              status := .withdrawn, weekIndex := (weekAfter input).1, weekTotal := (weekAfter input).2
              record := .closedWaiting { input.data with flags := total.flags } now total } ∧
            t.spool = s.spool ∧ t.records.closureQueue = s.records.closureQueue ++ [a] ∧
            t.roster.occupiedCount = s.roster.occupiedCount ∧ t.link.lastReply = some ⟨.ok, .withdrawal .withdrawn⟩)

/-- ROSTER READ with every word of the roster sound changes nothing and reports the slots named, in address order and not past
slot 6,143, FREE and DAMAGED ones by address and status alone (R25); ROSTER PURGE frees a DAMAGED slot, both counts falling by
one, and refuses any other (R26). -/
def Obligations.RosterReadAndPurge : Prop :=
  (∀ (s : State) (first count : Nat), s.supply.state = .run → s.soundWords →
    let order := Instr.rosterRead (.byAddress first count)
    (6143 < first ∨ count < 1 ∨ 8 < count → exec order s = .next (s.refuse order .outOfRange)) ∧
    (first ≤ 6143 → 1 ≤ count → count ≤ 8 →
      ∃ reports, exec order s = .next (s.answer order .ok (.slots reports.length reports)) ∧
        reports.map SlotReport.address = (List.range (min count (6144 - first))).map (first + ·) ∧
        ∀ r ∈ reports, r.status = s.statusOf r.address ∧
          (r.fields.isSome = true ↔ r.status = .active ∨ r.status = .withdrawn) ∧
          ∀ f ∈ r.fields, f.badge = (s.slot r.address).badge ∧ f.record = (s.slot r.address).record ∧
            f.presence = s.presenceOf (s.slot r.address) ∧ f.weekTotal = (s.slot r.address).weekTotal)) ∧
  (∀ (s : State) (badge a : Nat), s.supply.state = .run → s.soundWords → s.badgeLaw →
    1 ≤ badge ∧ badge ≤ 4294967294 → s.holdsBadge badge a = true →
    let order := Instr.rosterRead (.byBadge badge)
    exec order s = .next (s.answer order .ok (.slots 1 [⟨a, .active, some (s.slotFields a)⟩]))) ∧
  ∀ (s : State) (address : Nat), s.supply.state = .run →
    let order := Instr.rosterPurge address
    (6143 < address → exec order s = .next (s.refuse order .outOfRange)) ∧
    (address ≤ 6143 → s.isDamaged address = false → exec order s = .next (s.refuse order .wrongState)) ∧
    (address ≤ 6143 → s.isDamaged address = true → s.rosterForm →
      ∃ t, exec order s = .next (t.answer order .ok .none) ∧ unchangedBut [.roster] s t ∧
        t.slot address = Slot.freeSlot ∧ t.isDamaged address = false ∧
        (∀ c, c ≠ address → t.slot c = s.slot c ∧ t.isDamaged c = s.isDamaged c) ∧
        t.roster.damagedCount = s.roster.damagedCount - 1 ∧ t.roster.occupiedCount = s.roster.occupiedCount - 1 ∧
        t.roster.epoch = s.roster.epoch ∧ t.roster.corrected = s.roster.corrected)

/-! ## Plant time -/

/-- CLOCK SET (R12, R8): fields out of range are refused; otherwise the clock becomes VALID at the new second, the prescaler
and the slew are 0, the step count advances where the clock was VALID, a CLOCK_SET entry with the new stamp is requested, and
a step notice is given to the three receiving blocks where a VALID clock moved. Trim and hold count stay. -/
def Obligations.ClockSetWritesTheClock : Prop :=
  ∀ (s : State) (day second offset : Nat), s.supply.state = .run →
    let order := Instr.clockSet day second offset
    let new := day * 86400 + second
    (65535 < day ∨ 86399 < second ∨ 6 < offset → exec order s = .next (s.refuse order .outOfRange)) ∧
    (day ≤ 65535 → second ≤ 86399 → offset ≤ 6 →
      ∃ t, exec order s = .next (t.answer order .ok .none) ∧ unchangedBut [.time, .notices, .spool, .link] s t ∧
        t.time = { s.time with
          valid := true, day := day, second := second, prescaler := 0, slewing := false, slew := 0
          length := (32768 - (if second % 60 = 59 then s.time.trim else 0)).toNat
          stepCount := if s.time.valid then (if s.time.stepCount = 65535 then 0 else s.time.stepCount + 1)
            else s.time.stepCount
          weekdayOffset := offset } ∧
        entered (.system (some new) (.clockSet s.now offset
          (match s.now with
            | none => .first
            | some o => if o < new then .forward else if new < o then .backward else .none))) s t ∧
        (∀ o, s.now = some o → o ≠ new →
          t.notices = { s.notices with
            recordUnit := s.notices.recordUnit ++ [.step o new]
            scheduleUnit := s.notices.scheduleUnit ++ [.step o new]
            bankStore := s.notices.bankStore ++ [.step o new] }) ∧
        ((s.now = none ∨ s.now = some new) → t.notices = s.notices))

/-- CLOCK TRIM (R14) refuses a value outside −255 to +255 and an INVALID clock, and otherwise replaces the trim with no step
count change, no spool entry and no notice; CLOCK SLEW sets the slew remainder to 64 times the seconds given in the same way,
the second in progress keeping its length (R13). -/
def Obligations.ClockTrimAndSlewReplaceTheirValues : Prop :=
  (∀ (s : State) (trim : Int), s.supply.state = .run →
    let order := Instr.clockTrim trim
    (trim < -255 ∨ 255 < trim → exec order s = .next (s.refuse order .outOfRange)) ∧
    (-255 ≤ trim → trim ≤ 255 → s.time.valid = false → exec order s = .next (s.refuse order .clockInvalid)) ∧
    (-255 ≤ trim → trim ≤ 255 → s.time.valid = true →
      exec order s = .next ((s.setTime { s.time with trim := trim }).answer order .ok .none))) ∧
  ∀ (s : State) (seconds : Int), s.supply.state = .run →
    let order := Instr.clockSlew seconds
    (seconds < -3600 ∨ 3600 < seconds → exec order s = .next (s.refuse order .outOfRange)) ∧
    (-3600 ≤ seconds → seconds ≤ 3600 → s.time.valid = false → exec order s = .next (s.refuse order .clockInvalid)) ∧
    (-3600 ≤ seconds → seconds ≤ 3600 → s.time.valid = true →
      exec order s = .next ((s.setTime { s.time with slew := 64 * seconds, slewing := false }).answer order .ok .none))

/-- A second's end of a VALID clock (R1, R3, R5, R7, R9): the next second begins with its length fixed by the slew remainder and
the trim, within 32,001 and 33,535 periods; the remainder has moved one unit toward 0 where it acted; the boundary is given to the
three receiving blocks unless a supply hold lasts; and the last second of day 65,535 leaves the clock INVALID with no boundary,
its CLOCK_LOST entry requested at once or kept for the return; that a boundary given before and not yet taken is then withdrawn,
and a step or resumption stays, is the model's choice (log entry 44). Where more periods pass than the current second lacks (a
timer's expiry taken, log entry 9), the second ends on the way and the rest is counted into the next (R1). -/
def Obligations.SecondEndAdvancesTheClock : Prop :=
  (∀ s : State, s.timeLaw → s.time.valid = true → s.supply.state ≠ .dark →
    (¬ (s.time.day = 65535 ∧ s.time.second = 86399) →
      ∃ t, exec .secondEnd s = .next t ∧ unchangedBut [.time, .notices] s t ∧ t.time.valid = true ∧
        t.time.day * 86400 + t.time.second = s.time.day * 86400 + s.time.second + 1 ∧ t.time.second ≤ 86399 ∧
        t.time.prescaler = 0 ∧
        t.time.slew = (if s.time.slewing then (if 0 < s.time.slew then s.time.slew - 1
          else if s.time.slew < 0 then s.time.slew + 1 else 0) else s.time.slew) ∧
        (t.time.length : Int) = 32768 - (if 0 < t.time.slew then 512 else if t.time.slew < 0 then -512 else 0) -
          (if t.time.second % 60 = 59 then s.time.trim else 0) ∧
        32001 ≤ t.time.length ∧ t.time.length ≤ 33535 ∧
        t.time.trim = s.time.trim ∧ t.time.stepCount = s.time.stepCount ∧ t.time.holdCount = s.time.holdCount ∧
        t.time.weekdayOffset = s.time.weekdayOffset ∧
        (s.supply.state = .hold → t.notices = s.notices) ∧
        (s.supply.state = .run →
          let b := Notice.boundary (s.time.day * 86400 + s.time.second + 1)
          t.notices = { s.notices with
            recordUnit := s.notices.recordUnit ++ [b], scheduleUnit := s.notices.scheduleUnit ++ [b]
            bankStore := s.notices.bankStore ++ [b] })) ∧
    (s.time.day = 65535 → s.time.second = 86399 →
      let stays (x : Notice) : Bool := match x with
        | .boundary _ => false
        | .step _ _ => true
        | .resumption _ _ => true
      ∃ t, exec .secondEnd s = .next t ∧ unchangedBut [.time, .notices, .spool, .link] s t ∧ t.time.valid = false ∧
        t.time.day = 65535 ∧ t.time.second = 86399 ∧ t.time.prescaler = 0 ∧ t.time.slew = 0 ∧
        t.time.trim = s.time.trim ∧ t.time.stepCount = s.time.stepCount ∧ t.time.holdCount = s.time.holdCount ∧
        (s.supply.state = .run → entered (.system none .clockLost) s t ∧
          t.notices.recordUnit = s.notices.recordUnit.filter stays ∧
          t.notices.scheduleUnit = s.notices.scheduleUnit.filter stays ∧
          t.notices.bankStore = s.notices.bankStore.filter stays ∧ (s.notices.oldBanks = [] → t.notices.oldBanks = [])) ∧
        (s.supply.state = .hold → t.time.lostInHold = true ∧ t.notices = s.notices ∧ t.spool = s.spool ∧
          t.link = s.link))) ∧
  ∀ (s : State) (n : Nat), s.timeLaw → s.time.valid = true → s.supply.state = .run →
    ¬ (s.time.day = 65535 ∧ s.time.second = 86399) → s.time.prescaler ≤ s.time.length →
    s.time.length < s.time.prescaler + n → s.time.prescaler + n - s.time.length ≤ 32001 →
    let t := s.passPeriods n
    let b := Notice.boundary (s.time.day * 86400 + s.time.second + 1)
    unchangedBut [.time, .notices] s t ∧ t.time.valid = true ∧ t.time.second ≤ 86399 ∧
      t.time.day * 86400 + t.time.second = s.time.day * 86400 + s.time.second + 1 ∧
      t.time.prescaler = s.time.prescaler + n - s.time.length ∧ t.time.prescaler ≤ t.time.length ∧
      t.notices = { s.notices with
        recordUnit := s.notices.recordUnit ++ [b], scheduleUnit := s.notices.scheduleUnit ++ [b]
        bankStore := s.notices.bankStore ++ [b] }

/-- The Record Unit takes a second boundary, a forward step or a resumption, with every word of the roster sound: every record
whose deadline lies at or before the boundary, the new time or the return closes with its scheduled end as out-stamp and
MISSING_OUT, and the others stay in the deadline list in their order; the totals go into the spool in the list's order while the
closure queue is empty and the spool has room, their records becoming OFF, and the rest wait at the queue's tail, CLOSED_WAITING;
each closed slot's week index and week total are those the total stores (R102–R104, R106, R109, R127). A backward step closes
none. A deadline expiry is the same boundary taken because the list's head is due. -/
def Obligations.DueDeadlinesClose : Prop :=
  ∀ (s : State) (b : Stamp) (rest : List Notice), s.supply.state = .run → s.rosterForm → s.soundWords → s.emptyLaw →
    s.listLaw →
    let kept := s.records.deadlines.filter fun a => (s.deadlineOf a).any fun x => decide (b < x)
    let due := s.records.deadlines.filter fun a => (s.deadlineOf a).any fun x => decide (x ≤ b)
    let n := if s.records.closureQueue = [] then min due.length (4096 - s.spool.entries.length) else 0
    let input (a : Nat) (d : RecordData) := s.closureInput a d d.schedEnd .expiry
    let closed (a : Nat) (d : RecordData) (r : ShiftRecord) : Slot := { s.slot a with
      weekIndex := (weekAfter (input a d)).1, weekTotal := (weekAfter (input a d)).2, record := r }
    let closes (c : Instr) := ∃ t, exec c s = .next t ∧ unchangedBut [.notices, .records, .roster, .spool] s t ∧
      t.notices = { s.notices with recordUnit := rest } ∧
      t.records = { s.records with deadlines := kept, closureQueue := s.records.closureQueue ++ due.drop n } ∧
      t.spool.dropped = s.spool.dropped ∧ t.spool.entries.take s.spool.entries.length = s.spool.entries ∧
      (t.spool.entries.drop s.spool.entries.length).map SpoolEntry.entry =
        (due.take n).filterMap (fun a => (s.slot a).record.openData.map fun d => .shiftTotal (shiftTotal (input a d))) ∧
      t.roster = { s.roster with slots := t.roster.slots } ∧
      (∀ a ∈ due.take n, ∀ d, (s.slot a).record.openData = some d → t.slot a = closed a d .off) ∧
      (∀ a ∈ due.drop n, ∀ d, (s.slot a).record.openData = some d → t.slot a = closed a d (.closedWaiting
        { (input a d).data with flags := (shiftTotal (input a d)).flags } d.schedEnd (shiftTotal (input a d)))) ∧
      ∀ a, a ∉ due → t.slot a = s.slot a
    (∀ a ∈ due, ∀ d, (s.slot a).record.openData = some d → (shiftTotal (input a d)).outStamp = d.schedEnd ∧
      (shiftTotal (input a d)).flags.missingOut = true ∧ (shiftTotal (input a d)).slot = a ∧
      (shiftTotal (input a d)).inStamp = d.inStamp) ∧
    (s.notices.recordUnit = .boundary b :: rest → closes (.secondBoundary .recordUnit)) ∧
    (s.notices.recordUnit = .boundary b :: rest → s.headDue b = true → closes .deadlineExpiry) ∧
    (∀ o, s.notices.recordUnit = .step o b :: rest → o < b → closes (.stepNotice .recordUnit)) ∧
    (∀ o, s.notices.recordUnit = .step o b :: rest → b < o →
      exec (.stepNotice .recordUnit) s = .next (s.setNotices { s.notices with recordUnit := rest })) ∧
    ∀ o, s.notices.recordUnit = .resumption o b :: rest → closes (.resumptionNotice .recordUnit)

/-- The Bank Store takes a minute boundary, a forward step or a resumption at or after the target of the pending switch: the
banks change places, the former active one STALE, the generation advances with its wrap, the switch clears, and a BANK_SWITCH
entry stamped with what reached the target is requested; short of the target, at a boundary that begins no minute, and at a
backward step nothing but the notice's taking happens (R172, R173). The notices given before it that the Schedule Unit has yet to
take keep the bank active until then, so that they are answered from the old bank (R138), which is the model's reading beside
R173 (log entry 46). -/
def Obligations.PendingSwitchIsCarriedOut : Prop :=
  ∀ (s : State) (b : Stamp) (rest : List Notice), s.supply.state = .run →
    let quiet := s.setNotices { s.notices with bankStore := rest }
    let generation := if s.banks.generation = 65535 then 0 else s.banks.generation + 1
    let switched (p : PendingSwitch) (c : Instr) := ∃ t, exec c s = .next t ∧
      unchangedBut [.notices, .banks, .spool, .link] s t ∧
      t.notices = { s.notices with
        bankStore := rest
        oldBanks := s.notices.oldBanks ++ List.replicate
          (s.notices.scheduleUnit.length - (rest.length + 1) - s.notices.oldBanks.length) s.activeBank } ∧
      t.banks = { s.banks with
        active := s.banks.active.other, standby := .stale, generation := generation, pending := none } ∧
      entered (.system (some b) (.bankSwitch s.banks.active.other generation p.timed)) s t
    (∀ p, s.notices.bankStore = .boundary b :: rest → s.banks.pending = some p → b % 60 = 0 → p.target ≤ b →
      switched p (.secondBoundary .bankStore) ∧ switched p .pendingSwitchDue) ∧
    (s.notices.bankStore = .boundary b :: rest → (b % 60 ≠ 0 ∨ ∀ p ∈ s.banks.pending, b < p.target) →
      exec (.secondBoundary .bankStore) s = .next quiet) ∧
    (∀ o p, s.notices.bankStore = .step o b :: rest → s.banks.pending = some p → o < b → p.target ≤ b →
      switched p (.stepNotice .bankStore)) ∧
    (∀ o, s.notices.bankStore = .step o b :: rest → (b < o ∨ ∀ p ∈ s.banks.pending, b < p.target) →
      exec (.stepNotice .bankStore) s = .next quiet) ∧
    (∀ o p, s.notices.bankStore = .resumption o b :: rest → s.banks.pending = some p → p.target ≤ b →
      switched p (.resumptionNotice .bankStore)) ∧
    ∀ o, s.notices.bankStore = .resumption o b :: rest → (∀ p ∈ s.banks.pending, b < p.target) →
      exec (.resumptionNotice .bankStore) s = .next quiet

/-- The Schedule Unit takes a second boundary: every entry of the bank in force is tested in index order, a due RING entry
requesting its rings and a due LANE_MODE entry its mode, and the levels follow; the bank in force in a minute whose own boundary
lies at or after the pending target is the one the switch makes active, whether or not the Bank Store has taken it (R136–R138,
R173), and a notice given before a switch that the Bank Store has carried out since is answered from the bank active before it
(R138; the model's reading beside R173, log entry 46). The Schedule Unit takes a forward step or a resumption: it requests of each
lane the mode its catch-up finds, in the bank in force at the span's end, and no ring; a backward step changes nothing
(R148–R150). -/
def Obligations.ScheduleFiresAndCatchesUp : Prop :=
  ((∀ (s : State) (b : Stamp) (rest : List Notice), s.supply.state = .run → s.notices.scheduleUnit = .boundary b :: rest →
    let inForce := if ∃ p ∈ s.banks.pending, p.target ≤ b - b % 60 then s.standbyBank else s.activeBank
    let bank := s.notices.oldBanks.head?.getD inForce
    exec (.secondBoundary .scheduleUnit) s = .next ((bank.schedule.toList.foldl (State.fireEntry bank b)
      (s.setNotices { s.notices with scheduleUnit := rest, oldBanks := s.notices.oldBanks.tail })).settle)) ∧
  (∀ (s : State) (bank : Bank) (b : Stamp) (e : ScheduleEntry), entryDue bank s.time.weekdayOffset e b = false →
    State.fireEntry bank b s e = s) ∧
  (∀ (s : State) (bank : Bank) (b : Stamp) (e : ScheduleEntry), entryDue bank s.time.weekdayOffset e b = true →
    e.kind = .listed .ring → State.fireEntry bank b s e = (s.requestRings e.bells (bank.tone e.tone) e.duration).1) ∧
  (∀ (s : State) (bank : Bank) (b : Stamp) (e : ScheduleEntry) (m : AskMode),
    entryDue bank s.time.weekdayOffset e b = true → e.kind = .listed .laneMode → askOf e.mode = some m →
    State.fireEntry bank b s e = s.askModes e.lanes m) ∧
  (∀ (bank : Bank) (offset : Nat) (e : ScheduleEntry) (t : Stamp), e.basis = .listed .fixed →
    (entryDue bank offset e t = true ↔ t % 86400 = e.second ∧ inSet e.mask (dayType bank offset (t / 86400)) = true)) ∧
  ∀ (bank : Bank) (offset : Nat) (e : ScheduleEntry) (t : Stamp), e.basis = .listed .anchored →
    (entryDue bank offset e t = true ↔ 0 < (bank.shiftPattern e.pattern).length ∧
      ∃ k : Nat, k ≤ 65535 ∧ (t : Int) = 86400 * (k : Int) + 60 * anchorMinute bank e ∧
        inSet e.mask (dayType bank offset k) = true ∧
        inSet (bank.shiftPattern e.pattern).mask (dayType bank offset k) = true)) ∧
  ∀ (s : State) (o b : Stamp) (rest : List Notice), s.supply.state = .run →
    let quiet := s.setNotices { s.notices with scheduleUnit := rest, oldBanks := s.notices.oldBanks.tail }
    let inForce := if ∃ p ∈ s.banks.pending, p.target ≤ b then s.standbyBank else s.activeBank
    let bank := s.notices.oldBanks.head?.getD inForce
    let caughtUp (c : Instr) := ∃ t, exec c s = .next t ∧
      t = (allLanes.foldl (fun u l => match catchUpMode bank s.time.weekdayOffset l o b with
        | none => u
        | some m => u.askMode m l) quiet).settle ∧ t.bells = s.bells ∧ t.time = s.time ∧ t.banks = s.banks
    (s.notices.scheduleUnit = .step o b :: rest → o < b → caughtUp (.stepNotice .scheduleUnit)) ∧
    (s.notices.scheduleUnit = .step o b :: rest → b < o → exec (.stepNotice .scheduleUnit) s = .next quiet) ∧
    (s.notices.scheduleUnit = .resumption o b :: rest → caughtUp (.resumptionNotice .scheduleUnit))

/-- The latest second of a stretch of at most seven days at which an entry is due is found, and found only where there is one
(R136, R137, R148). The catch-up finds for a lane the mode of the latest LANE_MODE entry due in the last seven days of the
span that names the lane, and among those due at one second the one of highest index; none where no entry of that stretch
names the lane (R148, R149). -/
def Obligations.CatchUpFindsTheLatestMode : Prop :=
  (∀ (b : Bank) (offset : Nat) (e : ScheduleEntry) (first last : Stamp), last ≤ first + 604800 →
    (latestDue b offset e first last = none ↔ ∀ t, first < t → t ≤ last → entryDue b offset e t = false) ∧
    ∀ t, latestDue b offset e first last = some t ↔
      (first < t ∧ t ≤ last ∧ entryDue b offset e t = true ∧
        ∀ u, t < u → u ≤ last → entryDue b offset e u = false)) ∧
  ∀ (b : Bank) (offset : Nat) (l : LaneId) (first last : Stamp), first ≤ last →
    let start := max first (last - 604800)
    let names (i : Nat) (t : Stamp) (m : AskMode) := i < 128 ∧ start < t ∧ t ≤ last ∧
      (b.entry i).kind = .listed .laneMode ∧ inSet (b.entry i).lanes l.val = true ∧ askOf (b.entry i).mode = some m ∧
      entryDue b offset (b.entry i) t = true
    (catchUpMode b offset l first last = none ↔ ∀ i t m, ¬ names i t m) ∧
    ∀ m, catchUpMode b offset l first last = some m ↔
      ∃ i t, names i t m ∧ ∀ j u n, names j u n → u < t ∨ (u = t ∧ j ≤ i)

/-! ## The gate line and punches -/

/-- POLL with no poll outstanding: the oldest queued verdict is sent and leaves the queue, then the head polled is the lowest of
the poll set above the one polled last, or the lowest of all where there is none, with a 15 ms reply window; with an empty
poll set the line is quiet (R37, R38). What ends a poll (R38, R39): an IDLE from the polled head within the window sets its miss
count to 0, a SILENT head becoming ACTIVE with a HEAD_BACK alarm; a timeout raises the miss count, the third making an ACTIVE head
of the poll set SILENT with a HEAD_SILENT alarm and the count of a SILENT one staying; within the window a garbled answer, or a
frame from another head, is a line error that counts as none; characters outside a reply window, a frame among them, are one line
error and leave a poll still outstanding as it is. That POLL with a poll outstanding changes nothing, and that a garbled answer
ends the poll with its miss at once, is inferred (log entry 13). -/
def Obligations.PollsAreSentAnsweredAndMissed : Prop :=
  ((∀ (s : State) (h : Head), s.supply.state = .run → s.punch.outstanding = none → s.inPollSet h = true →
    ((∃ p, s.punch.position = some p ∧ p.address < h.address ∧
        ∀ k, s.inPollSet k = true → p.address < k.address → h.address ≤ k.address) ∨
      ((∀ p ∈ s.punch.position, ∀ k, s.inPollSet k = true → k.address ≤ p.address) ∧
        ∀ k, s.inPollSet k = true → h.address ≤ k.address)) →
    exec .poll s = .next (s.setPunch { s.punch with
      verdicts := s.punch.verdicts.tail
      lastSent := match s.punch.verdicts.head? with
        | some q => some q
        | none => s.punch.lastSent
      position := some h, outstanding := some ⟨h, s.time.elapsed + 15⟩ })) ∧
  (∀ s : State, s.supply.state = .run → (∀ h, s.inPollSet h = false) → exec .poll s = .next s) ∧
  ∀ (s : State) (p : OpenPoll), s.supply.state = .run → s.punch.outstanding = some p → exec .poll s = .next s) ∧
  ∀ (s : State) (h : Head), s.supply.state = .run →
    let errors := min 65535 (s.punch.lineErrors + 1)
    let after (lineErrors : Nat) (x : HeadState) := { s.punch with
      outstanding := none, lineErrors := lineErrors, heads := putAt s.punch.heads h.index x }
    let used := (s.lane h.lane).setup.kind ≠ .unused
    let stray := s.setPunch { s.punch with lineErrors := errors }
    (∀ e, s.punch.outstanding = some ⟨h, e⟩ → s.time.elapsed ≤ e → (s.headAt h).silent = false →
      exec (.idle h) s = .next (s.setPunch (after s.punch.lineErrors ⟨false, 0⟩))) ∧
    (∀ e, s.punch.outstanding = some ⟨h, e⟩ → s.time.elapsed ≤ e → (s.headAt h).silent = true → used →
      ∃ t, exec (.idle h) s = .next t ∧ unchangedBut [.punch, .spool, .link] s t ∧
        t.punch = after s.punch.lineErrors ⟨false, 0⟩ ∧ entered (.laneAlarm s.now h.lane .headBack) s t) ∧
    (∀ e, s.punch.outstanding = some ⟨h, e⟩ → s.inPollSet h = true → (s.headAt h).silent = false →
      (s.headAt h).misses < 2 →
      (e ≤ s.time.elapsed →
        exec .pollTimeout s = .next (s.setPunch (after s.punch.lineErrors ⟨false, (s.headAt h).misses + 1⟩))) ∧
      (s.time.elapsed ≤ e →
        exec .garbledAnswer s = .next (s.setPunch (after errors ⟨false, (s.headAt h).misses + 1⟩)))) ∧
    (∀ e, s.punch.outstanding = some ⟨h, e⟩ → s.inPollSet h = true → (s.headAt h).silent = false →
      (s.headAt h).misses = 2 →
      (e ≤ s.time.elapsed → ∃ t, exec .pollTimeout s = .next t ∧ unchangedBut [.punch, .spool, .link] s t ∧
        t.punch = after s.punch.lineErrors ⟨true, 3⟩ ∧ entered (.laneAlarm s.now h.lane .headSilent) s t) ∧
      (s.time.elapsed ≤ e → ∃ t, exec .garbledAnswer s = .next t ∧ unchangedBut [.punch, .spool, .link] s t ∧
        t.punch = after errors ⟨true, 3⟩ ∧ entered (.laneAlarm s.now h.lane .headSilent) s t)) ∧
    (∀ e, s.punch.outstanding = some ⟨h, e⟩ → e ≤ s.time.elapsed → (s.headAt h).silent = true →
      exec .pollTimeout s = .next (s.setPunch { s.punch with outstanding := none })) ∧
    (∀ e k badge intent, s.punch.outstanding = some ⟨h, e⟩ → s.time.elapsed ≤ e → k ≠ h →
      exec (.idle k) s = exec .garbledAnswer s ∧ exec (.punch k badge intent) s = exec .garbledAnswer s) ∧
    exec .strayCharacters s = .next stray ∧
    ((∀ p ∈ s.punch.outstanding, p.expiry < s.time.elapsed) →
      exec .garbledAnswer s = .next stray ∧ exec (.idle h) s = .next stray ∧
      ∀ badge intent, exec (.punch h badge intent) s = .next stray)

/-- A punch from the polled head within the reply window that a check ends writes its verdict and nothing else (R40, R42, R44):
RELEASE with PASS and NOT_RECORDED in EGRESS, DENY_LOCKED in LOCKED, BUSY at a lane that is not IDLE, DENY_UNKNOWN for an invalid
badge and for a miss at a DENY lane that does not refer (R45); with every word of the roster sound, at a slot, in order,
DENY_IN_USE where it is marked for another lane (R46), AGAIN within the repeat guard (R47), DENY_LANE without the lane's
permission (R46), DENY_PASSBACK for a violation at a HARD lane (R50), where alone the unrecorded count may have risen (R49), and
DENY_WINDOW for a CLOCK_IN outside its admit window (R51). The verdict takes the place of one still unsent for the head, or joins
the queue's tail. -/
def Obligations.PunchTurnedAwayEarly : Prop :=
  ∀ (s : State) (h : Head) (e : Elapsed) (badge : BitVec 32) (intent : Intent),
    s.supply.state = .run → s.levelLaw → s.verdictLaw → s.punch.outstanding = some ⟨h, e⟩ → s.time.elapsed ≤ e →
    (s.headAt h).silent = false → s.inPollSet h = true →
    let lane := s.lane h.lane
    let ended (v : Verdict) : PunchUnit := { s.punch with
      outstanding := none
      heads := putAt s.punch.heads h.index ⟨false, 0⟩
      verdicts := if s.punch.verdicts.any (fun q => decide (q.head = h))
        then s.punch.verdicts.map (fun q => if q.head = h then ⟨h, v⟩ else q)
        else s.punch.verdicts ++ [⟨h, v⟩] }
    let ends (v : Verdict) := exec (.punch h badge intent) s = .next (s.setPunch (ended v))
    let accepting := (lane.mode = .secure ∨ lane.mode = .free) ∧ lane.activity = .idle ∧ badge ≠ 0 ∧ badge ≠ 4294967295
    (lane.mode = .egress → ends ⟨.release, .pass, true⟩) ∧
    (lane.mode = .locked → ends ⟨.denyLocked, .none, false⟩) ∧
    ((lane.mode = .secure ∨ lane.mode = .free) → lane.activity ≠ .idle → ends ⟨.busy, .none, false⟩) ∧
    ((lane.mode = .secure ∨ lane.mode = .free) → lane.activity = .idle → (badge = 0 ∨ badge = 4294967295) →
      ends ⟨.denyUnknown, .none, false⟩) ∧
    (accepting → s.soundWords → (∀ a, s.holdsBadge badge.toNat a = false) →
      ¬ (s.link.online = true ∧ lane.setup.referral = true) → lane.setup.miss = .deny →
      ends ⟨.denyUnknown, .none, false⟩) ∧
    ∀ a, accepting → s.rosterForm → s.soundWords → s.badgeLaw → s.holdsBadge badge.toNat a = true →
      let x := s.slot a
      let inUse := ∃ m, x.mark = some m ∧ m ≠ h.lane
      let repeated := ∃ i u, s.now = some i ∧ x.lastPunch = some (u, h) ∧ 0 < s.setup.general.repeatGuard ∧ u ≤ i ∧
        i - u < s.setup.general.repeatGuard
      let violated := (h.dir = .inward ∧ s.presenceOf x = .inside) ∨ (h.dir = .outward ∧ s.presenceOf x = .outside)
      let c := s.activeBank.payClass x.payClass
      (inUse → ends ⟨.denyInUse, .none, false⟩) ∧
      (¬ inUse → repeated → ends ⟨.again, .none, false⟩) ∧
      (¬ inUse → ¬ repeated → inSet x.lanes h.lane.val = false → ends ⟨.denyLane, .none, false⟩) ∧
      (¬ inUse → ¬ repeated → inSet x.lanes h.lane.val = true → violated → lane.setup.passback = .hard →
        ∃ t, exec (.punch h badge intent) s = .next t ∧ unchangedBut [.punch, .roster] s t ∧
          t.punch = ended ⟨.denyPassback, .none, false⟩ ∧ t.slot a = x.counted h.dir intent ∧
          (∀ d, d ≠ a → t.slot d = s.slot d) ∧ t.roster = { s.roster with slots := t.roster.slots }) ∧
      ∀ i start, ¬ inUse → ¬ repeated → inSet x.lanes h.lane.val = true → ¬ (violated ∧ lane.setup.passback = .hard) →
        h.dir = .inward → x.record = .off → s.now = some i →
        nearestStart s.activeBank s.time.weekdayOffset (s.activeBank.shiftPattern x.pattern) i = some start →
        (i + 60 * c.admitEarly < start ∨ start + 60 * c.admitLate < i) → c.anyTime = false →
        ends ⟨.denyWindow, .none, false⟩

/-- A punch is classified by its head, the record and the intent (R48). One within the reply window that passes its checks, with
every word of the roster sound, at an IDLE lane (R42): an entry-head punch against a CLOSED_WAITING record has raised the
unrecorded count (R49); in SECURE, outside any pair or in one whose condition holds and whose partner does not wait, the lane's
grant is released for its release time, the slot is marked with the lane, the handed punch holds what the punch gave, turned to
PASS where the clock was INVALID at its read (R52), and RELEASE with the classification's message is queued (R53, R72, R85);
otherwise the grant is held in INTERLOCK_WAIT for the wait limit and WAIT is queued (R53, R85); record, presence and last punch do
not change yet. In FREE the punch commits at once with that verdict (R53, R68; log entry 36). A miss at an ADMIT_NOTED lane
releases a visitor with RELEASE_NOTED, or holds it likewise (R45); a miss while ONLINE at a lane that refers starts a referral
wait, with WAIT queued and a REFERRAL report (R58). -/
def Obligations.PunchReleasesAWorker : Prop :=
  (∀ (i : Intent) (d : RecordData) (t out : Stamp) (total : ShiftTotal),
    classify .inward .off i = ⟨.clockIn, none, false, false⟩ ∧
    classify .inward (.onShift d t) i = ⟨.passIn, some .duplicateIn, false, false⟩ ∧
    classify .inward (.onBreak d t) i = ⟨.breakIn, none, false, false⟩ ∧
    classify .inward (.closedWaiting d out total) i = ⟨.passIn, none, true, true⟩ ∧
    classify .outward .off i = ⟨.passOut, none, false, false⟩ ∧
    classify .outward (.onShift d t) .normal = ⟨.clockOut, none, false, false⟩ ∧
    (d.breaks.length < 4 → classify .outward (.onShift d t) .breakKey = ⟨.breakOut, none, false, false⟩) ∧
    (4 ≤ d.breaks.length → classify .outward (.onShift d t) .breakKey = ⟨.passOut, some .breakLimit, false, false⟩) ∧
    classify .outward (.onBreak d t) i = ⟨.clockOut, none, false, false⟩ ∧
    classify .outward (.closedWaiting d out total) i = ⟨.passOut, none, false, false⟩) ∧
  ∀ (s : State) (h : Head) (e : Elapsed) (badge : BitVec 32) (intent : Intent),
    s.supply.state = .run → s.rosterForm → s.soundWords → s.badgeLaw → s.levelLaw →
    s.punch.outstanding = some ⟨h, e⟩ → s.time.elapsed ≤ e → (s.headAt h).silent = false → s.inPollSet h = true →
    (s.lane h.lane).activity = .idle → (∀ q ∈ s.punch.verdicts, q.head ≠ h) → badge ≠ 0 → badge ≠ 4294967295 →
    let lane := s.lane h.lane
    let p : PunchRead := ⟨h, badge.toNat, intent, s.now⟩
    let taken (v : Verdict) : PunchUnit := { s.punch with
      outstanding := none, heads := putAt s.punch.heads h.index ⟨false, 0⟩, verdicts := s.punch.verdicts ++ [⟨h, v⟩] }
    let rest (t : State) := t.punch.outstanding = none ∧ t.punch.waits = s.punch.waits ∧
      ∀ l, l ≠ h.lane → t.lane l = s.lane l ∧ t.handedAt l = s.handedAt l
    let missed := ∀ a, s.holdsBadge badge.toNat a = false
    let marked (t : State) (a : Nat) := t.slot a = { (s.slot a).counted h.dir intent with mark := some h.lane } ∧
      (∀ d, d ≠ a → t.slot d = s.slot d) ∧ t.roster = { s.roster with slots := t.roster.slots }
    let held := lane.mode = .secure ∧ ¬ s.takesAtOnce h.lane ∧ s.partnerStays h.lane ∧ s.laneLaw
    (∀ a, lane.mode = .secure → s.takesAtOnce h.lane → s.holdsBadge badge.toNat a = true → s.passes p a →
      ∃ t, exec (.punch h badge intent) s = .next t ∧ unchangedBut [.lanes, .punch, .inputs, .roster] s t ∧
        grantReleased (s.handedFor p a) s t ∧ rest t ∧ marked t a) ∧
    (∀ a, held → s.holdsBadge badge.toNat a = true → s.passes p a →
      ∃ t, exec (.punch h badge intent) s = .next t ∧ unchangedBut [.lanes, .punch, .roster] s t ∧
        grantHeld (s.handedFor p a) s t ∧ rest t ∧ marked t a) ∧
    (∀ a, lane.mode = .free → s.holdsBadge badge.toNat a = true → s.passes p a →
      let q := s.handedFor p a
      ∃ u, exec (.punch h badge intent) s = .next (u.commit h.lane q) ∧ unchangedBut [.punch, .roster] s u ∧
        u.punch = taken ⟨.release, (q.cls.map messageOf).getD .pass, q.notRecorded⟩ ∧
        u.slot a = (s.slot a).counted h.dir intent ∧ (∀ d, d ≠ a → u.slot d = s.slot d) ∧
        u.roster = { s.roster with slots := u.roster.slots }) ∧
    (missed → ¬ (s.link.online = true ∧ lane.setup.referral = true) → lane.setup.miss = .admitNoted →
      (lane.mode = .secure → s.takesAtOnce h.lane →
        ∃ t, exec (.punch h badge intent) s = .next t ∧ unchangedBut [.lanes, .punch, .inputs] s t ∧
          grantReleased (visitorHanded p) s t ∧ rest t) ∧
      (held → ∃ t, exec (.punch h badge intent) s = .next t ∧ unchangedBut [.lanes, .punch] s t ∧
        grantHeld (visitorHanded p) s t ∧ rest t)) ∧
    (lane.mode = .free → missed → ¬ (s.link.online = true ∧ lane.setup.referral = true) →
      lane.setup.miss = .admitNoted →
      exec (.punch h badge intent) s =
        .next ((s.setPunch (taken ⟨.releaseNoted, .pass, true⟩)).commit h.lane (visitorHanded p))) ∧
    ((lane.mode = .secure ∨ lane.mode = .free) → missed → s.link.online = true → lane.setup.referral = true →
      ∃ t, exec (.punch h badge intent) s = .next t ∧ unchangedBut [.lanes, .punch, .link] s t ∧
        t.lanes = putAt s.lanes h.lane { lane with activity := .referralWait } ∧
        t.punch = { taken ⟨.wait, .none, false⟩ with waits := putAt s.punch.waits h.lane (some
          { head := h, badge := badge.toNat, intent := intent, stamp := s.now
            expiry := s.time.elapsed + 1000 * s.setup.general.referralTimeout }) } ∧
        t.link = (if s.link.transmit.length < 31 then { s.link with
            transmit := s.link.transmit ++ [.report (.referral s.now h.lane h badge.toNat intent)] }
          else { s.link with errors := min 65535 (s.link.errors + 1) }))

/-- The ends of a referral wait at a lane with no pending setup (R59, R60, R61). Its timeout under the miss policy DENY queues
DENY_UNKNOWN and its ruling DENY queues DENY_REFUSED, either leaving the lane IDLE with no wait. A ruling ADMIT at a SECURE lane
that can release at once, outside any pair or in one whose condition holds and whose partner does not wait (R85), with every word
of the roster sound: without enrol fields a hit whose punch passes its checks releases the worker, and a miss a visitor; with them
a free place of the bucket is enrolled first, a badge already held is judged with DUPLICATE, and a full bucket releases a visitor
with FULL; the reply names the slot and the verdict. At a lane that cannot, a hit holds the grant in INTERLOCK_WAIT, and the reply
carries WAIT, the first verdict queued, whatever the arbiter then releases (log entry 36). A timeout under ADMIT_NOTED
releases a visitor. A ruling for a lane that holds no wait for the badge is refused TOO_LATE with nothing changed, and one out of
range OUT_OF_RANGE. A REFERRAL_TIMEOUT for a lane with no wait, which no rule names, changes nothing (log entry 8). -/
def Obligations.ReferralWaitEnds : Prop :=
  (∀ (s : State) (l : LaneId) (w : ReferralWait), s.supply.state = .run → s.levelLaw → s.laneLaw →
    s.punch.waits[l] = some w → w.head.lane = l → s.inPollSet w.head = true →
    (∀ q ∈ s.punch.verdicts, q.head ≠ w.head) → (s.lane l).pendingSetup = none →
    let ended (v : VerdictCode) := (s.setPunch { s.punch with
      waits := putAt s.punch.waits l none
      verdicts := s.punch.verdicts ++ [⟨w.head, ⟨v, .none, false⟩⟩] }).setLane l { s.lane l with activity := .idle }
    let p : PunchRead := ⟨w.head, w.badge, w.intent, w.stamp⟩
    let others (t : State) := t.punch.waits = putAt s.punch.waits l none ∧
      ∀ k, k ≠ l → t.lane k = s.lane k ∧ t.handedAt k = s.handedAt k
    let ruled (f : Option EnrolFields) (blocks : List Block) (code : ReplyCode) (slot : Option Nat) (v : VerdictCode)
        (after : State → Prop) :=
      let order := Instr.ruling l.val w.badge (.listed .allow) f
      ∃ t, exec order s = .next (t.answer order code (.ruling slot (some v))) ∧ unchangedBut blocks s t ∧ others t ∧ after t
    let visitor (t : State) := grantReleased (visitorHanded p) s t
    let worker (a : Nat) (t : State) := grantReleased (s.handedFor p a) s t ∧
      t.slot a = { (s.slot a).counted w.head.dir w.intent with mark := some l } ∧ (∀ c, c ≠ a → t.slot c = s.slot c) ∧
      t.roster = { s.roster with slots := t.roster.slots }
    let granting := (s.lane l).mode = .secure ∧ s.takesAtOnce l
    let sound := s.rosterForm ∧ s.soundWords ∧ s.badgeLaw ∧ validBadge w.badge = true
    (w.expiry ≤ s.time.elapsed → (s.lane l).setup.miss = .deny →
      exec (.referralTimeout l) s = .next (ended .denyUnknown)) ∧
    (w.expiry ≤ s.time.elapsed → (s.lane l).setup.miss = .admitNoted → granting →
      ∃ t, exec (.referralTimeout l) s = .next t ∧ unchangedBut [.lanes, .punch, .inputs] s t ∧ others t ∧ visitor t) ∧
    (validBadge w.badge = true →
      let order := Instr.ruling l.val w.badge (.listed .deny) none
      exec order s = .next ((ended .denyRefused).answer order .ok (.ruling none (some .denyRefused)))) ∧
    (∀ a, sound → granting → s.holdsBadge w.badge a = true → s.passes p a →
      ruled none [.lanes, .punch, .inputs, .roster] .ok none .release (worker a) ∧
      ∀ f, validIndices f.payClass f.pattern = true →
        ruled (some f) [.lanes, .punch, .inputs, .roster] .duplicate (some a) .release (worker a)) ∧
    (∀ a, sound → (s.lane l).mode = .secure → ¬ s.takesAtOnce l → s.holdsBadge w.badge a = true → s.passes p a →
      let order := Instr.ruling l.val w.badge (.listed .allow) none
      ∃ t, exec order s = .next (t.answer order .ok (.ruling none (some .wait))) ∧
        unchangedBut [.lanes, .punch, .inputs, .roster] s t ∧ t.punch.waits = putAt s.punch.waits l none ∧
        t.handedAt l = some (s.handedFor p a) ∧
        (s.partnerStays l → others t ∧ grantHeld (s.handedFor p a) s t)) ∧
    (sound → granting → (∀ a, s.holdsBadge w.badge a = false) →
      ruled none [.lanes, .punch, .inputs] .ok none .releaseNoted visitor ∧
      ∀ f, validIndices f.payClass f.pattern = true →
        ((∀ a ∈ bucketSlots (w.badge % 1536), s.statusOf a ≠ .free) →
          ruled (some f) [.lanes, .punch, .inputs] .full none .releaseNoted visitor) ∧
        ∀ a ∈ bucketSlots (w.badge % 1536), s.statusOf a = .free →
          (∀ c ∈ bucketSlots (w.badge % 1536), c < a → s.statusOf c ≠ .free) →
          let x : Slot :=
            { status := .active, badge := some w.badge, payClass := f.payClass, pattern := f.pattern, lanes := f.lanes
              inside := false, presenceStamp := 0, weekIndex := 0, weekTotal := 0, lastPunch := none, unrecorded := 0
              mark := none, record := .off, errors := ⟨0, false⟩ }
          let u := s.setRoster { s.roster with
            slots := s.roster.slots.put Slot.freeSlot a x, occupiedCount := s.roster.occupiedCount + 1 }
          u.passes p a →
          ruled (some f) [.lanes, .punch, .inputs, .roster] .ok (some a) .release fun t =>
            grantReleased (u.handedFor p a) s t ∧ t.slot a = { x with mark := some l } ∧
            (∀ c, c ≠ a → t.slot c = s.slot c) ∧ t.roster.occupiedCount = s.roster.occupiedCount + 1)) ∧
  (∀ (s : State) (lane badge : Nat) (d : Decision) (f : Option EnrolFields), s.supply.state = .run →
    let order := Instr.ruling lane badge (.listed d) f
    (7 < lane ∨ validBadge badge = false ∨ fieldsInRange f = false → exec order s = .next (s.refuse order .outOfRange)) ∧
    (lane ≤ 7 → validBadge badge = true → fieldsInRange f = true → d = .deny → f.isSome = true →
      exec order s = .next (s.refuse order .badOrder)) ∧
    (lane ≤ 7 → validBadge badge = true → fieldsInRange f = true → ¬ (d = .deny ∧ f.isSome = true) →
      (∀ l : LaneId, l.val = lane → ∀ w, s.punch.waits[l] = some w → w.badge ≠ badge) →
      exec order s = .next (s.refuse order .tooLate))) ∧
  ∀ (s : State) (l : LaneId), s.supply.state = .run → s.punch.waits[l] = none → exec (.referralTimeout l) s = .next s

/-! ## Lanes -/

/-- An opening of a DOOR lane's door, delivered by the Input Sampler, makes the door status OPEN and starts the held-open
timer (R74), and is taken as the first of these that holds (R75): the passage of a released grant not yet used, at which the
handed punch of a WORKER or VISITOR grant commits (R54) and a REMOTE or EXIT_REQUEST grant commits nothing; a TAILGATE of a used
PULSE grant; nothing where the output is driven on, the allowance runs, the input is active, or the mode is FREE or EGRESS;
FORCED. The passage of an UNTIL_OPEN grant outside any pair stops its release expiry, the grant staying, and the output is no
longer requested by it (R77, R71). -/
def Obligations.DoorOpeningIsTakenInOrder : Prop :=
  ∀ (s : State) (l : LaneId), s.supply.state = .run → s.levelLaw → (s.lane l).setup.kind = .door →
    (s.lane l).doorOpen = false → s.inputs.deliveries = [.door l true] →
    let opened : Lane := { s.lane l with
      doorOpen := true, heldTimer := some (s.time.elapsed + 1000 * (s.lane l).setup.heldLimit) }
    let taken := s.setInputs { s.inputs with deliveries := [] }
    let excused := s.driveRelease l = true ∨ (s.lane l).exitAllowance.isSome = true ∨ s.exitActive l = true ∨
      (s.lane l).mode = .free ∨ (s.lane l).mode = .egress
    let raises (cause : AlarmCause) := ∃ t, exec (.doorOpening l) s = .next t ∧
      unchangedBut [.lanes, .inputs, .spool, .link] s t ∧ t.lanes = putAt s.lanes l opened ∧ t.inputs = taken.inputs ∧
      entered (.laneAlarm s.now l cause) s t
    ((s.lane l).grant = none → excused → exec (.doorOpening l) s = .next (taken.setLane l opened)) ∧
    ((s.lane l).grant = none → ¬ excused → raises .forced) ∧
    (∀ g, (s.lane l).grant = some g → g.phase = .waiting → ¬ excused → raises .forced) ∧
    (∀ g, (s.lane l).grant = some g → g.phase = .released → g.passageSeen = true →
      (s.lane l).setup.releaseMode = .pulse → raises .tailgate) ∧
    (∀ g, (s.lane l).grant = some g → g.phase = .released → g.passageSeen = true →
      (s.lane l).setup.releaseMode = .untilOpen → ¬ excused → raises .forced) ∧
    (∀ g, (s.lane l).grant = some g → g.phase = .released → g.passageSeen = false →
      (s.lane l).setup.releaseMode = .pulse →
      let passed := taken.setLane l { opened with grant := some { g with passageSeen := true } }
      (s.handedAt l = none → exec (.doorOpening l) s = .next passed) ∧
      ∀ p, s.handedAt l = some p → exec (.doorOpening l) s = .next (passed.commit l p)) ∧
    ∀ g, (s.lane l).grant = some g → g.phase = .released → g.passageSeen = false →
      (s.lane l).setup.releaseMode = .untilOpen → s.inPair l = false → s.inputs.evacuating = false →
      s.inputs.releaseHolds[l] = none →
      let seen : Lane := { opened with grant := some { g with passageSeen := true, releaseExpiry := none } }
      let wanted := decide ((s.lane l).mode = .free) || decide ((s.lane l).mode = .egress)
      let passed := match s.handedAt l with
        | none => taken.setLane l seen
        | some p => (taken.setLane l seen).commit l p
      exec (.doorOpening l) s = .next ((passed.setLane l { seen with requested := wanted }).setInputs { s.inputs with
        deliveries := [], drivenRelease := putAt s.inputs.drivenRelease l wanted })

/-- A passage's commit of a handed punch, with every word of the roster sound (R54): a worker's writes presence from the head at
the current epoch and the last punch from the read stamp, requests its notes and sends the PASS report, the slot's mark staying.
What the record takes first (R95): a PASS_IN or PASS_OUT nothing; CLOCK_IN opens it, anchored to its scheduled start, and puts it
into the deadline list behind every earlier or equal deadline (R96, R98, R101); BREAK_OUT and BREAK_IN open and close a break pair
(R100); CLOCK_OUT closes it at the read stamp, its total placed in the spool or waiting (R106, R109). A punch that no longer fits
becomes PASS_IN or PASS_OUT, NOT_RECORDED, with its note (R55, R56). A visitor's commits its notes and report alone (R45). That
the read stamp, and not the clock at the commit, decides the last punch is the model's choice (log entry 39). -/
def Obligations.PassageCommitsThePunch : Prop :=
  ∀ (s : State) (l : LaneId) (p : HandedPunch), s.handedAt l = some p →
    let t := s.passageNotice l
    let notes (q : HandedPunch) := q.notes ++ (if q.notRecorded = true ∧ q.slot ≠ none then [NoteCause.notRecorded] else [])
    let noted (q : HandedPunch) (u : State) := ((notes q).foldl (fun v cause =>
      v.requestEntry (.punchNote q.stamp l q.head q.badge q.noted cause)) u).spool
    let reported (q : HandedPunch) :=
      (s.sendReport (.pass q.stamp l q.head q.badge q.slot q.shown q.notRecorded)).link
    (p.slot = none → unchangedBut [.spool, .link] s t ∧ t.spool = noted p s ∧ t.link = reported p) ∧
    ∀ a, s.rosterForm → s.soundWords → s.isDamaged a = false → p.slot = some a → (s.slot a).status = .active →
      let x := s.slot a
      let c := s.activeBank.payClass x.payClass
      let written (r : ShiftRecord) : Slot := { x with
        inside := decide (p.head.dir = .inward)
        presenceStamp := s.roster.epoch
        record := r
        lastPunch := match p.stamp with
          | some i => some (i, p.head)
          | none => x.lastPunch }
      let frame := unchangedBut [.roster, .records, .spool, .link] s t ∧ (∀ d, d ≠ a → t.slot d = s.slot d) ∧
        t.roster = { s.roster with slots := t.roster.slots }
      ((p.cls = some .passIn ∨ p.cls = some .passOut) →
        frame ∧ t.records = s.records ∧ t.slot a = written x.record ∧ t.spool = noted p s ∧ t.link = reported p) ∧
      ∀ i k, p.stamp = some i → p.cls = some k → p.notRecorded = false →
        (k = .clockIn → x.record = .off →
          let start := nearestStart s.activeBank s.time.weekdayOffset (s.activeBank.shiftPattern x.pattern) i
          let first := start.getD (i / 60 * 60)
          let last := match start with
            | some u => u + 60 * (s.activeBank.shiftPattern x.pattern).length
            | none => i / 60 * 60 + 28800
          let deadline := last + 60 * c.autoClose
          let opened : RecordData :=
            { inStamp := i, pattern := x.pattern, schedStart := first, schedEnd := last, anchorDay := first / 86400
              anchorWeek := s.weekOf first, breaks := [], generation := s.banks.generation, stepCount := s.time.stepCount
              holdCount := s.time.holdCount
              flags := { offWindow := p.offWindow, unscheduled := start.isNone, missingOut := false, withdrawn := false
                         breakOpen := false, clockStepped := false, hold := false, rulesChanged := false, negative := false
                         capped := false } }
          frame ∧ t.slot a = written (.onShift opened deadline) ∧ t.spool = noted p s ∧ t.link = reported p ∧
            ∃ before after, s.records.deadlines = before ++ after ∧
              t.records = { s.records with deadlines := before ++ a :: after } ∧
              (∀ d ∈ before, ∀ u, s.deadlineOf d = some u → u ≤ deadline) ∧
              ∀ d ∈ after.head?, ∃ u, s.deadlineOf d = some u ∧ deadline < u) ∧
        (∀ d u, k = .breakOut → x.record = .onShift d u → d.breaks.length < 4 →
          frame ∧ t.records = s.records ∧ t.spool = noted p s ∧ t.link = reported p ∧
            t.slot a = written (.onBreak { d with breaks := d.breaks ++ [⟨i, none⟩] } u)) ∧
        (∀ d u pairs o, k = .breakIn → x.record = .onBreak d u → d.breaks = pairs ++ [⟨o, none⟩] →
          frame ∧ t.records = s.records ∧ t.spool = noted p s ∧ t.link = reported p ∧
            t.slot a = written (.onShift { d with breaks := pairs ++ [⟨o, some i⟩] } u)) ∧
        (∀ d, k = .clockOut → x.record.openData = some d →
          let input := s.closureInput a d i .clockOut
          let total := shiftTotal input
          let placed := s.records.closureQueue = [] ∧ s.spool.entries.length < 4096
          let weeks (y : Slot) : Slot := { y with weekIndex := (weekAfter input).1, weekTotal := (weekAfter input).2 }
          let remaining := s.records.deadlines.filter fun b => decide (b ≠ a)
          frame ∧ t.link = reported p ∧
            (placed → t.slot a = weeks (written .off) ∧ t.records = { s.records with deadlines := remaining } ∧
              t.spool = noted p (s.appendEntry (.shiftTotal total))) ∧
            (¬ placed →
              t.slot a = weeks (written (.closedWaiting { input.data with flags := total.flags } i total)) ∧
              t.records = { s.records with
                deadlines := remaining, closureQueue := s.records.closureQueue ++ [a] } ∧
              t.spool = noted p s)) ∧
        ((k = .clockIn ∧ x.record ≠ .off) ∨
            (k = .breakOut ∧ ∀ d u, x.record = .onShift d u → 4 ≤ d.breaks.length) ∨
            (k = .breakIn ∧ ∀ d u, x.record ≠ .onBreak d u) ∨ (k = .clockOut ∧ x.record.openData = none) →
          let q := { p with
            cls := some (match p.head.dir with | .inward => .passIn | .outward => .passOut), notRecorded := true }
          frame ∧ t.records = s.records ∧ t.slot a = written x.record ∧ t.spool = noted q s ∧ t.link = reported q)

/-- A closing of a DOOR lane's door, outside any pair, makes the door status CLOSED, records the last closing as the present
elapsed time and stops the held-open timer; a HELD lane becomes NORMAL with a HELD_END alarm (R74). A used UNTIL_OPEN grant ends
there: the lane is IDLE with no grant, the handed punch is dropped, and its slot's mark is cleared where it names this lane (R77,
R73, R30; that a mark naming another lane stays is the model's choice, log entry 14). -/
def Obligations.DoorClosingRecordsTheClosing : Prop :=
  ∀ (s : State) (l : LaneId), s.supply.state = .run → s.levelLaw → (s.lane l).setup.kind = .door →
    (s.lane l).doorOpen = true → s.inputs.deliveries = [.door l false] → s.inPair l = false →
    let closed : Lane := { s.lane l with
      doorOpen := false, lastClosing := some s.time.elapsed, heldTimer := none, held := false }
    let alarmed (t : State) := ((s.lane l).held = true → entered (.laneAlarm s.now l .heldEnd) s t) ∧
      ((s.lane l).held = false → t.spool = s.spool ∧ t.link = s.link)
    ((∀ g, (s.lane l).grant = some g →
        ¬ (g.phase = .released ∧ g.passageSeen = true ∧ (s.lane l).setup.releaseMode = .untilOpen)) →
      ∃ t, exec (.doorClosing l) s = .next t ∧ unchangedBut [.lanes, .inputs, .spool, .link] s t ∧
        t.inputs = { s.inputs with deliveries := [] } ∧ t.lanes = putAt s.lanes l closed ∧ alarmed t) ∧
    ∀ g, (s.lane l).grant = some g → g.phase = .released → g.passageSeen = true →
      (s.lane l).setup.releaseMode = .untilOpen → (s.lane l).pendingSetup = none → s.rosterForm → s.soundWords →
      ∃ t, exec (.doorClosing l) s = .next t ∧ unchangedBut [.lanes, .inputs, .punch, .roster, .spool, .link] s t ∧
        t.inputs = { s.inputs with deliveries := [] } ∧ alarmed t ∧
        t.lanes = putAt s.lanes l { closed with activity := .idle, grant := none } ∧
        t.punch = { s.punch with handed := putAt s.punch.handed l none } ∧
        t.roster = { s.roster with slots := t.roster.slots } ∧
        (∀ a, (∀ p ∈ s.handedAt l, p.slot ≠ some a) → t.slot a = s.slot a) ∧
        ∀ p a, s.handedAt l = some p → p.slot = some a → s.isDamaged a = false → (s.slot a).status ≠ .free →
          t.slot a = { s.slot a with mark := if (s.slot a).mark = some l then none else (s.slot a).mark }

/-- A lane's timers (R76, R77, R79, R80, R82, R87), each at an expiry already reached: a released grant ends with the lane IDLE
and its output no longer requested by it; one whose passage was not seen voids its handed punch, END being queued for its head and
a VOID report with EXPIRY sent, with nothing committed (R57), and either way its slot's mark is cleared (R30, R73); the held-open
timer stops, and a door OPEN in SECURE or LOCKED makes the lane HELD with HELD_BEGIN; the exit allowance ends; a waiting grant is
refused, the lane IDLE, DENY_INTERLOCK queued for its handed punch, which is dropped with its slot's mark cleared, and the arbiter
releases the other lane's waiting grant where its condition holds (R53, R87). -/
def Obligations.LaneTimersRunOut : Prop :=
  (∀ (s : State) (l : LaneId) (g : Grant) (t : Elapsed), s.supply.state = .run → (s.lane l).grant = some g →
    g.phase = .released → g.releaseExpiry = some t → t ≤ s.time.elapsed → s.inPair l = false →
    (s.lane l).pendingSetup = none →
    let ended (u : State) := (u.lane l).grant = none ∧ (u.lane l).activity = .idle ∧ (u.lane l).encoder = 0 ∧
      (u.lane l).requested = (decide ((s.lane l).setup.kind ≠ .unused) &&
        (decide ((s.lane l).mode = .free) || decide ((s.lane l).mode = .egress)))
    (s.handedAt l = none → ∃ u, exec (.releaseExpiry l) s = .next u ∧ unchangedBut [.lanes, .inputs, .punch] s u ∧ ended u) ∧
    ∀ p, s.handedAt l = some p → s.levelLaw → s.rosterForm → s.soundWords → s.inPollSet p.head = true →
      (∀ q ∈ s.punch.verdicts, q.head ≠ p.head) →
      ∃ u, exec (.releaseExpiry l) s = .next u ∧ unchangedBut [.lanes, .inputs, .punch, .roster, .link] s u ∧ ended u ∧
        (∀ k, k ≠ l → u.lane k = s.lane k) ∧
        u.punch = { s.punch with
          handed := putAt s.punch.handed l none
          verdicts := s.punch.verdicts ++ (if g.passageSeen = true then [] else [⟨p.head, ⟨.finish, .none, false⟩⟩]) } ∧
        u.link = (if g.passageSeen = true then s.link
          else (s.sendReport (.void p.stamp l p.head p.badge p.slot p.shown .expiry)).link) ∧
        u.roster = { s.roster with slots := u.roster.slots } ∧ (∀ a, p.slot ≠ some a → u.slot a = s.slot a) ∧
        ∀ a, p.slot = some a → s.isDamaged a = false → (s.slot a).status ≠ .free → (s.slot a).mark = some l →
          u.slot a = { s.slot a with mark := none }) ∧
  (∀ (s : State) (l : LaneId) (t : Elapsed), s.supply.state = .run → (s.lane l).heldTimer = some t → t ≤ s.time.elapsed →
    (¬ ((s.lane l).doorOpen = true ∧ ((s.lane l).mode = .secure ∨ (s.lane l).mode = .locked)) →
      exec (.heldOpenExpiry l) s = .next (s.setLane l { s.lane l with heldTimer := none })) ∧
    ((s.lane l).doorOpen = true → ((s.lane l).mode = .secure ∨ (s.lane l).mode = .locked) →
      (s.lane l).setup.kind = .door →
      ∃ u, exec (.heldOpenExpiry l) s = .next u ∧ unchangedBut [.lanes, .spool, .link] s u ∧
        u.lanes = putAt s.lanes l { s.lane l with heldTimer := none, held := true } ∧
        entered (.laneAlarm s.now l .heldBegin) s u)) ∧
  (∀ (s : State) (l : LaneId) (t : Elapsed), s.supply.state = .run → (s.lane l).exitAllowance = some t →
    t ≤ s.time.elapsed →
    exec (.exitAllowanceExpiry l) s = .next (s.setLane l { s.lane l with exitAllowance := none })) ∧
  ∀ (s : State) (l : LaneId) (g : Grant), s.supply.state = .run → s.levelLaw → (s.lane l).grant = some g →
    g.phase = .waiting → g.waitExpiry ≤ s.time.elapsed → (s.lane l).pendingSetup = none →
    let ended : Lane := { s.lane l with activity := .idle, grant := none }
    (s.partnerStays l →
      (s.handedAt l = none → exec (.interlockWaitExpiry l) s = .next (s.setLane l ended)) ∧
      ∀ p, s.handedAt l = some p → s.rosterForm → s.soundWords → s.inPollSet p.head = true →
        (∀ q ∈ s.punch.verdicts, q.head ≠ p.head) →
        ∃ u, exec (.interlockWaitExpiry l) s = .next u ∧ unchangedBut [.lanes, .punch, .roster] s u ∧
          u.lanes = putAt s.lanes l ended ∧
          u.punch = { s.punch with
            handed := putAt s.punch.handed l none
            verdicts := s.punch.verdicts ++ [⟨p.head, ⟨.denyInterlock, .none, false⟩⟩] } ∧
          u.roster = { s.roster with slots := u.roster.slots } ∧ (∀ a, p.slot ≠ some a → u.slot a = s.slot a) ∧
          ∀ a, p.slot = some a → s.isDamaged a = false → (s.slot a).status ≠ .free → (s.slot a).mark = some l →
            u.slot a = { s.slot a with mark := none }) ∧
    ∀ m k, s.handedAt l = none → s.partnerOf l = some m → (s.lane m).grant = some k → k.phase = .waiting →
      k.passageSeen = false → s.interlockClear m l = true → s.handedAt m = none → s.inputs.evacuating = false →
      s.inputs.releaseHolds[m] = none →
      ∃ u, exec (.interlockWaitExpiry l) s = .next u ∧ unchangedBut [.lanes, .inputs] s u ∧
        (u.lane l).activity = .idle ∧ (u.lane l).grant = none ∧ (u.lane m).activity = .released ∧
        u.inputs.drivenRelease[m] = true ∧
        (u.lane m).grant = some { k with
          phase := .released, releaseExpiry := some (s.time.elapsed + 1000 * (s.lane m).setup.releaseTime) }

/-- A waiting grant's release (R53, R72, R84, R86): at the end of the dead time after the partner's last closing, with the
partner's output off, its door CLOSED and no grant waiting there, the arbiter releases the waiting grant, the lane's output is
requested and, with no hold, driven on, and for a WORKER or VISITOR grant RELEASE or RELEASE_NOTED is queued for the handed
punch's head. A dead time whose end has been taken, and one of a lane in no pair, does not end: the event changes nothing, which
is the model's choice (log entries 8 and 16). -/
def Obligations.DeadTimeEndReleasesAWaitingGrant : Prop :=
  (∀ (s : State) (l p : LaneId) (g : Grant) (closed : Elapsed), s.supply.state = .run → s.levelLaw →
    s.inputs.evacuating = false → s.partnerOf l = some p → (s.lane l).grant = some g → g.phase = .waiting →
    (s.lane p).grant = none → (s.lane p).lastClosing = some closed → (s.lane l).deadRuns = true →
    closed + 100 * (s.lane l).setup.deadTime ≤ s.time.elapsed → s.driveRelease p = false → (s.lane p).doorOpen = false →
    g.passageSeen = false → s.inputs.releaseHolds[l] = none →
    ∃ t, exec (.deadTimeEnd l) s = .next t ∧ unchangedBut [.lanes, .inputs, .punch] s t ∧
      (t.lane l).activity = .released ∧ (t.lane l).deadRuns = false ∧
      (t.lane l).grant = some { g with
        phase := .released, releaseExpiry := some (s.time.elapsed + 1000 * (s.lane l).setup.releaseTime) } ∧
      (t.lane l).requested = true ∧ t.inputs.drivenRelease[l] = true ∧ t.inputs.drivenRelease[p] = false ∧
      (s.handedAt l = none → t.punch = s.punch) ∧
      ∀ q, s.handedAt l = some q → s.inPollSet q.head = true → (∀ v ∈ s.punch.verdicts, v.head ≠ q.head) →
        t.punch = { s.punch with verdicts := s.punch.verdicts ++ [⟨q.head,
          ⟨if q.slot.isSome = true then .release else .releaseNoted, (q.cls.map messageOf).getD .pass, q.notRecorded⟩⟩] }) ∧
  ∀ (s : State) (l : LaneId), s.supply.state = .run → (s.lane l).deadRuns = false ∨ s.partnerOf l = none →
    exec (.deadTimeEnd l) s = .next s

/-- A request-to-exit of a used lane, delivered by the Input Sampler, sets the exit allowance to the release time, and an IDLE
lane in SECURE mode takes an EXIT_REQUEST grant outward; in any other mode or state no grant is taken (R80). LANE RELEASE refuses
in order a lane above 7, an unused or FREE or EGRESS lane, and a lane that is not IDLE, and otherwise the lane takes a REMOTE
grant. Either grant is released at once outside a pair and in one whose condition holds and whose partner does not wait, and waits
otherwise, the order's reply saying which (R85, R89). As it enters INTERLOCK_WAIT the arbiter releases a partner's waiting grant
whose condition holds (R86); that the entering grant is not released by its own entry is the model's reading (log entry 16). -/
def Obligations.ExitAndRemoteGrantsAreReleased : Prop :=
  (∀ (s : State) (l : LaneId), s.supply.state = .run → s.levelLaw → s.laneLaw → (s.lane l).setup.kind ≠ .unused →
    s.takesAtOnce l ∨ s.partnerStays l → s.inputs.deliveries = [.exitRequest l] →
    ∃ t, exec (.requestToExit l) s = .next t ∧ unchangedBut [.lanes, .inputs] s t ∧ t.inputs.deliveries = [] ∧
      (t.lane l).exitAllowance = some (s.time.elapsed + 1000 * (s.lane l).setup.releaseTime) ∧
      ((s.lane l).mode = .secure → (s.lane l).activity = .idle → ¬ s.takesAtOnce l →
        (t.lane l).activity = .interlockWait ∧ (t.lane l).requested = false ∧
        (t.lane l).grant = some { kind := .exitRequest, dir := .outward, slot := none, punch := none, phase := .waiting
                                  waitEntry := s.time.elapsed, passageSeen := false, releaseExpiry := none
                                  waitExpiry := s.time.elapsed + 1000 * (s.lane l).setup.waitLimit }) ∧
      ((s.lane l).mode = .secure → (s.lane l).activity = .idle → s.takesAtOnce l →
        (t.lane l).activity = .released ∧
        (t.lane l).grant = some { kind := .exitRequest, dir := .outward, slot := none, punch := none, phase := .released
                                  waitEntry := 0, waitExpiry := 0, passageSeen := false
                                  releaseExpiry := some (s.time.elapsed + 1000 * (s.lane l).setup.releaseTime) } ∧
        (t.lane l).requested = true) ∧
      (¬ ((s.lane l).mode = .secure ∧ (s.lane l).activity = .idle) →
        (t.lane l).activity = (s.lane l).activity ∧ (t.lane l).grant = (s.lane l).grant)) ∧
  (∀ (s : State) (lane : Nat) (d : Dir), s.supply.state = .run → 7 < lane →
    let order := Instr.laneRelease lane (.listed d)
    exec order s = .next (s.refuse order .outOfRange)) ∧
  (∀ (s : State) (lane code : Nat), s.supply.state = .run →
    let order := Instr.laneRelease lane (.unlisted code)
    exec order s = .next (s.refuse order .badOrder)) ∧
  ∀ (s : State) (l : LaneId) (d : Dir), s.supply.state = .run → s.levelLaw → s.laneLaw →
    let order := Instr.laneRelease l.val (.listed d)
    let barred := (s.lane l).setup.kind = .unused ∨ (s.lane l).mode = .free ∨ (s.lane l).mode = .egress
    let waiting : Grant :=
      { kind := .remote, dir := d, slot := none, punch := none, phase := .waiting, waitEntry := s.time.elapsed
        waitExpiry := s.time.elapsed + 1000 * (s.lane l).setup.waitLimit, passageSeen := false, releaseExpiry := none }
    (barred → exec order s = .next (s.refuse order .wrongState)) ∧
    (¬ barred → (s.lane l).activity ≠ .idle → exec order s = .next (s.refuse order .busy)) ∧
    (¬ barred → (s.lane l).activity = .idle → s.takesAtOnce l →
      ∃ t, exec order s = .next (t.answer order .ok (.grant true)) ∧ unchangedBut [.lanes, .inputs] s t ∧
        (t.lane l).activity = .released ∧ (t.lane l).requested = true ∧
        (t.lane l).grant = some { kind := .remote, dir := d, slot := none, punch := none, phase := .released
                                  waitEntry := 0, waitExpiry := 0, passageSeen := false
                                  releaseExpiry := some (s.time.elapsed + 1000 * (s.lane l).setup.releaseTime) }) ∧
    (¬ barred → (s.lane l).activity = .idle → ¬ s.takesAtOnce l → s.partnerStays l →
      exec order s = .next ((s.setLane l { s.lane l with activity := .interlockWait, grant := some waiting }).answer
        order .ok (.grant false))) ∧
    ∀ p g, ¬ barred → (s.lane l).activity = .idle → s.partnerOf l = some p → (s.lane p).grant = some g →
      g.phase = .waiting → g.passageSeen = false → s.interlockClear p l = true → s.inputs.releaseHolds[p] = none →
      ∃ t, exec order s = .next (t.answer order .ok (.grant false)) ∧ unchangedBut [.lanes, .punch, .inputs] s t ∧
        (t.lane l).activity = .interlockWait ∧ (t.lane l).grant = some waiting ∧ (t.lane p).activity = .released ∧
        (t.lane p).requested = true ∧ t.inputs.drivenRelease[p] = true ∧ t.inputs.drivenRelease[l] = false ∧
        (t.lane p).grant = some { g with
          phase := .released, releaseExpiry := some (s.time.elapsed + 1000 * (s.lane p).setup.releaseTime) }

/-- A change of a TURNSTILE lane's encoder pair (R81, R82, R83): the decoder pair becomes the new pair; the next pair of the
inward cycle 00, 01, 11, 10 raises the count by one and the previous one lowers it, below the passage step in either direction;
a change of both lines leaves the count and raises ENCODER_ERROR. The count reaching the step returns to 0. With a released
grant of that direction it is the passage: the handed punch commits and the grant ends; against it the grant is voided, with
REVERSE alarmed, END queued and a VOID report (R82, R57, R73), its slot's mark cleared where it names the lane, while a mark
that names another lane stays, which is the model's choice (log entry 14). With no released grant it raises FORCED where nothing
excuses it: the output driven on, the mode FREE or EGRESS, or outward the exit allowance or the active input (R83). -/
def Obligations.EncoderChangeMovesTheCount : Prop :=
  ∀ (s : State) (l : LaneId) (a b : Bool), s.supply.state = .run → s.levelLaw → (s.lane l).setup.kind = .turnstile →
    s.inputs.deliveries = [.encoder l a b] →
    let x := s.lane l
    let moved (n : Int) : Lane := { x with decoderA := a, decoderB := b, encoder := n }
    let taken := s.setInputs { s.inputs with deliveries := [] }
    let inward := (x.decoderA = x.decoderB ∧ a = x.decoderA ∧ b ≠ x.decoderB) ∨
      (x.decoderA ≠ x.decoderB ∧ a ≠ x.decoderA ∧ b = x.decoderB)
    let outward := (x.decoderA = x.decoderB ∧ a ≠ x.decoderA ∧ b = x.decoderB) ∨
      (x.decoderA ≠ x.decoderB ∧ a = x.decoderA ∧ b ≠ x.decoderB)
    let stepped (d : Dir) := (d = .inward ∧ inward ∧ x.encoder + 1 = x.setup.passageStep) ∨
      (d = .outward ∧ outward ∧ x.encoder - 1 = -(x.setup.passageStep : Int))
    let raises (n : Int) (cause : AlarmCause) := ∃ t, exec (.encoderChange l a b) s = .next t ∧
      unchangedBut [.lanes, .inputs, .spool, .link] s t ∧ t.lanes = putAt s.lanes l (moved n) ∧ t.inputs = taken.inputs ∧
      entered (.laneAlarm s.now l cause) s t
    (inward → -(x.setup.passageStep : Int) < x.encoder + 1 → x.encoder + 1 < x.setup.passageStep →
      exec (.encoderChange l a b) s = .next (taken.setLane l (moved (x.encoder + 1)))) ∧
    (outward → -(x.setup.passageStep : Int) < x.encoder - 1 → x.encoder - 1 < x.setup.passageStep →
      exec (.encoderChange l a b) s = .next (taken.setLane l (moved (x.encoder - 1)))) ∧
    (a ≠ x.decoderA → b ≠ x.decoderB → raises x.encoder .encoderError) ∧
    (∀ d, 0 < x.setup.passageStep → stepped d → (∀ g ∈ x.grant, g.phase = .waiting) →
      let excused := s.driveRelease l = true ∨ x.mode = .free ∨ x.mode = .egress ∨
        (d = .outward ∧ (x.exitAllowance.isSome = true ∨ s.exitActive l = true))
      (excused → exec (.encoderChange l a b) s = .next (taken.setLane l (moved 0))) ∧ (¬ excused → raises 0 .forced)) ∧
    ∀ d g, 0 < x.setup.passageStep → stepped d → x.grant = some g → g.phase = .released → x.pendingSetup = none →
      s.rosterForm → s.soundWords →
      let wanted := decide (x.mode = .free) || decide (x.mode = .egress)
      let at0 (t : State) := t.lanes = putAt s.lanes l { moved 0 with
          activity := .idle, grant := none, requested := wanted } ∧
        t.inputs.deliveries = [] ∧ t.inputs.drivenRelease[l] = t.driveRelease l
      let unmarked (u t : State) (p : HandedPunch) := t.roster = { u.roster with slots := t.roster.slots } ∧
        (∀ c, p.slot ≠ some c → t.slot c = u.slot c) ∧
        ∀ c, p.slot = some c → s.isDamaged c = false → (s.slot c).status ≠ .free →
          t.slot c = { u.slot c with mark := if (u.slot c).mark = some l then none else (u.slot c).mark }
      let alarm := Entry.laneAlarm s.now l .reverse
      (g.dir = d → s.handedAt l = none →
        ∃ t, exec (.encoderChange l a b) s = .next t ∧ unchangedBut [.lanes, .inputs] s t ∧ at0 t) ∧
      (∀ p, g.dir = d → s.handedAt l = some p →
        ∃ t, exec (.encoderChange l a b) s = .next t ∧
          unchangedBut [.lanes, .inputs, .punch, .roster, .records, .spool, .link] s t ∧ at0 t ∧
          t.punch = { s.punch with handed := putAt s.punch.handed l none } ∧ t.records = (s.commit l p).records ∧
          t.spool = (s.commit l p).spool ∧ t.link = (s.commit l p).link ∧ unmarked (s.commit l p) t p) ∧
      (g.dir ≠ d → s.handedAt l = none →
        ∃ t, exec (.encoderChange l a b) s = .next t ∧ unchangedBut [.lanes, .inputs, .spool, .link] s t ∧ at0 t ∧
          entered alarm s t) ∧
      ∀ p, g.dir ≠ d → s.handedAt l = some p → s.inPollSet p.head = true → (∀ q ∈ s.punch.verdicts, q.head ≠ p.head) →
        ∃ t, exec (.encoderChange l a b) s = .next t ∧ unchangedBut [.lanes, .inputs, .punch, .roster, .spool, .link] s t ∧
          at0 t ∧ unmarked s t p ∧ t.spool = (s.requestEntry alarm).spool ∧
          t.link = ((s.requestEntry alarm).sendReport (.void p.stamp l p.head p.badge p.slot p.shown .reverse)).link ∧
          t.punch = { s.punch with
            handed := putAt s.punch.handed l none
            verdicts := s.punch.verdicts ++ [⟨p.head, ⟨.finish, .none, false⟩⟩] }

/-- LANE MODE (R88, R69): a mode other than SECURE, FREE and LOCKED is refused BAD_ORDER, and FREE for a set with a member of an
interlock pair WRONG_STATE; otherwise each named lane takes the mode, or during an evacuation a used lane remembers it while its
live mode stays EGRESS, no other lane changes its mode, and the reply lists each named lane's mode and remembered mode. -/
def Obligations.LaneModeIsWrittenOrRemembered : Prop :=
  (∀ (s : State) (lanes : LaneSet) (code : Nat), s.supply.state = .run →
    exec (.laneMode lanes (.unlisted code)) s = .next (s.refuse (.laneMode lanes (.unlisted code)) .badOrder) ∧
    exec (.laneMode lanes (.listed .egress)) s = .next (s.refuse (.laneMode lanes (.listed .egress)) .badOrder)) ∧
  ∀ (s : State) (lanes : LaneSet) (m : AskMode), s.supply.state = .run → s.modeLaw →
    let order := Instr.laneMode lanes (.listed m.toLaneMode)
    let barred := m = .free ∧ ∃ l : LaneId, inSet lanes l.val = true ∧ s.inPair l = true
    (barred → exec order s = .next (s.refuse order .wrongState)) ∧
    (¬ barred → ∃ t modes, exec order s = .next (t.answer order .ok (.laneModes modes)) ∧
      unchangedBut grantBlocks s t ∧
      ∀ l : LaneId,
        (inSet lanes l.val = false → (t.lane l).mode = (s.lane l).mode ∧ (t.lane l).remembered = (s.lane l).remembered) ∧
        (inSet lanes l.val = true → s.inputs.evacuating = false → (t.lane l).mode = m.toLaneMode) ∧
        (inSet lanes l.val = true → s.inputs.evacuating = true → (s.lane l).setup.kind ≠ .unused →
          (t.lane l).mode = .egress ∧ (t.lane l).remembered = some m) ∧
        (inSet lanes l.val = true → (l, (t.lane l).mode, (t.lane l).remembered) ∈ modes))

/-! ## Bells -/

/-- BELL RING (R143, R141): a tone pattern above 7 or a duration outside 1–120 s is refused; otherwise at each output of the set
a ring starts where there was none, takes over an ORDINARY ring with the later end, and is ignored at the EVACUATION ring, the
reply saying which for each named output; the other outputs keep their rings. An output whose ring starts or is taken over asks
at once for its ring's on phase, TONE with the frequency where its kind is TONE and the pattern has one and STEADY otherwise,
and every other output asks for what it asked before (R140). BELL STOP ends exactly the ORDINARY rings of its set, whose outputs
ask for OFF (R144). Every output is driven as R160 gives it. -/
def Obligations.BellOrdersRingAndStop : Prop :=
  (∀ (s : State) (outputs : BellSet) (tone duration : Nat), s.supply.state = .run →
    let order := Instr.bellRing outputs tone duration
    let p := s.activeBank.tone tone
    let ring (finish : Elapsed) : Ring :=
      { kind := .ordinary, frequency := p.frequency, onTime := p.onTime, offTime := p.offTime
        cadenceStart := s.time.elapsed, finish := some finish, onPhase := true
        nextPhase := if p.offTime = 0 then none else some (s.time.elapsed + 100 * p.onTime) }
    let asked (b : BellId) : BellLevel :=
      if inSet s.setup.bells.toneOutputs b.val = true ∧ p.frequency ≠ 0 then .tone p.frequency else .steady
    (7 < tone ∨ duration < 1 ∨ 120 < duration → exec order s = .next (s.refuse order .outOfRange)) ∧
    (tone ≤ 7 → 1 ≤ duration → duration ≤ 120 →
      ∃ t answers, exec order s = .next (t.answer order .ok (.rings answers)) ∧ unchangedBut ([.bells] ++ grantBlocks) s t ∧
        t.bells.evacSet = s.bells.evacSet ∧
        answers.map Prod.fst = allBells.filter (fun b => inSet outputs b.val) ∧
        ∀ b : BellId, t.inputs.drivenBell[b] = t.driveBell b ∧
          (inSet outputs b.val = false →
            t.bells.rings[b] = s.bells.rings[b] ∧ t.bells.requested[b] = s.bells.requested[b]) ∧
          (inSet outputs b.val = true → s.bells.rings[b] = none →
            t.bells.rings[b] = some (ring (s.time.elapsed + 1000 * duration)) ∧ t.bells.requested[b] = asked b ∧
              (b, RingAnswer.started) ∈ answers) ∧
          (∀ r, inSet outputs b.val = true → s.bells.rings[b] = some r → r.kind = .ordinary →
            t.bells.rings[b] = some (ring (max (r.finish.getD 0) (s.time.elapsed + 1000 * duration))) ∧
              t.bells.requested[b] = asked b ∧ (b, RingAnswer.takenOver) ∈ answers) ∧
          (∀ r, inSet outputs b.val = true → s.bells.rings[b] = some r → r.kind = .evacuation →
            t.bells.rings[b] = some r ∧ t.bells.requested[b] = s.bells.requested[b] ∧
              (b, RingAnswer.ignored) ∈ answers))) ∧
  ∀ (s : State) (outputs : BellSet), s.supply.state = .run →
    ∃ t stopped, exec (.bellStop outputs) s = .next (t.answer (.bellStop outputs) .ok (.bellsStopped stopped)) ∧
      unchangedBut ([.bells] ++ grantBlocks) s t ∧ t.bells.evacSet = s.bells.evacSet ∧
      ∀ b : BellId, t.inputs.drivenBell[b] = t.driveBell b ∧
        (inSet stopped b.val = true ↔ inSet outputs b.val = true ∧ ∃ r, s.bells.rings[b] = some r ∧ r.kind = .ordinary) ∧
        (inSet stopped b.val = true → t.bells.rings[b] = none ∧ t.bells.requested[b] = .off) ∧
        (inSet stopped b.val = false → t.bells.rings[b] = s.bells.rings[b] ∧ t.bells.requested[b] = s.bells.requested[b])

/-- A ring reaches its end: its record becomes absent and the output's requested state OFF, and the output is driven off unless
it is held (R141, R160). A cadence passes to its other phase at the time the last one ended: OFF in the off phase, and in the
on phase STEADY, or on a TONE output with a frequency above 0 that tone (R140). -/
def Obligations.RingsEndAndChangePhase : Prop :=
  ∀ (s : State) (b : BellId) (r : Ring) (t : Elapsed), s.supply.state = .run → s.levelLaw → s.bells.rings[b] = some r →
    t ≤ s.time.elapsed →
    (r.finish = some t →
      ∃ u, exec (.ringEnd b) s = .next u ∧ unchangedBut [.bells, .inputs] s u ∧
        u.bells = { s.bells with rings := putAt s.bells.rings b none, requested := putAt s.bells.requested b .off } ∧
        u.inputs.drivenRelease = s.inputs.drivenRelease ∧
        (s.inputs.bellHolds[b] = none → u.inputs.drivenBell = putAt s.inputs.drivenBell b .off)) ∧
    (r.nextPhase = some t →
      ∃ u, exec (.cadencePhaseChange b) s = .next u ∧ unchangedBut [.bells, .inputs] s u ∧
        u.bells = { s.bells with
          rings := putAt s.bells.rings b (some { r with
            onPhase := !r.onPhase, nextPhase := some (t + 100 * (if r.onPhase then r.offTime else r.onTime)) })
          requested := putAt s.bells.requested b
            (if r.onPhase = true then .off
             else if s.setup.bells.toneOutputs.getLsbD b.val = true ∧ r.frequency ≠ 0 then .tone r.frequency
             else .steady) } ∧
        u.inputs.drivenRelease = s.inputs.drivenRelease)

/-! ## Inputs, holds and evacuation -/

/-- One line at one sample with count K (R154, R155): a sample equal to the debounced level sets the run count to 0, one that
differs raises it, and the K-th in a run changes the level and is delivered as a change; a line not yet acquired takes the level
of K equal samples and delivers a status. A group's sample, its moment being reached, samples each of its lines so with the
setting in force then, which sets the next moment (one period after the sample taken: the model's choice, log entry 21). The
general group delivers to the watches: a live CHANGE watch is to fire on a change of an unmasked line, and an enabled MATCH
watch is evaluated at any change or status and, live, is to fire where it becomes EQUAL (R157). The contacts deliver a door's
change and a request-to-exit's change to active to the lane, and a first level of a door as a status, taken at once (R74, R93;
which closing it counts: log entry 22; a held state stays: log entry 50). The encoder lines deliver one change of the pair, and
a first level to the decoder pair (R81), which a change of the pair still waiting then carries too, so that a status is never
taken as a change (R155; the model's own list, log entry 22). -/
def Obligations.SamplesDebounceTheLines : Prop :=
  (∀ (x : Line) (k : Nat) (v : Bool), x.level = some v → 2 ≤ k →
    x.sample k v = ({ x with run := 0, last := v }, .quiet) ∧
    (x.run + 1 < k → x.sample k (!v) = ({ x with run := x.run + 1, last := !v }, .quiet)) ∧
    (k ≤ x.run + 1 → x.sample k (!v) = (⟨some (!v), 0, !v⟩, .change))) ∧
  (∀ (x : Line) (k : Nat) (v : Bool), x.level = none → 2 ≤ k → x.run < k →
    ((x.run = 0 ∨ x.last ≠ v) → x.sample k v = (⟨none, 1, v⟩, .quiet)) ∧
    (0 < x.run → x.last = v → x.run + 1 < k → x.sample k v = (⟨none, x.run + 1, v⟩, .quiet)) ∧
    (0 < x.run → x.last = v → x.run + 1 = k → x.sample k v = (⟨some v, 0, v⟩, .status))) ∧
  (∀ (s : State) (levels : InputSet), s.supply.state = .run →
    s.inputs.nextGeneral ≤ s.time.elapsed →
    let event (i : Fin 16) := (s.inputs.general[i].sample s.setup.general.generalDebounce.count (inSet levels i.val)).2
    let told := ∃ i, event i ≠ .quiet
    ∃ (t : State) (fired : List WatchId), exec (.debounceSample (.general levels)) s = .next t ∧ unchangedBut [.inputs] s t ∧
      t.inputs = { s.inputs with
        general := t.inputs.general, equal := t.inputs.equal
        nextGeneral := s.time.elapsed + s.setup.general.generalDebounce.period
        deliveries := s.inputs.deliveries ++ fired.map Delivery.watch } ∧
      (∀ i : Fin 16, t.inputs.general[i] =
        (s.inputs.general[i].sample s.setup.general.generalDebounce.count (inSet levels i.val)).1) ∧
      (∀ k : WatchId,
        (told → (s.watch k).enable = true → (s.watch k).mode = .equals → t.inputs.equal[k] = t.watchMatches k) ∧
        (¬ (told ∧ (s.watch k).enable = true ∧ (s.watch k).mode = .equals) → t.inputs.equal[k] = s.inputs.equal[k])) ∧
      fired.Pairwise (· < ·) ∧
      ∀ k : WatchId, k ∈ fired ↔ s.watchLive k = true ∧
        (((s.watch k).mode = .change ∧ ∃ i : Fin 16, event i = .change ∧ inSet (s.watch k).mask i.val = true) ∨
          ((s.watch k).mode = .equals ∧ told ∧ s.inputs.equal[k] = false ∧ t.watchMatches k = true))) ∧
  (∀ (s : State) (doors exits : LaneSet), s.supply.state = .run → s.levelLaw →
    s.inputs.nextContacts ≤ s.time.elapsed →
    let count := s.setup.general.contactDebounce.count
    let door (l : LaneId) := s.inputs.doors[l].sample count (inSet doors l.val)
    let exit (l : LaneId) := s.inputs.exits[l].sample count (inSet exits l.val)
    let status (l : LaneId) := (door l).2 = .status ∧ (s.lane l).setup.kind = .door
    (∀ l, s.inPair l = true → ¬ status l) →
    ∃ t, exec (.debounceSample (.contacts doors exits)) s = .next t ∧ unchangedBut [.inputs, .lanes] s t ∧
      t.inputs = { s.inputs with
        doors := t.inputs.doors, exits := t.inputs.exits
        nextContacts := s.time.elapsed + s.setup.general.contactDebounce.period
        deliveries := s.inputs.deliveries ++ allLanes.flatMap fun l =>
          (if (door l).2 = .change then [.door l (inSet doors l.val)] else []) ++
            (if (exit l).2 = .change ∧ inSet exits l.val = true then [.exitRequest l] else []) } ∧
      ∀ l : LaneId, t.inputs.doors[l] = (door l).1 ∧ t.inputs.exits[l] = (exit l).1 ∧
        (¬ status l → t.lane l = s.lane l) ∧
        (status l → inSet doors l.val = true → t.lane l = { s.lane l with
          doorOpen := true, heldTimer := some (s.time.elapsed + 1000 * (s.lane l).setup.heldLimit) }) ∧
        (status l → inSet doors l.val = false → (s.lane l).doorOpen = false → t.lane l = s.lane l) ∧
        (status l → inSet doors l.val = false → (s.lane l).doorOpen = true → t.lane l = { s.lane l with
          doorOpen := false, heldTimer := none, lastClosing := s.supply.returnedAt.or (s.lane l).lastClosing })) ∧
  ∀ (s : State) (a b : LaneSet), s.supply.state = .run →
    s.inputs.nextEncoders ≤ s.time.elapsed →
    let count := s.setup.general.encoderDebounce.count
    let lineA (l : LaneId) := s.inputs.encodersA[l].sample count (inSet a l.val)
    let lineB (l : LaneId) := s.inputs.encodersB[l].sample count (inSet b l.val)
    let acquired (d : Delivery) : Delivery := match d with
      | .encoder l x y => .encoder l
          (if (s.lane l).setup.kind = .turnstile ∧ (lineA l).2 = .status then inSet a l.val else x)
          (if (s.lane l).setup.kind = .turnstile ∧ (lineB l).2 = .status then inSet b l.val else y)
      | d => d
    ∃ t, exec (.debounceSample (.encoders a b)) s = .next t ∧ unchangedBut [.inputs, .lanes] s t ∧
      t.inputs = { s.inputs with
        encodersA := t.inputs.encodersA, encodersB := t.inputs.encodersB
        nextEncoders := s.time.elapsed + s.setup.general.encoderDebounce.period
        deliveries := s.inputs.deliveries.map acquired ++ allLanes.flatMap fun l =>
          if (lineA l).2 = .change ∨ (lineB l).2 = .change then
            [.encoder l ((lineA l).1.level.getD (t.lane l).decoderA) ((lineB l).1.level.getD (t.lane l).decoderB)]
          else [] } ∧
      ∀ l : LaneId, t.inputs.encodersA[l] = (lineA l).1 ∧ t.inputs.encodersB[l] = (lineB l).1 ∧
        t.lane l = { s.lane l with
          decoderA := if (s.lane l).setup.kind = .turnstile ∧ (lineA l).2 = .status then inSet a l.val
            else (s.lane l).decoderA
          decoderB := if (s.lane l).setup.kind = .turnstile ∧ (lineB l).2 = .status then inSet b l.val
            else (s.lane l).decoderB }

/-- A watch that fires (R158, R159, R162): it captures the levels and the stamp and requests its WATCH entry. An ALARM watch
does no more; a LANES watch asks its mode of its lanes, FREE being SECURE at a member of a pair, and a mode asked during an
evacuation being remembered (R69); a BELL watch rings the RING entry it names of the active bank, and nothing where that entry
is no RING (R142); an EVACUATE watch during an evacuation refreshes its capture alone, and one that fires in NORMAL starts the
evacuation, after which, with every word of the roster sound, the state is EVACUATING with the watch as its starting watch,
every used lane stands in EGRESS with no grant and remembers the mode it had (R91; where no setup waits to be applied that could
form a pair), no lane waits for a ruling, the evacuation set is the setup record's, the EVACUATION ring of its tone starts on
its outputs and no other ring changes (R146), the entries requested are WATCH and then EVAC_BEGIN (R162), and a VOID report is
sent for each grant voided (R57); that those stand in rising lane order and between the two ALARM reports is the model's choice
(log entry 32). A watch not enabled, or with an empty mask, does not fire (R156); it is the watch's settings, the levels and the
stamp as the firing is taken that count (log entry 43). -/
def Obligations.WatchFiresAndPerformsItsAction : Prop :=
  ∀ (s : State) (k : WatchId), s.supply.state = .run → s.levelLaw → s.inputs.deliveries = [.watch k] →
    let captured := { s.inputs with
      deliveries := [], captures := putAt s.inputs.captures k (some ⟨s.generalLevels, s.now⟩) }
    let told (t : State) := entered (.system s.now (.watch k s.generalLevels (s.watch k).action)) s t
    (s.watchLive k = false → exec (.watchFire k) s = .next (s.setInputs { s.inputs with deliveries := [] })) ∧
    (s.watchLive k = true → (s.watch k).action = .alarm →
      ∃ t, exec (.watchFire k) s = .next t ∧ unchangedBut [.inputs, .spool, .link] s t ∧ t.inputs = captured ∧ told t) ∧
    (∀ set m, s.watchLive k = true → (s.watch k).action = .lanes set m →
      ∃ t, exec (.watchFire k) s = .next t ∧ unchangedBut [.lanes, .punch, .inputs, .spool, .link] s t ∧ told t ∧
        t.inputs.captures = captured.captures ∧ t.inputs.deliveries = [] ∧
        t.inputs.evacuating = s.inputs.evacuating ∧
        ∀ l : LaneId,
          let asked : AskMode := if m = .free ∧ s.inPair l = true then .secure else m
          let remembering := s.inputs.evacuating = true ∧ (s.lane l).setup.kind ≠ .unused
          (inSet set l.val = false → (t.lane l).mode = (s.lane l).mode ∧ (t.lane l).remembered = (s.lane l).remembered) ∧
          (inSet set l.val = true → ¬ remembering →
            (t.lane l).mode = asked.toLaneMode ∧ (t.lane l).remembered = (s.lane l).remembered) ∧
          (inSet set l.val = true → remembering →
            (t.lane l).mode = (s.lane l).mode ∧ (t.lane l).remembered = some asked)) ∧
    (∀ i, s.watchLive k = true → (s.watch k).action = .bell i →
      let e := s.activeBank.entry i
      ∃ t, exec (.watchFire k) s = .next t ∧ unchangedBut [.bells, .inputs, .spool, .link] s t ∧ told t ∧
        t.inputs.captures = captured.captures ∧ t.inputs.deliveries = [] ∧
        (e.kind ≠ .listed .ring → t.bells = s.bells ∧ t.inputs = captured) ∧
        (e.kind = .listed .ring →
          t.bells = (s.requestRings e.bells (s.activeBank.tone e.tone) e.duration).1.bells ∧
          ∀ b : BellId, t.inputs.drivenBell[b] = t.driveBell b)) ∧
    (s.watchLive k = true → (s.watch k).action = .evacuate → s.inputs.evacuating = true →
      exec (.watchFire k) s = .next (s.setInputs captured)) ∧
    (s.watchLive k = true → (s.watch k).action = .evacuate → s.inputs.evacuating = false → s.laneLaw → s.modeLaw →
      s.rosterForm → s.soundWords →
      let voided (u : State) := allLanes.foldl (fun v l => match s.handedAt l with
        | some p => if (s.lane l).setup.kind = .unused then v
            else v.sendReport (.void p.stamp l p.head p.badge p.slot p.shown .evacuation)
        | none => v) u
      let last := (voided (s.requestEntry (.system s.now (.watch k s.generalLevels .evacuate)))).requestEntry
        (.system s.now (.evacBegin k s.generalLevels))
      ∃ t, exec (.watchFire k) s = .next t ∧ unchangedBut ([.bells] ++ grantBlocks) s t ∧
        t.spool = last.spool ∧ t.link = last.link ∧
        (∀ l : LaneId, (s.lane l).setup.kind ≠ .unused → (s.lane l).pendingSetup = none →
          ((s.lane l).mode = .free → ∀ p : LaneId, (s.lane p).pendingSetup = none) →
          ∃ m, (t.lane l).remembered = some m ∧ m.toLaneMode = (s.lane l).mode) ∧
        t.inputs.evacuating = true ∧ t.inputs.startingWatch = some k ∧ t.inputs.captures = captured.captures ∧
        t.bells.evacSet = some ⟨s.setup.bells.evacOutputs, s.setup.bells.evacTone⟩ ∧
        (∀ l : LaneId, (t.lane l).setup.kind ≠ .unused →
          (t.lane l).mode = .egress ∧ (t.lane l).grant = none ∧ (t.lane l).activity = .idle ∧
            t.inputs.drivenRelease[l] = true) ∧
        (∀ l : LaneId, t.punch.waits[l] = none) ∧
        ∀ b : BellId, t.bells.rings[b] = if inSet s.setup.bells.evacOutputs b.val = true
          then some (evacRingOf (s.activeBank.tone s.setup.bells.evacTone) s.time.elapsed) else s.bells.rings[b])

/-- OUTPUT HOLD (R161): a held level of on for a member of an interlock pair is refused WRONG_STATE with nothing changed;
otherwise exactly the named outputs' holds are written and every driven level is as R160 gives it. EGRESS END (R164, R91) is
refused while the state is NORMAL, and while a watch holds it back with the watch named; otherwise the state is NORMAL with no
starting watch, each lane that remembers a mode takes it, FREE being SECURE at a member of an interlock pair, every other keeps
its mode, no lane remembers a mode or stands in EGRESS, no EVACUATION ring remains, the presence epoch has advanced, and EVAC_END,
ended by the order, is requested (R165). -/
def Obligations.HoldsAreWrittenAndEvacuationsEnd : Prop :=
  (∀ (s : State) (releases : LaneSet) (bells : BellSet) (hold : HoldRequest), s.supply.state = .run →
    let order := Instr.outputHold releases bells hold
    let barred := hold = .held true ∧ ∃ l : LaneId, inSet releases l.val = true ∧ s.inPair l = true
    let written : Option Bool := match hold with
      | .off => none
      | .held level => some level
    (barred → exec order s = .next (s.refuse order .wrongState)) ∧
    (¬ barred → ∃ t body, exec order s = .next (t.answer order .ok body) ∧ unchangedBut grantBlocks s t ∧
      t.inputs.evacuating = s.inputs.evacuating ∧
      (∀ l : LaneId, t.inputs.releaseHolds[l] = (if inSet releases l.val = true then written else s.inputs.releaseHolds[l])) ∧
      (∀ b : BellId, t.inputs.bellHolds[b] = (if inSet bells b.val = true then written else s.inputs.bellHolds[b])) ∧
      (∀ l : LaneId, t.inputs.drivenRelease[l] = t.driveRelease l) ∧ ∀ b : BellId, t.inputs.drivenBell[b] = t.driveBell b)) ∧
  ∀ s : State, s.supply.state = .run →
    (s.inputs.evacuating = false → exec .egressEnd s = .next (s.refuse .egressEnd .wrongState)) ∧
    (∀ k, s.inputs.evacuating = true → s.holdsBack k = true → (∀ j, j < k → s.holdsBack j = false) →
      (∀ j, s.inputs.startingWatch = some j → s.holdsBack j = false) →
      exec .egressEnd s = .next (s.answer .egressEnd .wrongState (.watch k))) ∧
    (∀ k, s.inputs.evacuating = true → s.holdsBack k = true → s.inputs.startingWatch = some k →
      exec .egressEnd s = .next (s.answer .egressEnd .wrongState (.watch k))) ∧
    (s.inputs.evacuating = true → (∀ k, s.holdsBack k = false) → s.modeLaw →
      ∃ t, exec .egressEnd s = .next (t.answer .egressEnd .ok .none) ∧ unchangedBut ([.bells] ++ grantBlocks) s t ∧
        t.inputs.evacuating = false ∧ t.inputs.startingWatch = none ∧ t.bells.evacSet = none ∧
        entered (.system s.now (.evacEnd .order)) s t ∧
        (∀ l : LaneId, (t.lane l).remembered = none ∧ (t.lane l).mode ≠ .egress ∧
          ((s.lane l).remembered = none → (t.lane l).mode = (s.lane l).mode) ∧
          ∀ m, (s.lane l).remembered = some m →
            (t.lane l).mode = (if m = .free ∧ s.inPair l = true then AskMode.secure else m).toLaneMode) ∧
        (∀ b : BellId, t.ringsEvacuation b = false) ∧
        t.roster.epoch = (if s.roster.epoch = 65535 then 1 else s.roster.epoch + 1))

/-! ## Rule banks -/

/-- LOAD BEGIN (R169): an unlisted start kind is refused BAD_ORDER, and a pending switch BUSY with nothing changed; otherwise
every row of every table of the standby bank is written, COPY with the active bank's rows and EMPTY with the power-on rows, in
every standby state, the standby state becomes LOADING, the last fault absent, and the reply is OK. -/
def Obligations.LoadBeginWritesTheStandby : Prop :=
  (∀ (s : State) (code : Nat), s.supply.state = .run →
    exec (.loadBegin (.unlisted code)) s = .next (s.refuse (.loadBegin (.unlisted code)) .badOrder)) ∧
  ∀ (s : State) (kind : LoadKind), s.supply.state = .run →
    let order := Instr.loadBegin (.listed kind)
    (s.banks.pending.isSome = true → exec order s = .next (s.refuse order .busy)) ∧
    (s.banks.pending = none →
      ∃ t, exec order s = .next (t.answer order .ok .none) ∧ unchangedBut [.banks] s t ∧
        t.standbyBank = (match kind with
          | .copy => s.activeBank
          | .empty => Bank.initial) ∧
        t.activeBank = s.activeBank ∧ t.banks.active = s.banks.active ∧ t.banks.standby = .loading ∧
        t.banks.lastFault = none ∧ t.banks.generation = s.banks.generation ∧ t.banks.pending = none)

/-- LOAD ROWS of one or more rows (R170): refused WRONG_STATE unless the standby is LOADING, OUT_OF_RANGE where a row lies beyond
the table, and BAD_ORDER where one is not of the table's form; a refused order writes no row. Otherwise every row named is
replaced whole as it is given, no other row of the bank changes, and the reply is OK with the number of rows. The order of the
three refusals where more than one applies is the model's (log entry 23). -/
def Obligations.LoadRowsReplacesTheRowsNamed : Prop :=
  ∀ (s : State) (table : TableName) (first : Nat) (rows : List Row), s.supply.state = .run → rows ≠ [] →
    let order := Instr.loadRows (.listed table) first rows
    let inTable := first + rows.length ≤ tableSize table
    let fitting := ∀ r ∈ rows, rowFits table r = true
    (s.banks.standby ≠ .loading → exec order s = .next (s.refuse order .wrongState)) ∧
    (s.banks.standby = .loading → ¬ inTable → exec order s = .next (s.refuse order .outOfRange)) ∧
    (s.banks.standby = .loading → inTable → ¬ fitting → exec order s = .next (s.refuse order .badOrder)) ∧
    (s.banks.standby = .loading → inTable → fitting →
      ∃ t, exec order s = .next (t.answer order .ok (.rowsWritten rows.length)) ∧ unchangedBut [.banks] s t ∧
        t.activeBank = s.activeBank ∧ t.banks.active = s.banks.active ∧ t.banks.standby = .loading ∧
        t.banks.generation = s.banks.generation ∧ t.banks.pending = s.banks.pending ∧
        t.banks.lastFault = s.banks.lastFault ∧
        (∀ i, (h : i < rows.length) → t.standbyBank.row table (first + i) = rows[i]) ∧
        (∀ i, i < first ∨ first + rows.length ≤ i → t.standbyBank.row table i = s.standbyBank.row table i) ∧
        ∀ other i, other ≠ table → t.standbyBank.row other i = s.standbyBank.row other i)

/-- LOAD END (R171): refused WRONG_STATE unless the standby is LOADING; a bank in which no row has a fault becomes READY, and any
other REJECTED with the fault found first recorded: no earlier table has one, no lower row of its table, and it is the row's own.
The rows stay as loaded. The fault of a row, by table, is that of its first faulty field in the table's order: a pay class's field
outside its range, its rounding unit not in the set or its rounding no mode; a pattern's start above 1,439 or length above 1,440;
of a schedule entry, only fields that apply to its kind and basis, TONE_INDEX for a RING's tone above 7 and UNUSED_PATTERN for an
anchoring pattern of length 0; a tone's frequency, on time or off time; DUPLICATE_HOLIDAY at the later of two equal days. That a
holiday's day above 65,535 is RANGE is the model's reading (log entry 40). -/
def Obligations.LoadEndJudgesTheStandby : Prop :=
  (∀ s : State, s.supply.state = .run →
    let faulty (t : TableName) (i : Nat) := i < tableSize t ∧ (checkRow s.standbyBank t i).isSome = true
    let place : TableName → Nat
      | .payClasses => 0
      | .patterns => 1
      | .schedule => 2
      | .tones => 3
      | .holidays => 4
    (s.banks.standby ≠ .loading → exec .loadEnd s = .next (s.refuse .loadEnd .wrongState)) ∧
    (s.banks.standby = .loading → (∀ t i, ¬ faulty t i) →
      exec .loadEnd s = .next ((s.setBanks { s.banks with standby := .ready }).answer .loadEnd .ok
        (.loadResult .ready none))) ∧
    ∀ t i, s.banks.standby = .loading → faulty t i →
      ∃ f, exec .loadEnd s = .next ((s.setBanks { s.banks with standby := .rejected, lastFault := some f }).answer .loadEnd
          .ok (.loadResult .rejected (some f))) ∧
        checkRow s.standbyBank f.table f.row = some (f.field, f.reason) ∧ f.row < tableSize f.table ∧
        (place f.table < place t ∨ (f.table = t ∧ f.row ≤ i))) ∧
  ∀ b : Bank,
    let first (l : List (Bool × RowField × FaultReason)) : RowCheck := (l.find? Prod.fst).map Prod.snd
    (∀ i : Fin 16, let c := b.payClasses[i]
      checkRow b .payClasses i.val = first
        [(!decide (c.unit ∈ [1, 2, 3, 4, 5, 6, 10, 12, 15, 20, 30]), .unit, .range),
         (!decide (c.rounding ∈ [.listed .nearest, .listed .plant, .listed .worker]), .rounding, .range),
         (decide (60 < c.inEarly), .inEarly, .range), (decide (60 < c.inLate), .inLate, .range),
         (decide (60 < c.outEarly), .outEarly, .range), (decide (60 < c.outLate), .outLate, .range),
         (decide (60 < c.paidBreak), .paidBreak, .range), (decide (960 < c.mealThreshold), .mealThreshold, .range),
         (decide (120 < c.mealLength), .mealLength, .range), (decide (1440 < c.dailyThreshold), .dailyThreshold, .range),
         (decide (10080 < c.weeklyThreshold), .weeklyThreshold, .range),
         (decide (c.overtimeRate < 100 ∨ 300 < c.overtimeRate), .overtimeRate, .range),
         (decide (100 < c.nightPremium), .nightPremium, .range),
         (decide (c.holidayRate < 100 ∨ 300 < c.holidayRate), .holidayRate, .range),
         (decide (1439 < c.nightStart), .nightStart, .range), (decide (1439 < c.nightEnd), .nightEnd, .range),
         (decide (c.autoClose < 60 ∨ 960 < c.autoClose), .autoClose, .range),
         (decide (240 < c.admitEarly), .admitEarly, .range), (decide (480 < c.admitLate), .admitLate, .range)]) ∧
    (∀ i : Fin 64, let p := b.patterns[i]
      checkRow b .patterns i.val = first
        [(decide (1439 < p.start), .start, .range), (decide (1440 < p.length), .length, .range)]) ∧
    (∀ i : Fin 128, let e := b.schedule[i]
      let anchored := decide (e.basis = .listed .anchored)
      let ring := decide (e.kind = .listed .ring)
      let barred := !decide (e.mode ∈ [.listed .secure, .listed .free, .listed .locked])
      checkRow b .schedule i.val = first
        [(!decide (e.kind ∈ [.listed .ring, .listed .laneMode]), .kind, .range),
         (!decide (e.basis ∈ [.listed .fixed, .listed .anchored]), .basis, .range),
         (decide (e.basis = .listed .fixed ∧ 86399 < e.second), .second, .range),
         (anchored && decide (63 < e.pattern), .pattern, .range),
         (anchored && decide (∀ h : e.pattern < 64, b.patterns[e.pattern].length = 0), .pattern, .unusedPattern),
         (anchored && !decide (e.anchor ∈ [.listed .start, .listed .finish]), .anchor, .range),
         (anchored && decide (e.offset < -120 ∨ 120 < e.offset), .offset, .range),
         (ring && decide (7 < e.tone), .tone, .toneIndex),
         (ring && decide (e.duration < 1 ∨ 120 < e.duration), .duration, .range),
         (decide (e.kind = .listed .laneMode) && barred, .mode, .range)]) ∧
    (∀ i : Fin 8, let p := b.tones[i]
      checkRow b .tones i.val = first
        [(decide (p.frequency ≠ 0 ∧ (p.frequency < 200 ∨ 2000 < p.frequency ∨ p.frequency % 10 ≠ 0)), .frequency, .range),
         (decide (p.onTime < 1 ∨ 250 < p.onTime), .onTime, .range), (decide (250 < p.offTime), .offTime, .range)]) ∧
    ∀ i : Fin 32,
      (b.holidays[i] = none → checkRow b .holidays i.val = none) ∧
      ∀ d, b.holidays[i] = some d → checkRow b .holidays i.val =
        if 65535 < d then some (.day, .range)
        else if ∃ j : Fin 32, j < i ∧ b.holidays[j] = some d then some (.day, .duplicateHoliday) else none

/-- BANK SWITCH (R172) in the order of its checks: a day or minute out of range; a timed switch without a clock; a standby that is
not READY; a timed switch not later than the current second; otherwise with a VALID clock the pending switch is set to the named
boundary, or for NEXT_MINUTE to the first minute boundary after the current second, replacing any before it. Without a clock a
NEXT_MINUTE switch is carried out at once, its entry unstamped; that the notices the Schedule Unit has yet to take keep the bank
active until then is the model's reading (log entry 46). -/
def Obligations.BankSwitchSetsTheTarget : Prop :=
  (∀ (s : State) (day minute : Nat), s.supply.state = .run →
    let order := Instr.bankSwitch (.named day minute)
    let target := day * 86400 + 60 * minute
    (65535 < day ∨ 1439 < minute → exec order s = .next (s.refuse order .outOfRange)) ∧
    (day ≤ 65535 → minute ≤ 1439 → s.now = none → exec order s = .next (s.refuse order .clockInvalid)) ∧
    ∀ now, day ≤ 65535 → minute ≤ 1439 → s.now = some now →
      (s.banks.standby ≠ .ready → exec order s = .next (s.refuse order .wrongState)) ∧
      (s.banks.standby = .ready → target ≤ now → exec order s = .next (s.refuse order .outOfRange)) ∧
      (s.banks.standby = .ready → now < target →
        exec order s = .next ((s.setBanks { s.banks with pending := some ⟨target, true⟩ }).answer order .ok
          (.switchTarget target)))) ∧
  ∀ s : State, s.supply.state = .run →
    let order := Instr.bankSwitch .nextMinute
    (s.banks.standby ≠ .ready → exec order s = .next (s.refuse order .wrongState)) ∧
    (∀ now, s.banks.standby = .ready → s.now = some now →
      ∃ target, now < target ∧ target % 60 = 0 ∧ target ≤ now + 60 ∧
        exec order s = .next ((s.setBanks { s.banks with pending := some ⟨target, false⟩ }).answer order .ok
          (.switchTarget target))) ∧
    (s.banks.standby = .ready → s.now = none →
      let generation := if s.banks.generation = 65535 then 0 else s.banks.generation + 1
      ∃ t, exec order s = .next (t.answer order .ok (.generation generation)) ∧
        unchangedBut [.banks, .spool, .link, .notices] s t ∧
        t.notices = { s.notices with
          oldBanks := s.notices.oldBanks ++
            List.replicate (s.notices.scheduleUnit.length - s.notices.oldBanks.length) s.activeBank } ∧
        t.banks = { s.banks with
          active := s.banks.active.other, standby := .stale, generation := generation, pending := none } ∧
        entered (.system none (.bankSwitch s.banks.active.other generation false)) s t)

/-! ## The spool -/

/-- SPOOL TAKE (R182) and SPOOL CLEAR (R183): a starting number of 0 or a count outside 1–12 is refused OUT_OF_RANGE, and a
number not held NOT_FOUND with the oldest held and the next sequence number; otherwise TAKE gives the entries from the number
onward, as many as the count allows, and the next sequence number, and changes nothing; CLEAR removes the entry and every older
one, keeps the later ones with their numbers and the next sequence number, and reports room (R184). -/
def Obligations.SpoolOrdersTakeAndClear : Prop :=
  (∀ (s : State) (start count : Nat), s.supply.state = .run →
    let order := Instr.spoolTake start count
    (start = 0 ∨ count < 1 ∨ 12 < count → exec order s = .next (s.refuse order .outOfRange)) ∧
    (start ≠ 0 → 1 ≤ count → count ≤ 12 → (∀ e ∈ s.spool.entries, e.seq ≠ start) →
      exec order s = .next (s.answer order .notFound (.spoolEnds (s.spool.entries.head?.map SpoolEntry.seq) s.spool.next))) ∧
    ∀ (older later : List SpoolEntry) (e : SpoolEntry), start ≠ 0 → 1 ≤ count → count ≤ 12 →
      s.spool.entries = older ++ e :: later → e.seq = start → (∀ x ∈ older, x.seq ≠ start) →
      exec order s = .next (s.answer order .ok
        (.spoolEntries ((e :: later).take count).length ((e :: later).take count) s.spool.next))) ∧
  ∀ (s : State) (through : Nat), s.supply.state = .run →
    let order := Instr.spoolClear through
    (through = 0 → exec order s = .next (s.refuse order .outOfRange)) ∧
    (through ≠ 0 → (∀ e ∈ s.spool.entries, e.seq ≠ through) →
      exec order s = .next (s.answer order .notFound (.spoolEnds (s.spool.entries.head?.map SpoolEntry.seq) s.spool.next))) ∧
    ∀ (older later : List SpoolEntry) (e : SpoolEntry), through ≠ 0 → s.spool.entries = older ++ e :: later →
      e.seq = through → (∀ x ∈ older, x.seq ≠ through) →
      exec order s = .next (((s.setSpool { s.spool with entries := later }).setRecords { s.records with
        roomReported := true }).answer order .ok
          (.spoolCleared (older.length + 1) later.length (later.head?.map SpoolEntry.seq)))

/-- The moving of waiting totals (R110): with every word of the roster sound, as many totals as the Spool has room for leave the
head of the closure queue, oldest first, each entering the spool as it was made, and the queue keeps the rest in order. That the
event moves them with no room report waiting as well is the model's choice (log entry 27). -/
def Obligations.WaitingTotalsMoveOldestFirst : Prop :=
  ∀ s : State, s.supply.state = .run → s.rosterForm → s.soundWords → s.emptyLaw → s.listLaw →
    s.spool.entries.length ≤ 4096 →
    let n := min s.records.closureQueue.length (4096 - s.spool.entries.length)
    ∃ t, exec .moveWaitingTotals s = .next t ∧ unchangedBut [.records, .roster, .spool] s t ∧
      t.records.closureQueue = s.records.closureQueue.drop n ∧ t.records.deadlines = s.records.deadlines ∧
      t.records.roomReported = false ∧
      (t.spool.entries.drop s.spool.entries.length).map SpoolEntry.entry =
        (s.records.closureQueue.take n).filterMap (fun a => match (s.slot a).record with
          | .closedWaiting _ _ total => some (.shiftTotal total)
          | _ => none) ∧
      t.spool.entries.take s.spool.entries.length = s.spool.entries ∧
      (∀ a ∈ s.records.closureQueue.take n, (t.slot a).record = .off ∧
        ((s.slot a).status = .withdrawn → (t.slot a).status = .free)) ∧
      ∀ a, a ∉ s.records.closureQueue.take n → t.slot a = s.slot a

/-! ## Pay and plant time -/

/-- The stages of the shift total (R115–R123, R125–R131): the effective times take the scheduled ones inside the grace windows and
where early or late work is not paid, and round otherwise; breaks count whole minutes, rounded up, to at most gross; the meal
deduction; weekly overtime is the lesser of the regular minutes and the excess of the week's base and them over the weekly
threshold, the base being the slot's week total in its own week and 0 otherwise; regular, daily and weekly overtime add up to
worked time, worked ≤ gross ≤ 1,440, night ≤ worked; the flags NEGATIVE and CAPPED say when gross is clamped; the pay value is the
rates' formula on the total's own figures; a shift of the slot's own or a later week is stored and never raises the week's regular
total above the weekly threshold. What a closure hands on (R106, R113): the class, the slot, the holiday flag of the anchor day in
the active bank, and its flags. Rounding lands on the unit's grid: NEAREST within half a unit, half rounding up, the same on both
sides; PLANT late in and early out; WORKER early in and late out. Past the last grid point of day 65,535 it is the next day's
first, the model's choice (log entry 34). -/
def Obligations.ShiftTotalKeepsItsLaws : Prop :=
  (∀ x : PayInput,
    let t := shiftTotal x
    let c := x.cls
    let d := x.data
    let week := x.data.anchorWeek
    let unpaid := t.breaks - c.paidBreak
    (d.flags.unscheduled = true → t.effIn = d.schedStart) ∧
    (d.flags.unscheduled = false →
      (d.inStamp + 60 * c.inEarly < d.schedStart → c.earlyPaid = false → t.effIn = d.schedStart) ∧
      (d.inStamp + 60 * c.inEarly < d.schedStart → c.earlyPaid = true → t.effIn = roundIn c d.inStamp) ∧
      (d.schedStart ≤ d.inStamp + 60 * c.inEarly → d.inStamp ≤ d.schedStart + 60 * c.inLate → t.effIn = d.schedStart) ∧
      (d.schedStart ≤ d.inStamp + 60 * c.inEarly → d.schedStart + 60 * c.inLate < d.inStamp →
        t.effIn = roundIn c d.inStamp)) ∧
    (x.outStamp + 60 * c.outEarly < d.schedEnd → t.effOut = roundOut c x.outStamp) ∧
    (d.schedEnd ≤ x.outStamp + 60 * c.outEarly → x.outStamp ≤ d.schedEnd + 60 * c.outLate → t.effOut = d.schedEnd) ∧
    (d.schedEnd ≤ x.outStamp + 60 * c.outEarly → d.schedEnd + 60 * c.outLate < x.outStamp →
      t.effOut = if c.latePaid = true then roundOut c x.outStamp else d.schedEnd) ∧
    t.breaks = min t.gross (d.breaks.map fun p => match p.back with
      | some back => (back - p.out + 59) / 60
      | none => 0).sum ∧
    t.unpaidBreak = unpaid ∧
    t.meal = (if 0 < c.mealThreshold ∧ c.mealThreshold ≤ t.gross then c.mealLength - unpaid else 0) ∧
    t.holiday = x.holiday ∧
    t.regular + t.dailyOver + t.weeklyOver = t.worked ∧ t.worked ≤ t.gross ∧ t.gross ≤ 1440 ∧ t.night ≤ t.worked ∧
    t.breaks ≤ t.gross ∧ t.worked = t.gross - unpaid - t.meal ∧ t.dailyOver = t.worked - c.dailyThreshold ∧
    t.weeklyOver = min (t.worked - t.dailyOver)
      ((if x.slotWeek = week then x.slotTotal else 0) + (t.worked - t.dailyOver) - c.weeklyThreshold) ∧
    (t.effOut < t.effIn → t.gross = 0 ∧ t.flags.negative = true ∧ t.flags.capped = false) ∧
    (t.effIn ≤ t.effOut → t.gross = min 1440 ((t.effOut - t.effIn) / 60) ∧ t.flags.negative = false ∧
      (t.flags.capped = true ↔ 1440 < (t.effOut - t.effIn) / 60)) ∧
    t.pay =
      (if t.holiday = true then
        t.regular * c.holidayRate + (t.dailyOver + t.weeklyOver) * max c.overtimeRate c.holidayRate + t.night * c.nightPremium
      else t.regular * 100 + (t.dailyOver + t.weeklyOver) * c.overtimeRate + t.night * c.nightPremium) ∧
    (x.slotWeek < week → weekAfter x = (week, t.regular) ∧ t.regular ≤ c.weeklyThreshold) ∧
    (x.slotWeek = week → weekAfter x = (week, x.slotTotal + t.regular) ∧
      x.slotTotal + t.regular ≤ max x.slotTotal c.weeklyThreshold) ∧
    (week < x.slotWeek → weekAfter x = (x.slotWeek, x.slotTotal) ∧ t.regular ≤ c.weeklyThreshold) ∧
    (0 < c.unit → x.data.schedStart % 60 = 0 → x.data.schedEnd % 60 = 0 → t.effIn % 60 = 0 ∧ t.effOut % 60 = 0)) ∧
  (∀ (s : State) (a : Nat) (d : RecordData) (out : Stamp) (cause : ClosureCause),
    let x := s.closureInput a d out cause
    let f := x.data.flags
    x.cls = s.activeBank.payClass (s.slot a).payClass ∧ x.slot = a ∧ x.badge = (s.slot a).badge.getD 0 ∧
      x.outStamp = out ∧ x.generation = s.banks.generation ∧ x.slotWeek = (s.slot a).weekIndex ∧
      x.slotTotal = (s.slot a).weekTotal ∧
      (x.holiday = true ↔ ∃ i : Fin 32, s.activeBank.holidays[i] = some d.anchorDay) ∧
      x.data = { d with flags := f, breaks := x.data.breaks } ∧
      (∀ pairs o, d.breaks = pairs ++ [⟨o, none⟩] → x.data.breaks = pairs ++ [⟨o, some out⟩] ∧ f.breakOpen = true) ∧
      ((∀ p ∈ d.breaks.getLast?, p.back.isSome = true) → x.data.breaks = d.breaks ∧ f.breakOpen = d.flags.breakOpen) ∧
      (f.missingOut = true ↔ d.flags.missingOut = true ∨ cause = .expiry) ∧
      (f.withdrawn = true ↔ d.flags.withdrawn = true ∨ cause = .forced) ∧
      (f.clockStepped = true ↔ d.flags.clockStepped = true ∨ d.stepCount ≠ s.time.stepCount) ∧
      (f.hold = true ↔ d.flags.hold = true ∨ d.holdCount ≠ s.time.holdCount) ∧
      (f.rulesChanged = true ↔ d.flags.rulesChanged = true ∨ d.generation ≠ s.banks.generation) ∧
      f.offWindow = d.flags.offWindow ∧ f.unscheduled = d.flags.unscheduled) ∧
  ∀ (c : PayClass) (i : Stamp), 0 < c.unit →
    let u := 60 * c.unit
    (c.rounding = .listed .nearest →
      roundIn c i % u = 0 ∧ roundOut c i = roundIn c i ∧ roundIn c i ≤ i + u / 2 ∧ i < roundIn c i + (u + 1) / 2) ∧
    (c.rounding = .listed .plant →
      roundIn c i % u = 0 ∧ i ≤ roundIn c i ∧ roundIn c i < i + u ∧
        roundOut c i % u = 0 ∧ roundOut c i ≤ i ∧ i < roundOut c i + u) ∧
    (c.rounding = .listed .worker →
      roundOut c i % u = 0 ∧ i ≤ roundOut c i ∧ roundOut c i < i + u ∧
        roundIn c i % u = 0 ∧ roundIn c i ≤ i ∧ i < roundIn c i + u)

/-- The night band and the night overlap (R124): the band of a class lies within one day, crosses midnight, or is none; the night
overlap is the number of whole minutes of plant time from the effective in up to but not including the effective out whose
minute of day lies in the band, on every day the span touches and 0 where the out is not later than the in; and the night
minutes of a total are the lesser of the overlap and worked time, so that NM ≤ worked. -/
def Obligations.NightOverlapCountsTheMinutes : Prop :=
  (∀ first last m : Nat,
    (first < last → (inNightBand first last m = true ↔ first ≤ m ∧ m < last)) ∧
    (last < first → (inNightBand first last m = true ↔ first ≤ m ∨ m < last)) ∧
    (first = last → inNightBand first last m = false)) ∧
  (∀ (c : PayClass) (effIn effOut : Stamp),
    nightOverlap c effIn effOut =
      ((List.range (effOut / 60 - effIn / 60)).filter fun k =>
        inNightBand c.nightStart c.nightEnd ((effIn / 60 + k) % 1440)).length ∧
    (effOut ≤ effIn → nightOverlap c effIn effOut = 0)) ∧
  ∀ x : PayInput, (shiftTotal x).night =
    min (nightOverlap x.cls (shiftTotal x).effIn (shiftTotal x).effOut) (shiftTotal x).worked

/-- The scheduled start a stamp is anchored to (R96): of the pattern's starts on the day before, the day and the day after,
within days 0–65,535 and of a type the pattern's mask names, the one nearest the stamp, the earlier of two at one distance. An
unused pattern, and one with no such start, has none (R97). -/
def Obligations.AnchorIsTheNearestKeptStart : Prop :=
  ∀ (b : Bank) (offset : Nat) (p : ShiftPattern) (i : Stamp),
    let kept (t : Stamp) := ∃ k, k ≤ 65535 ∧ (k + 1 = i / 86400 ∨ k = i / 86400 ∨ k = i / 86400 + 1) ∧
      inSet p.mask (dayType b offset k) = true ∧ t = 86400 * k + 60 * p.start
    (p.length = 0 → nearestStart b offset p i = none) ∧
    (p.length ≠ 0 → (nearestStart b offset p i = none ↔ ∀ t, ¬ kept t)) ∧
    ∀ s, nearestStart b offset p i = some s →
      kept s ∧ ∀ t, kept t → stampDistance s i ≤ stampDistance t i ∧ (stampDistance s i = stampDistance t i → s ≤ t)

/-! ## Layouts -/

/-- A plant link frame whose fields fit their bytes is received as it was made (R187; 11, Layouts), and with any one byte after
its length changed it is a bad frame: the CRC-16 finds every such change. The CRC's bit order is the model's (log entry 4). -/
def Obligations.FramesReadBackAndChangesAreFound : Prop :=
  ∀ f : Frame, f.payload.length ≤ 1024 → f.station < 256 → f.code < 256 → f.tag < 65536 →
    receive [] f.bytes = ([], [.good f]) ∧ f.bytes.length = f.payload.length + 9 ∧
      ∀ (i : Nat) (b : Byte) (h : i < f.bytes.length), 3 ≤ i → f.bytes[i] ≠ b →
        receive [] (f.bytes.set i b) = ([], [.bad])

/-- A head's characters read back as the IDLE or the PUNCH they spell, and with any one of them changed they are garbled; a
VERDICT's characters sum to 00h and differ for different verdicts; a SHIFT_TOTAL entry has 71 bytes with each figure at its
offset; twelve of them make a SPOOL TAKE reply of 858 bytes, and no twelve entries of any kinds a longer one (R38, R43, R182; 11,
Layouts; the bytes of the other kinds of entry are the manual's nowhere, log entry 2). -/
def Obligations.LayoutsReadBack : Prop :=
  readAnswer idleBytes = .idle ∧
  (∀ (badge : BitVec 32) (intent : Intent), readAnswer (punchBytes badge intent) = .punch badge intent) ∧
  (∀ (l : List Byte) (i : Nat) (b : Byte) (h : i < l.length), readAnswer l ≠ .garbled → l[i] ≠ b →
    readAnswer (l.set i b) = .garbled) ∧
  (∀ v : Verdict, byteSum v.bytes = 0) ∧ (∀ v w : Verdict, v.bytes = w.bytes → v = w) ∧
  (∀ (seq : Nat) (t : ShiftTotal),
    let bytes := shiftTotalBytes seq t
    let field (offset size : Nat) := fromBytes ((bytes.drop offset).take size)
    let stamp (offset : Nat) (x : Stamp) := x < 65536 * 86400 → field offset 2 = x / 86400 ∧ field (offset + 2) 3 = x % 86400
    bytes.length = 71 ∧ field 0 4 = seq % 4294967296 ∧ field 4 1 = 1 ∧ field 5 4 = t.badge % 4294967296 ∧
    field 9 2 = t.slot % 65536 ∧ field 11 1 = t.payClass % 256 ∧ field 12 1 = t.pattern % 256 ∧
    field 13 2 = t.generation % 65536 ∧ stamp 15 t.schedStart ∧ stamp 20 t.schedEnd ∧ stamp 25 t.inStamp ∧
    stamp 30 t.outStamp ∧ stamp 35 t.effIn ∧ stamp 40 t.effOut ∧
    field 45 2 = t.anchorWeek % 65536 ∧ field 47 2 = t.gross % 65536 ∧ field 49 2 = t.breaks % 65536 ∧
    field 51 2 = t.unpaidBreak % 65536 ∧ field 53 1 = t.meal % 256 ∧ field 54 2 = t.worked % 65536 ∧
    field 56 2 = t.regular % 65536 ∧ field 58 2 = t.dailyOver % 65536 ∧ field 60 2 = t.weeklyOver % 65536 ∧
    field 62 2 = t.night % 65536 ∧ field 64 1 = t.holiday.toNat ∧ field 65 4 = t.pay % 4294967296 ∧
    field 69 2 = t.flags.bits.toNat) ∧
  (∀ (next : Nat) (l : List (Nat × ShiftTotal)), l.length = 12 →
    (Reply.payload ⟨.ok, .spoolEntries 12 (l.map fun x => ⟨x.1, .shiftTotal x.2⟩) next⟩).length = 858) ∧
  ∀ (next : Nat) (l : List SpoolEntry), l.length ≤ 12 →
    (Reply.payload ⟨.ok, .spoolEntries l.length l next⟩).length ≤ 858

/-! ## The plant link -/

/-- Receipt, sending and silence (R187, R189, R190). Bytes go to the frame in progress, or, with none, are discarded until a start
mark; a frame they end is taken in its turn: a bad one raises the link error count alone, a good one makes the part ONLINE, sets
the silence timer, and joins the receive buffer where fewer than two wait, or else is counted. A frame in progress that has
stopped for more than 50 ms, or has a length above 1,024, is bad, and the receiver looks for the next start mark; how the bytes'
arrival and the table's own rows for these two share the work is the model's (log entry 28): with no frame in progress
RECEIVE_TIMEOUT, and a FRAME_LENGTH_BAD that names a length up to 1,024, change nothing. The oldest frame of the transmit queue is
sent first, a RESTART's reply making its restart due. At the silence timer's expiry the part is OFFLINE, the reports waiting are
gone and the replies stay; that a report counts as waiting until FRAME_SENT takes it is the model's choice (log entry 45). -/
def Obligations.LinkReceivesSendsAndFallsSilent : Prop :=
  (∀ (s : State) (bytes : List Byte), s.supply.state = .run →
    let counted (x : Link) : Link := { x with errors := min 65535 (x.errors + 1) }
    let takes (x : Link) : Receipt → Link
      | .bad => counted x
      | .good f =>
        let y : Link := { x with
          online := true, silence := some (s.time.elapsed + 1000 * s.setup.general.offlineTimeout) }
        if x.received.length < 2 then { y with received := x.received ++ [f] } else counted y
    let given (x : Link) : State :=
      let r := receive x.inProgress bytes
      s.setLink { r.2.foldl takes x with
        inProgress := r.1, stall := if r.1 = [] then none else some (s.time.elapsed + 51) }
    let stopped : Link := counted { s.link with inProgress := [], stall := none }
    (bytes = [] → exec (.frameReceipt bytes) s = .next s) ∧
    (bytes ≠ [] → (∀ t ∈ s.link.stall, s.time.elapsed < t) → exec (.frameReceipt bytes) s = .next (given s.link)) ∧
    (∀ t, bytes ≠ [] → s.link.stall = some t → t ≤ s.time.elapsed →
      exec (.frameReceipt bytes) s = .next (given stopped)) ∧
    (s.link.stall = none → exec .receiveTimeout s = .next s) ∧
    (∀ t, s.link.stall = some t → t ≤ s.time.elapsed → exec .receiveTimeout s = .next (s.setLink stopped)) ∧
    (∀ n, 1024 < n → exec (.frameLengthBad n) s = .next (s.setLink stopped)) ∧
    ∀ n, n ≤ 1024 → exec (.frameLengthBad n) s = .next s) ∧
  ((∀ held first more : List Byte,
      receive held (first ++ more) = ((receive (receive held first).1 more).1,
        (receive held first).2 ++ (receive (receive held first).1 more).2)) ∧
    (∀ junk : List Byte, (∀ b ∈ junk, b ≠ 0x7E) → receive [] junk = ([], [])) ∧
    (∀ high low : Byte, 1024 < 256 * high.toNat + low.toNat → receive [] [0x7E, high, low] = ([], [.bad])) ∧
    ∀ (f : Frame) (n : Nat), f.payload.length ≤ 1024 → n < f.bytes.length →
      receive [] (f.bytes.take n) = (f.bytes.take n, [])) ∧
  (∀ (s : State) (x : TxFrame) (rest : List TxFrame), s.supply.state = .run → s.link.transmit = x :: rest →
    exec .frameSent s = .next (s.setLink { s.link with
      transmit := rest, lastSent := some x
      restart := if x.isReply = true ∧ s.link.restart = .replying then .due else s.link.restart })) ∧
  ∀ (s : State) (t : Elapsed), s.supply.state = .run → s.link.silence = some t → t ≤ s.time.elapsed →
    exec .silenceTimeout s = .next (s.setLink { s.link with
      online := false, silence := none, transmit := s.link.transmit.filter TxFrame.isReply })

/-- Dispatch (R188): the oldest frame leaves the receive buffer, and the first of the checks that fails queues its reply: a
station id that a table with entries does not hold, a code that names no order, a class below the order's, a payload that does
not fit, a payload that is not empty for an order that carries no fields among them (R15, R29, R164, R171, R192, R193); the
table being EMPTY, any station is OPERATOR. An order that passes is handed to its owner. While an order is in hand, a reply
waits to be sent, or a restart is outstanding, nothing is dispatched. Which order a code and a payload with fields spell is not
the manual's (log entry 2). -/
def Obligations.DispatchChecksTheOldestFrame : Prop :=
  (∀ (s : State) (f : Frame) (rest : List Frame), s.supply.state = .run → s.link.received = f :: rest →
    let replied (code : ReplyCode) := s.setLink { s.link with
      received := rest, transmit := s.link.transmit ++ [.reply f.ref ⟨code, .none⟩], lastReply := some ⟨code, .none⟩ }
    let taken (order : Instr) := s.setLink { s.link with received := rest, handed := some ⟨f.ref, order⟩ }
    let bare (name : OrderName) : Option Instr := ([(.clockRead, .clockRead), (.presenceClear, .presenceClear),
      (.egressEnd, .egressEnd), (.loadEnd, .loadEnd), (.status, .status), (.restart, .restart)].find?
        fun x : OrderName × Instr => decide (x.1 = name)).map Prod.snd
    let ready := s.link.handed = none ∧ (∀ x ∈ s.link.transmit, x.isReply = false) ∧ s.link.restart = .none
    (¬ ready → exec .frameDispatch s = .next s) ∧
    (ready → s.stationClass f.station = none → exec .frameDispatch s = .next (replied .unknownStation)) ∧
    (∀ cls, ready → s.stationClass f.station = some cls → (f.code = 0 ∨ 0x6F < f.code) →
      exec .frameDispatch s = .next (replied .badOrder)) ∧
    ∀ cls, ready → s.stationClass f.station = some cls → 1 ≤ f.code → f.code ≤ 0x6F →
      exec .frameDispatch s = .next
        (match Config.orderOfCode f.code with
        | none => replied .badOrder
        | some name =>
          if classRank cls < classRank (minimumClass name) then replied .notPermitted
          else match bare name with
            | some order => if f.payload = [] then taken order else replied .badOrder
            | none => match Config.orderOfPayload name f.payload with
              | none => replied .badOrder
              | some order => if orderName order = some name then taken order else replied .badOrder)) ∧
  ∀ (s : State) (id : Nat),
    ((∀ k : Fin 4, s.setup.stations[k] = none) → s.stationClass id = some .operator) ∧
    ((∃ k : Fin 4, s.setup.stations[k] ≠ none) →
      (s.stationClass id = none ↔ ∀ (k : Fin 4) (x : Station), s.setup.stations[k] = some x → x.id ≠ id)) ∧
    ∀ cls, (∃ k : Fin 4, s.setup.stations[k] ≠ none) → s.stationClass id = some cls →
      ∃ k : Fin 4, s.setup.stations[k] = some ⟨id, cls⟩

/-- RESTART (R193) queues its reply OK and waits for it to be sent; an order that came in no frame has none to send, and its
restart is due at once (log entry 7). One taken while an earlier restart has not yet reached the blocks is a further restart,
which they take after it. The warm restart voids every grant and wait and applies every pending setup, so that every lane is
IDLE with count 0, held state NORMAL and no allowance, its door status taken from its debounced level (R92); the gate line
starts again with every head ACTIVE and no verdict queued (R41); every ring ends, the EVACUATION ring starting again on the kept
set, its kept tone copied afresh from the active bank, while an evacuation continues (R147, R163; log entry 42); the
changes the Input Sampler has delivered stay as they are where no setup is pending, which is the model's choice (log entry 47);
and the reset cause is WARM. It does not begin while the reply is unsent. -/
def Obligations.RestartsAreTaken : Prop :=
  (∀ (s : State) (ref : OrderRef), s.supply.state = .run → s.link.handed = some ⟨ref, .restart⟩ →
    exec .restart s = .next (s.setLink { s.link with
      handed := none, transmit := s.link.transmit ++ [.reply ref ⟨.ok, .none⟩], lastReply := some ⟨.ok, .none⟩
      restart := .replying, again := if s.link.restart = .none then s.link.again else s.link.again + 1 })) ∧
  (∀ s : State, s.supply.state = .run → s.link.handed = none →
    exec .restart s = .next (s.setLink { s.link with
      lastReply := some ⟨.ok, .none⟩, restart := if s.link.restart = .replying then .replying else .due
      again := if s.link.restart = .none then s.link.again else s.link.again + 1 })) ∧
  (∀ s : State, s.supply.state = .run → s.link.restart = .replying → exec .warmRestart s = .next s) ∧
  ∀ s : State, s.supply.state = .run → s.link.restart ≠ .replying → s.laneLaw →
    ∃ t, exec .warmRestart s = .next t ∧ unchangedBut ([.supply, .bells] ++ grantBlocks) s t ∧
      t.supply = { s.supply with resetCause := .warm } ∧
      t.link.restart = (if s.link.again = 0 then .none else .due) ∧ t.link.again = s.link.again - 1 ∧
      t.link.online = s.link.online ∧
      t.link.silence = s.link.silence ∧ t.link.received = s.link.received ∧
      (∀ l : LaneId, (t.lane l).activity = .idle ∧ (t.lane l).grant = none ∧ (t.lane l).pendingSetup = none ∧
        (t.lane l).encoder = 0 ∧ (t.lane l).held = false ∧ (t.lane l).exitAllowance = none ∧
        t.punch.waits[l] = none ∧ t.handedAt l = none ∧
        ((s.lane l).pendingSetup = none → (t.lane l).setup = (s.lane l).setup ∧
          (t.lane l).lastClosing = (s.lane l).lastClosing) ∧
        ∀ v, (t.lane l).setup.kind = .door → s.inputs.doors[l].level = some v →
          (t.lane l).doorOpen = v ∧
          (t.lane l).heldTimer = if v = true then some (s.time.elapsed + 1000 * (t.lane l).setup.heldLimit) else none) ∧
      (∀ h, t.headAt h = ⟨false, 0⟩) ∧ t.punch.position = none ∧ t.punch.outstanding = none ∧ t.punch.verdicts = [] ∧
      t.inputs.evacuating = s.inputs.evacuating ∧ t.bells.evacSet = s.bells.evacSet ∧
      ((∀ l : LaneId, (s.lane l).pendingSetup = none) → t.inputs.deliveries = s.inputs.deliveries) ∧
      (s.inputs.evacuating = false → ∀ b : BellId, t.bells.rings[b] = none ∧ t.bells.requested[b] = .off) ∧
      ∀ e, s.inputs.evacuating = true → s.bells.evacSet = some e → ∀ b : BellId,
        t.bells.rings[b] = if inSet e.outputs b.val = true
          then some (evacRingOf (s.activeBank.tone e.tone) s.time.elapsed) else none

/-! ## Supply -/

/-- The main supply fails (R194): with the backup present the part enters HOLD, the hold count advanced and the hold-begin stamp
noted, HOLD_BEGIN requested, the plant link stopped and OFFLINE, every grant, wait and ring ended, sampling and the gate line
stopped, and every release output at its fail state (R9, R41, R93, R147, R155, R160). That changes delivered and an order or a
restart in hand are dropped there is the model's reading (log entry 18), and that the frame being sent goes with its queue its
choice (log entry 45); a boundary the Schedule Unit has not yet taken counts as
held, so that no entry due before the return fires after it (R151; log entry 10). Both supplies lost leave nothing, and the next
start is a power-on (R196; the dark state is the model's, log entry 12); a SUPPLY_HOLD outside RUN changes nothing (log entry 11);
the backup lost alone leaves RUN. -/
def Obligations.SupplyLossesStopThePart : Prop :=
  (∀ s : State, s.supply.state = .run → s.supply.backup = true → s.laneLaw → s.soundWords →
    let count := if s.time.holdCount = 65535 then 0 else s.time.holdCount + 1
    ∃ t, exec .supplyHold s = .next t ∧
      unchangedBut [.time, .roster, .punch, .lanes, .bells, .inputs, .spool, .link, .supply, .notices] s t ∧
      t.supply = { s.supply with state := .hold } ∧ t.time = { s.time with holdCount := count, holdBegin := s.now } ∧
      t.link = { s.link with
        inProgress := [], stall := none, received := [], transmit := [], handed := none, online := false, silence := none
        restart := .none, again := 0 } ∧
      t.notices = { s.notices with scheduleUnit := s.notices.scheduleUnit.map fun x => match x with
        | .boundary b => .resumption (b - 1) b
        | .step o b => .step o b
        | .resumption o b => .resumption o b } ∧
      t.spool = (s.requestEntry (.system s.now (.holdBegin count))).spool ∧
      (∀ l : LaneId, (t.lane l).activity = .idle ∧ (t.lane l).grant = none ∧ (t.lane l).pendingSetup = none ∧
        (t.lane l).held = false ∧ (t.lane l).heldTimer = none ∧ (t.lane l).exitAllowance = none ∧
        t.punch.waits[l] = none ∧ t.handedAt l = none ∧
        t.inputs.drivenRelease[l] = decide ((t.lane l).setup.fail = .failSafe)) ∧
      ((∀ l : LaneId, (s.lane l).pendingSetup = none) → ∀ l : LaneId,
        (t.lane l).setup = (s.lane l).setup ∧ (t.lane l).mode = (s.lane l).mode ∧ (t.lane l).doorOpen = (s.lane l).doorOpen ∧
          (t.lane l).lastClosing = (s.lane l).lastClosing) ∧
      t.punch.outstanding = none ∧ t.punch.verdicts = [] ∧ t.bells.evacSet = none ∧
      (∀ b : BellId, t.bells.rings[b] = none ∧ t.bells.requested[b] = .off ∧ t.inputs.drivenBell[b] = .off) ∧
      t.inputs.evacuating = s.inputs.evacuating ∧ t.inputs.captures = s.inputs.captures ∧ t.inputs.deliveries = [] ∧
      (∀ i : Fin 16, t.inputs.general[i].level = none) ∧
      ∀ l : LaneId, t.inputs.doors[l].level = none ∧ t.inputs.exits[l].level = none ∧
        t.inputs.encodersA[l].level = none ∧ t.inputs.encodersB[l].level = none) ∧
  ∀ s : State,
    let dark := (State.reset.setSupply { State.reset.supply with state := .dark, backup := false }).setPending s.pending
    let started := State.reset.setPending s.pending
    (s.supply.state = .run → s.supply.backup = false → exec .supplyHold s = .next dark) ∧
    (s.supply.state ≠ .run → exec .supplyHold s = .next s) ∧
    (s.supply.state = .run → exec .backupLoss s = .next (s.setSupply { s.supply with backup := false })) ∧
    (s.supply.state = .hold → exec .backupLoss s = .next dark) ∧
    (s.supply.state = .dark → exec .backupLoss s = .next s ∧ exec .supplyReturn s = .next started) ∧
    exec .powerOn s = .next started

/-- The main supply returns from HOLD (R195): RUN with cause SUPPLY_RETURN and HOLD_END requested; a clock that ran off its range
in the hold is reported lost; a resumption notice of the held span goes to the three receiving blocks where the clock was VALID at
hold entry (R9); an evacuation in progress ends with EVAC_END, each lane taking its remembered mode, FREE being SECURE at a member
of an interlock pair, a lane that remembers none keeping its mode, and the presence epoch advancing (R91, R165); every watch is
UNEQUAL, every encoder count 0, and the gate line starts again (R41, R93, R157). The order of the three entries, and a HOLD_END
without a stamp where the clock is INVALID, are the model's reading (log entry 18), and the moments the next samples count from
its choice (log entry 21). -/
def Obligations.SupplyReturnResumesThePart : Prop :=
  ∀ s : State, s.supply.state = .hold → s.levelLaw → s.modeLaw → (∀ l : LaneId, (s.lane l).grant = none) →
    let ended := s.requestEntry (.system s.now (.holdEnd s.time.holdBegin))
    let lost := if s.time.lostInHold = true then ended.requestEntry (.system none .clockLost) else ended
    let last := if s.inputs.evacuating = true then lost.requestEntry (.system s.now (.evacEnd .supplyReturn)) else lost
    ∃ t, exec .supplyReturn s = .next t ∧
      unchangedBut [.time, .roster, .lanes, .punch, .inputs, .spool, .link, .supply, .notices] s t ∧
      t.supply = { s.supply with state := .run, resetCause := .supplyReturn, returnedAt := some s.time.elapsed } ∧
      t.time = { s.time with lostInHold := false } ∧ t.spool = last.spool ∧ t.link = last.link ∧
      (s.time.holdBegin = none → t.notices = s.notices) ∧
      (∀ h, s.time.holdBegin = some h →
        let given := Notice.resumption h (s.time.day * 86400 + s.time.second)
        t.notices = { s.notices with
          recordUnit := s.notices.recordUnit ++ [given], scheduleUnit := s.notices.scheduleUnit ++ [given]
          bankStore := s.notices.bankStore ++ [given] }) ∧
      t.inputs.evacuating = false ∧
      (s.inputs.evacuating = false → t.roster = s.roster ∧ ∀ l : LaneId, t.lane l = { s.lane l with encoder := 0 }) ∧
      (s.inputs.evacuating = true → t.inputs.startingWatch = none ∧
        t.roster.epoch = (if s.roster.epoch = 65535 then 1 else s.roster.epoch + 1) ∧
        ∀ l : LaneId, (t.lane l).remembered = none ∧ (t.lane l).mode ≠ .egress ∧ (t.lane l).encoder = 0 ∧
          ((s.lane l).remembered = none → t.lane l = { s.lane l with encoder := 0 }) ∧
          ∀ m, (s.lane l).remembered = some m →
            let mode := (if m = .free ∧ s.inPair l = true then AskMode.secure else m).toLaneMode
            t.lane l = { s.lane l with
              encoder := 0, remembered := none, mode := mode, requested := decide (mode = .free)
              heldTimer := if (s.lane l).doorOpen = true ∧ mode ≠ .free
                then some (s.time.elapsed + 1000 * (s.lane l).setup.heldLimit) else (s.lane l).heldTimer }) ∧
      (∀ k : WatchId, t.inputs.equal[k] = false) ∧ t.inputs.general = s.inputs.general ∧ t.inputs.doors = s.inputs.doors ∧
      t.inputs.nextGeneral = s.time.elapsed + s.setup.general.generalDebounce.period ∧
      t.inputs.nextContacts = s.time.elapsed + s.setup.general.contactDebounce.period ∧
      t.inputs.nextEncoders = s.time.elapsed + s.setup.general.encoderDebounce.period ∧
      (∀ h, t.headAt h = ⟨false, 0⟩) ∧ t.punch.position = none ∧ t.punch.outstanding = none ∧ t.punch.verdicts = [] ∧
      ∀ l : LaneId, t.inputs.drivenRelease[l] = t.driveRelease l

/-! ## The setup record and the reading orders -/

/-- SETUP WRITE of the general part, the bells part and the station table (R191, R139, R154): every number is brought to the
nearer end of its range, a sample period to the next of 1, 2, 5 and 10 ms, with OK_CLAMPED where one changes; an unlisted kind
or class and a station id given twice are refused BAD_ORDER with nothing written; a changed offline timeout restarts the running
silence timer, and a changed debounce setting sets its group's run counts to 0 and leaves the moment of the group's next sample,
at which it takes effect; rings go on, a continuous one taking its output's new kind at once (R140). That a stopped silence
timer stays stopped is inferred (log entry 24); that a station id is judged for doubling as brought within range (log entry 23),
and that a plain OK carries the values too (log entry 51), are the model's choice. -/
def Obligations.SetupWriteWritesThePart : Prop :=
  (∀ (s : State) (g : GeneralSetup), s.supply.state = .run →
    let order := Instr.setupWrite (.general g)
    let old := s.setup.general
    let brought (d e : DebounceSetting) := e.count = max 2 (min 15 d.count) ∧ e.period ∈ [1, 2, 5, 10] ∧
      (10 < d.period → e.period = 10) ∧
      (d.period ≤ 10 → d.period ≤ e.period ∧ ∀ p ∈ [1, 2, 5, 10], d.period ≤ p → e.period ≤ p)
    ∃ g' t, exec order s = .next (t.answer order (if g' = g then .ok else .okClamped) (.setup false (.general g'))) ∧
      unchangedBut [.setup, .inputs, .link] s t ∧ t.setup = { s.setup with general := g' } ∧
      g'.repeatGuard = min 60 g.repeatGuard ∧ g'.referralTimeout = max 1 (min 10 g.referralTimeout) ∧
      g'.offlineTimeout = max 5 (min 255 g.offlineTimeout) ∧ g'.weekStart = min 10079 g.weekStart ∧
      brought g.generalDebounce g'.generalDebounce ∧ brought g.contactDebounce g'.contactDebounce ∧
      brought g.encoderDebounce g'.encoderDebounce ∧
      t.link = { s.link with
        silence := if old.offlineTimeout = g'.offlineTimeout then s.link.silence
          else s.link.silence.map fun _ => s.time.elapsed + 1000 * g'.offlineTimeout } ∧
      t.inputs = { s.inputs with
        general := t.inputs.general, doors := t.inputs.doors, exits := t.inputs.exits
        encodersA := t.inputs.encodersA, encodersB := t.inputs.encodersB } ∧
      (∀ i : Fin 16, t.inputs.general[i] =
        if old.generalDebounce = g'.generalDebounce then s.inputs.general[i] else { s.inputs.general[i] with run := 0 }) ∧
      ∀ l : LaneId,
        (t.inputs.doors[l] =
          if old.contactDebounce = g'.contactDebounce then s.inputs.doors[l] else { s.inputs.doors[l] with run := 0 }) ∧
        (t.inputs.exits[l] =
          if old.contactDebounce = g'.contactDebounce then s.inputs.exits[l] else { s.inputs.exits[l] with run := 0 }) ∧
        (t.inputs.encodersA[l] =
          if old.encoderDebounce = g'.encoderDebounce then s.inputs.encodersA[l]
          else { s.inputs.encodersA[l] with run := 0 }) ∧
        t.inputs.encodersB[l] =
          if old.encoderDebounce = g'.encoderDebounce then s.inputs.encodersB[l]
          else { s.inputs.encodersB[l] with run := 0 }) ∧
  (∀ (s : State) (b : BellSetupRequest), s.supply.state = .run → b.kinds.length = 8 →
    let order := Instr.setupWrite (.bells b)
    (∀ code, Choice.unlisted code ∈ b.kinds → exec order s = .next (s.refuse order .badOrder)) ∧
    ((∀ k ∈ b.kinds, k = .listed .relay ∨ k = .listed .tone) →
      ∃ x t, exec order s = .next (t.answer order (if 7 < b.evacTone then .okClamped else .ok) (.setup false (.bells x))) ∧
        unchangedBut ([.setup, .bells] ++ grantBlocks) s t ∧ t.setup = { s.setup with bells := x } ∧
        x.evacOutputs = b.evacOutputs ∧ x.evacTone = min 7 b.evacTone ∧
        (∀ o : BellId, inSet x.toneOutputs o.val = true ↔ b.kinds[o.val]? = some (.listed .tone)) ∧
        t.bells.rings = s.bells.rings ∧ t.bells.evacSet = s.bells.evacSet ∧
        ∀ o : BellId,
          (s.bells.rings[o] = none → t.bells.requested[o] = s.bells.requested[o]) ∧
          ∀ r, s.bells.rings[o] = some r →
            (r.offTime ≠ 0 → t.bells.requested[o] = s.bells.requested[o]) ∧
            (r.offTime = 0 → r.onPhase = true → t.bells.requested[o] =
              if inSet x.toneOutputs o.val = true ∧ r.frequency ≠ 0 then .tone r.frequency else .steady))) ∧
  ∀ (s : State) (a b c d : Option (Nat × Choice StationClass)), s.supply.state = .run →
    let entries := [a, b, c, d]
    let order := Instr.setupWrite (.stations entries)
    let written (e : Option (Nat × Choice StationClass)) : Option Station :=
      match e with
      | some (id, .listed cls) => if id = 0 then none else some ⟨min 255 id, cls⟩
      | some (_, .unlisted _) => none
      | none => none
    let isBrought (e : Option (Nat × Choice StationClass)) : Bool :=
      match e with
      | some (id, _) => decide (id = 0) || decide (255 < id)
      | none => false
    let ids := (entries.filterMap written).map Station.id
    (∀ id code, some (id, .unlisted code) ∈ entries → exec order s = .next (s.refuse order .badOrder)) ∧
    ((∀ id code, some (id, .unlisted code) ∉ entries) → ¬ ids.Nodup →
      exec order s = .next (s.refuse order .badOrder)) ∧
    ((∀ id code, some (id, .unlisted code) ∉ entries) → ids.Nodup →
      exec order s = .next ((s.setSetup { s.setup with stations := #v[written a, written b, written c, written d] }).answer
        order (if entries.any isBrought = true then .okClamped else .ok)
        (.setup false (.stations #v[written a, written b, written c, written d]))))

/-- SETUP WRITE of a lane and of a watch (R64–R66, R156, R157). A lane's setup with its numbers clamped and a partner above 7 or
the lane itself taken as none is applied at once to an IDLE lane, and otherwise kept as its pending setup with the setup in
force unchanged; a lane whose kind changes has count 0, no alarm and no allowance. A watch is written UNEQUAL and evaluated at
once: a CHANGE watch does not fire; a live MATCH watch that matches is EQUAL and fires. An unlisted field is refused BAD_ORDER,
and after it an index beyond the lanes or watches OUT_OF_RANGE, which is inferred (log entry 23). What the reply carries is,
beside R191's values as written for OK_CLAMPED, the model's choice (log entry 51). -/
def Obligations.SetupWriteAppliesLanesAndWatches : Prop :=
  (∀ (s : State) (index : Nat) (r : LaneSetupRequest), s.supply.state = .run →
    let order := Instr.setupWrite (.lane index r)
    let listed := r.kind.isListed = true ∧ r.releaseMode.isListed = true ∧ r.passback.isListed = true ∧
      r.miss.isListed = true ∧ r.fail.isListed = true
    (¬ listed → exec order s = .next (s.refuse order .badOrder)) ∧
    (listed → 7 < index → exec order s = .next (s.refuse order .outOfRange)) ∧
    ∀ (l : LaneId) (kind : LaneKind) (mode : ReleaseMode) (passback : PassbackPolicy) (miss : MissPolicy) (fail : FailMode),
      index = l.val → r.kind = .listed kind → r.releaseMode = .listed mode → r.passback = .listed passback →
      r.miss = .listed miss → r.fail = .listed fail → s.laneLaw →
      ∃ partner, (∀ p : LaneId, partner = some p ↔ r.partner = some p.val ∧ p ≠ l) ∧
        let x : LaneSetup :=
          { kind := kind, entryEnable := r.entryEnable, exitEnable := r.exitEnable
            releaseTime := max 1 (min 30 r.releaseTime), releaseMode := mode, heldLimit := max 5 (min 600 r.heldLimit)
            passageStep := max 8 (min 250 r.passageStep), passback := passback, referral := r.referral, miss := miss
            partner := partner, deadTime := min 100 r.deadTime, waitLimit := max 1 (min 15 r.waitLimit), fail := fail }
        let code : ReplyCode :=
          if x.releaseTime = r.releaseTime ∧ x.heldLimit = r.heldLimit ∧ x.passageStep = r.passageStep ∧
            x.deadTime = r.deadTime ∧ x.waitLimit = r.waitLimit ∧ (r.partner.isSome = true → partner.isSome = true)
          then .ok else .okClamped
        ((s.lane l).activity ≠ .idle →
          exec order s = .next ((s.setLane l { s.lane l with pendingSetup := some x }).answer order code
            (.setup true (.lane (s.lane l).setup (some x))))) ∧
        ((s.lane l).activity = .idle →
          ∃ t, exec order s = .next (t.answer order code (.setup false (.lane x none))) ∧ unchangedBut grantBlocks s t ∧
            (t.lane l).setup = x ∧ (∀ p, p ≠ l → (t.lane p).setup = (s.lane p).setup) ∧
            ((s.lane l).setup.kind ≠ kind → (t.lane l).encoder = 0 ∧ (t.lane l).held = false ∧
              (t.lane l).exitAllowance = none ∧
              (t.lane l).doorOpen = (decide (kind = .door) && (s.inputs.doors[l].level).getD false)) ∧
            ((s.lane l).setup.kind = kind → (t.lane l).doorOpen = (s.lane l).doorOpen ∧
              (t.lane l).encoder = if (s.lane l).setup.passageStep = x.passageStep then (s.lane l).encoder else 0))) ∧
  ∀ (s : State) (index : Nat) (r : WatchRequest), s.supply.state = .run →
    let order := Instr.setupWrite (.watch index r)
    (takeWatch r = none ↔ r.mode.isListed = false ∨ r.action.isListed = false ∨
      ∃ set m, r.action = .listed (.lanes set m) ∧ askOf m = none) ∧
    (takeWatch r = none → exec order s = .next (s.refuse order .badOrder)) ∧
    ∀ w clamped, takeWatch r = some (w, clamped) →
      (3 < index → exec order s = .next (s.refuse order .outOfRange)) ∧
      ∀ k : WatchId, index = k.val →
        let a := s.setSetup { s.setup with watches := putAt s.setup.watches k w }
        let code : ReplyCode := if clamped = true then .okClamped else .ok
        w.enable = r.enable ∧ w.mask = r.mask ∧ w.compare = r.compare ∧ r.mode = .listed w.mode ∧
        (∀ i, r.action = .listed (.bell i) → w.action = .bell (min 127 i) ∧ (clamped = true ↔ 127 < i)) ∧
        (∀ set m, r.action = .listed (.lanes set m) → ∃ m', askOf m = some m' ∧ w.action = .lanes set m') ∧
        ((∀ i, r.action ≠ .listed (.bell i)) → clamped = false) ∧
        (r.action = .listed .alarm → w.action = .alarm) ∧ (r.action = .listed .evacuate → w.action = .evacuate) ∧
        (w.mode = .change → exec order s = .next ((a.setEqual k false).answer order code
          (.setup false (.watch w false s.inputs.captures[k])))) ∧
        (w.mode = .equals → a.watchMatches k = false → exec order s = .next ((a.setEqual k false).answer order code
          (.setup false (.watch w false s.inputs.captures[k])))) ∧
        (w.mode = .equals → a.watchMatches k = true → a.watchLive k = true → w.action = .alarm → s.levelLaw →
          ∃ t, exec order s = .next (t.answer order code
              (.setup false (.watch w true (some ⟨s.generalLevels, s.now⟩)))) ∧
            unchangedBut [.setup, .inputs, .spool, .link] s t ∧ t.setup = a.setup ∧
            t.inputs = { s.inputs with
              equal := putAt s.inputs.equal k true
              captures := putAt s.inputs.captures k (some ⟨s.generalLevels, s.now⟩) } ∧
            entered (.system s.now (.watch k s.generalLevels .alarm)) s t)

/-- The orders that read change nothing but the reply they give. CLOCK READ gives the registers as they stand, the day type and
week index absent without a clock (R15); LANE READ one lane, refused above 7 (R90); STATUS every figure as its owner holds it
(R192); SETUP READ the part named, a lane's pending setup marked (R191), an index beyond the lanes or watches being refused
OUT_OF_RANGE by inference (log entry 23); TABLE READ the rows from the first named, as many as the count and the table's end
allow, refused BAD_ORDER for an unlisted bank or table (R188) and OUT_OF_RANGE for a row beyond the table or a count outside 1–16,
every reply with the bank summary (R175). -/
def Obligations.ReadingOrdersOnlyReply : Prop :=
  (∀ s : State, s.supply.state = .run → s.time.second ≤ 86399 →
    exec .clockRead s = .next (s.answer .clockRead .ok (.clock
      { valid := s.time.valid, day := s.time.day, second := s.time.second, weekdayOffset := s.time.weekdayOffset
        dayType := if s.time.valid = true then some (dayType s.activeBank s.time.weekdayOffset s.time.day) else none
        weekIndex := if s.time.valid = true then some (s.weekOf (s.time.day * 86400 + s.time.second)) else none
        trim := s.time.trim, slew := s.time.slew, stepCount := s.time.stepCount, holdCount := s.time.holdCount
        elapsed := s.time.elapsed }))) ∧
  (∀ (s : State) (lane : Nat), s.supply.state = .run → 7 < lane →
    exec (.laneRead lane) s = .next (s.refuse (.laneRead lane) .outOfRange)) ∧
  (∀ (s : State) (l : LaneId), s.supply.state = .run →
    ∃ r, exec (.laneRead l.val) s = .next (s.answer (.laneRead l.val) .ok (.lane r)) ∧
      r.setup = (s.lane l).setup ∧ r.pendingSetup = (s.lane l).pendingSetup ∧ r.mode = (s.lane l).mode ∧
      r.remembered = (s.lane l).remembered ∧ r.partner = s.partnerOf l ∧ r.activity = (s.lane l).activity ∧
      r.grant = (s.lane l).grant ∧ r.doorOpen = (s.lane l).doorOpen ∧ r.held = (s.lane l).held ∧
      r.encoder = (s.lane l).encoder ∧ r.requested = (s.lane l).requested ∧ r.driven = s.inputs.drivenRelease[l] ∧
      r.entryHead = s.headAt ⟨l, .inward⟩ ∧ r.exitHead = s.headAt ⟨l, .outward⟩ ∧ r.lineErrors = s.punch.lineErrors ∧
      (∀ t, (s.lane l).lastClosing = some t → r.sinceClosing = some (s.time.elapsed - t)) ∧
      (∀ g, (s.lane l).grant = some g → g.phase = .waiting → r.remaining = some (g.waitExpiry - s.time.elapsed)) ∧
      ∀ g t, (s.lane l).grant = some g → g.phase = .released → g.releaseExpiry = some t →
        r.remaining = some (t - s.time.elapsed)) ∧
  (∀ s : State, s.supply.state = .run →
    exec .status s = .next (s.answer .status .ok (.status
      { resetCause := s.supply.resetCause, clockValid := s.time.valid, online := s.link.online
        evacuating := s.inputs.evacuating, active := s.banks.active, standby := s.banks.standby
        generation := s.banks.generation, spoolHeld := s.spool.entries.length
        closureQueue := s.records.closureQueue.length, dropped := s.spool.dropped, linkErrors := s.link.errors
        corrected := s.roster.corrected, damagedSlots := s.roster.damagedCount
        occupiedSlots := s.roster.occupiedCount }))) ∧
  (∀ s : State, s.supply.state = .run →
    let reply (name : SetupName) (waiting : Bool) (part : SetupReport) :=
      exec (.setupRead name) s = .next (s.answer (.setupRead name) .ok (.setup waiting part))
    reply .general false (.general s.setup.general) ∧ reply .bells false (.bells s.setup.bells) ∧
    reply .stations false (.stations s.setup.stations) ∧
    (∀ l : LaneId, reply (.lane l.val) (s.lane l).pendingSetup.isSome (.lane (s.lane l).setup (s.lane l).pendingSetup)) ∧
    (∀ k : WatchId, reply (.watch k.val) false (.watch (s.watch k) s.inputs.equal[k] s.inputs.captures[k])) ∧
    (∀ n, 7 < n → exec (.setupRead (.lane n)) s = .next (s.refuse (.setupRead (.lane n)) .outOfRange)) ∧
    ∀ n, 3 < n → exec (.setupRead (.watch n)) s = .next (s.refuse (.setupRead (.watch n)) .outOfRange)) ∧
  ∀ (s : State) (bank : BankSelector) (table : TableName) (first count : Nat), s.supply.state = .run →
    let order := Instr.tableRead (.listed bank) (.listed table) first count
    let named : Bank := match bank with
      | .bankA => s.banks.bankA
      | .bankB => s.banks.bankB
      | .active => s.activeBank
      | .standby => s.standbyBank
    let summary : BankSummary := ⟨s.banks.active, s.banks.standby, s.banks.generation,
      s.banks.pending.map PendingSwitch.target, s.banks.lastFault⟩
    (tableSize table ≤ first ∨ count < 1 ∨ 16 < count →
      exec order s = .next (s.answer order .outOfRange (.rows 0 [] summary))) ∧
    (first < tableSize table → 1 ≤ count → count ≤ 16 →
      ∃ rows, exec order s = .next (s.answer order .ok (.rows rows.length rows summary)) ∧
        rows.length = min count (tableSize table - first) ∧
        ∀ i, (h : i < rows.length) → rows[i] = named.row table (first + i)) ∧
    ∀ (b : Choice BankSelector) (t : Choice TableName), b.isListed = false ∨ t.isListed = false →
      exec (.tableRead b t first count) s = .next (s.answer (.tableRead b t first count) .badOrder (.rows 0 [] summary))

end Statements
end

