-- ==== Sys2Proof/Laws/State.lean ====
section
/-!
SUPPORT. What replacing one part of the state leaves of every part: one lemma for each part and each replacement, and the lanes
read after one is replaced.
-/
namespace Sys2Proof.Machine

/-! ## setTime -/

@[simp] theorem State.setTime_time (s : State) (x : TimeBase) : (s.setTime x).time = x := rfl
@[simp] theorem State.setTime_roster (s : State) (x : TimeBase) : (s.setTime x).roster = s.roster := rfl
@[simp] theorem State.setTime_records (s : State) (x : TimeBase) : (s.setTime x).records = s.records := rfl
@[simp] theorem State.setTime_punch (s : State) (x : TimeBase) : (s.setTime x).punch = s.punch := rfl
@[simp] theorem State.setTime_lanes (s : State) (x : TimeBase) : (s.setTime x).lanes = s.lanes := rfl
@[simp] theorem State.setTime_bells (s : State) (x : TimeBase) : (s.setTime x).bells = s.bells := rfl
@[simp] theorem State.setTime_inputs (s : State) (x : TimeBase) : (s.setTime x).inputs = s.inputs := rfl
@[simp] theorem State.setTime_banks (s : State) (x : TimeBase) : (s.setTime x).banks = s.banks := rfl
@[simp] theorem State.setTime_spool (s : State) (x : TimeBase) : (s.setTime x).spool = s.spool := rfl
@[simp] theorem State.setTime_link (s : State) (x : TimeBase) : (s.setTime x).link = s.link := rfl
@[simp] theorem State.setTime_setup (s : State) (x : TimeBase) : (s.setTime x).setup = s.setup := rfl
@[simp] theorem State.setTime_supply (s : State) (x : TimeBase) : (s.setTime x).supply = s.supply := rfl
@[simp] theorem State.setTime_notices (s : State) (x : TimeBase) : (s.setTime x).notices = s.notices := rfl
@[simp] theorem State.setTime_pending (s : State) (x : TimeBase) : (s.setTime x).pending = s.pending := rfl

/-! ## setRoster -/

@[simp] theorem State.setRoster_time (s : State) (x : Roster) : (s.setRoster x).time = s.time := rfl
@[simp] theorem State.setRoster_roster (s : State) (x : Roster) : (s.setRoster x).roster = x := rfl
@[simp] theorem State.setRoster_records (s : State) (x : Roster) : (s.setRoster x).records = s.records := rfl
@[simp] theorem State.setRoster_punch (s : State) (x : Roster) : (s.setRoster x).punch = s.punch := rfl
@[simp] theorem State.setRoster_lanes (s : State) (x : Roster) : (s.setRoster x).lanes = s.lanes := rfl
@[simp] theorem State.setRoster_bells (s : State) (x : Roster) : (s.setRoster x).bells = s.bells := rfl
@[simp] theorem State.setRoster_inputs (s : State) (x : Roster) : (s.setRoster x).inputs = s.inputs := rfl
@[simp] theorem State.setRoster_banks (s : State) (x : Roster) : (s.setRoster x).banks = s.banks := rfl
@[simp] theorem State.setRoster_spool (s : State) (x : Roster) : (s.setRoster x).spool = s.spool := rfl
@[simp] theorem State.setRoster_link (s : State) (x : Roster) : (s.setRoster x).link = s.link := rfl
@[simp] theorem State.setRoster_setup (s : State) (x : Roster) : (s.setRoster x).setup = s.setup := rfl
@[simp] theorem State.setRoster_supply (s : State) (x : Roster) : (s.setRoster x).supply = s.supply := rfl
@[simp] theorem State.setRoster_notices (s : State) (x : Roster) : (s.setRoster x).notices = s.notices := rfl
@[simp] theorem State.setRoster_pending (s : State) (x : Roster) : (s.setRoster x).pending = s.pending := rfl

/-! ## setRecords -/

@[simp] theorem State.setRecords_time (s : State) (x : RecordUnit) : (s.setRecords x).time = s.time := rfl
@[simp] theorem State.setRecords_roster (s : State) (x : RecordUnit) : (s.setRecords x).roster = s.roster := rfl
@[simp] theorem State.setRecords_records (s : State) (x : RecordUnit) : (s.setRecords x).records = x := rfl
@[simp] theorem State.setRecords_punch (s : State) (x : RecordUnit) : (s.setRecords x).punch = s.punch := rfl
@[simp] theorem State.setRecords_lanes (s : State) (x : RecordUnit) : (s.setRecords x).lanes = s.lanes := rfl
@[simp] theorem State.setRecords_bells (s : State) (x : RecordUnit) : (s.setRecords x).bells = s.bells := rfl
@[simp] theorem State.setRecords_inputs (s : State) (x : RecordUnit) : (s.setRecords x).inputs = s.inputs := rfl
@[simp] theorem State.setRecords_banks (s : State) (x : RecordUnit) : (s.setRecords x).banks = s.banks := rfl
@[simp] theorem State.setRecords_spool (s : State) (x : RecordUnit) : (s.setRecords x).spool = s.spool := rfl
@[simp] theorem State.setRecords_link (s : State) (x : RecordUnit) : (s.setRecords x).link = s.link := rfl
@[simp] theorem State.setRecords_setup (s : State) (x : RecordUnit) : (s.setRecords x).setup = s.setup := rfl
@[simp] theorem State.setRecords_supply (s : State) (x : RecordUnit) : (s.setRecords x).supply = s.supply := rfl
@[simp] theorem State.setRecords_notices (s : State) (x : RecordUnit) : (s.setRecords x).notices = s.notices := rfl
@[simp] theorem State.setRecords_pending (s : State) (x : RecordUnit) : (s.setRecords x).pending = s.pending := rfl

/-! ## setPunch -/

@[simp] theorem State.setPunch_time (s : State) (x : PunchUnit) : (s.setPunch x).time = s.time := rfl
@[simp] theorem State.setPunch_roster (s : State) (x : PunchUnit) : (s.setPunch x).roster = s.roster := rfl
@[simp] theorem State.setPunch_records (s : State) (x : PunchUnit) : (s.setPunch x).records = s.records := rfl
@[simp] theorem State.setPunch_punch (s : State) (x : PunchUnit) : (s.setPunch x).punch = x := rfl
@[simp] theorem State.setPunch_lanes (s : State) (x : PunchUnit) : (s.setPunch x).lanes = s.lanes := rfl
@[simp] theorem State.setPunch_bells (s : State) (x : PunchUnit) : (s.setPunch x).bells = s.bells := rfl
@[simp] theorem State.setPunch_inputs (s : State) (x : PunchUnit) : (s.setPunch x).inputs = s.inputs := rfl
@[simp] theorem State.setPunch_banks (s : State) (x : PunchUnit) : (s.setPunch x).banks = s.banks := rfl
@[simp] theorem State.setPunch_spool (s : State) (x : PunchUnit) : (s.setPunch x).spool = s.spool := rfl
@[simp] theorem State.setPunch_link (s : State) (x : PunchUnit) : (s.setPunch x).link = s.link := rfl
@[simp] theorem State.setPunch_setup (s : State) (x : PunchUnit) : (s.setPunch x).setup = s.setup := rfl
@[simp] theorem State.setPunch_supply (s : State) (x : PunchUnit) : (s.setPunch x).supply = s.supply := rfl
@[simp] theorem State.setPunch_notices (s : State) (x : PunchUnit) : (s.setPunch x).notices = s.notices := rfl
@[simp] theorem State.setPunch_pending (s : State) (x : PunchUnit) : (s.setPunch x).pending = s.pending := rfl

/-! ## setLanes -/

@[simp] theorem State.setLanes_time (s : State) (x : Vector Lane 8) : (s.setLanes x).time = s.time := rfl
@[simp] theorem State.setLanes_roster (s : State) (x : Vector Lane 8) : (s.setLanes x).roster = s.roster := rfl
@[simp] theorem State.setLanes_records (s : State) (x : Vector Lane 8) : (s.setLanes x).records = s.records := rfl
@[simp] theorem State.setLanes_punch (s : State) (x : Vector Lane 8) : (s.setLanes x).punch = s.punch := rfl
@[simp] theorem State.setLanes_lanes (s : State) (x : Vector Lane 8) : (s.setLanes x).lanes = x := rfl
@[simp] theorem State.setLanes_bells (s : State) (x : Vector Lane 8) : (s.setLanes x).bells = s.bells := rfl
@[simp] theorem State.setLanes_inputs (s : State) (x : Vector Lane 8) : (s.setLanes x).inputs = s.inputs := rfl
@[simp] theorem State.setLanes_banks (s : State) (x : Vector Lane 8) : (s.setLanes x).banks = s.banks := rfl
@[simp] theorem State.setLanes_spool (s : State) (x : Vector Lane 8) : (s.setLanes x).spool = s.spool := rfl
@[simp] theorem State.setLanes_link (s : State) (x : Vector Lane 8) : (s.setLanes x).link = s.link := rfl
@[simp] theorem State.setLanes_setup (s : State) (x : Vector Lane 8) : (s.setLanes x).setup = s.setup := rfl
@[simp] theorem State.setLanes_supply (s : State) (x : Vector Lane 8) : (s.setLanes x).supply = s.supply := rfl
@[simp] theorem State.setLanes_notices (s : State) (x : Vector Lane 8) : (s.setLanes x).notices = s.notices := rfl
@[simp] theorem State.setLanes_pending (s : State) (x : Vector Lane 8) : (s.setLanes x).pending = s.pending := rfl

/-! ## setBells -/

@[simp] theorem State.setBells_time (s : State) (x : ScheduleUnit) : (s.setBells x).time = s.time := rfl
@[simp] theorem State.setBells_roster (s : State) (x : ScheduleUnit) : (s.setBells x).roster = s.roster := rfl
@[simp] theorem State.setBells_records (s : State) (x : ScheduleUnit) : (s.setBells x).records = s.records := rfl
@[simp] theorem State.setBells_punch (s : State) (x : ScheduleUnit) : (s.setBells x).punch = s.punch := rfl
@[simp] theorem State.setBells_lanes (s : State) (x : ScheduleUnit) : (s.setBells x).lanes = s.lanes := rfl
@[simp] theorem State.setBells_bells (s : State) (x : ScheduleUnit) : (s.setBells x).bells = x := rfl
@[simp] theorem State.setBells_inputs (s : State) (x : ScheduleUnit) : (s.setBells x).inputs = s.inputs := rfl
@[simp] theorem State.setBells_banks (s : State) (x : ScheduleUnit) : (s.setBells x).banks = s.banks := rfl
@[simp] theorem State.setBells_spool (s : State) (x : ScheduleUnit) : (s.setBells x).spool = s.spool := rfl
@[simp] theorem State.setBells_link (s : State) (x : ScheduleUnit) : (s.setBells x).link = s.link := rfl
@[simp] theorem State.setBells_setup (s : State) (x : ScheduleUnit) : (s.setBells x).setup = s.setup := rfl
@[simp] theorem State.setBells_supply (s : State) (x : ScheduleUnit) : (s.setBells x).supply = s.supply := rfl
@[simp] theorem State.setBells_notices (s : State) (x : ScheduleUnit) : (s.setBells x).notices = s.notices := rfl
@[simp] theorem State.setBells_pending (s : State) (x : ScheduleUnit) : (s.setBells x).pending = s.pending := rfl

/-! ## setInputs -/

@[simp] theorem State.setInputs_time (s : State) (x : InputSampler) : (s.setInputs x).time = s.time := rfl
@[simp] theorem State.setInputs_roster (s : State) (x : InputSampler) : (s.setInputs x).roster = s.roster := rfl
@[simp] theorem State.setInputs_records (s : State) (x : InputSampler) : (s.setInputs x).records = s.records := rfl
@[simp] theorem State.setInputs_punch (s : State) (x : InputSampler) : (s.setInputs x).punch = s.punch := rfl
@[simp] theorem State.setInputs_lanes (s : State) (x : InputSampler) : (s.setInputs x).lanes = s.lanes := rfl
@[simp] theorem State.setInputs_bells (s : State) (x : InputSampler) : (s.setInputs x).bells = s.bells := rfl
@[simp] theorem State.setInputs_inputs (s : State) (x : InputSampler) : (s.setInputs x).inputs = x := rfl
@[simp] theorem State.setInputs_banks (s : State) (x : InputSampler) : (s.setInputs x).banks = s.banks := rfl
@[simp] theorem State.setInputs_spool (s : State) (x : InputSampler) : (s.setInputs x).spool = s.spool := rfl
@[simp] theorem State.setInputs_link (s : State) (x : InputSampler) : (s.setInputs x).link = s.link := rfl
@[simp] theorem State.setInputs_setup (s : State) (x : InputSampler) : (s.setInputs x).setup = s.setup := rfl
@[simp] theorem State.setInputs_supply (s : State) (x : InputSampler) : (s.setInputs x).supply = s.supply := rfl
@[simp] theorem State.setInputs_notices (s : State) (x : InputSampler) : (s.setInputs x).notices = s.notices := rfl
@[simp] theorem State.setInputs_pending (s : State) (x : InputSampler) : (s.setInputs x).pending = s.pending := rfl

/-! ## setBanks -/

@[simp] theorem State.setBanks_time (s : State) (x : BankStore) : (s.setBanks x).time = s.time := rfl
@[simp] theorem State.setBanks_roster (s : State) (x : BankStore) : (s.setBanks x).roster = s.roster := rfl
@[simp] theorem State.setBanks_records (s : State) (x : BankStore) : (s.setBanks x).records = s.records := rfl
@[simp] theorem State.setBanks_punch (s : State) (x : BankStore) : (s.setBanks x).punch = s.punch := rfl
@[simp] theorem State.setBanks_lanes (s : State) (x : BankStore) : (s.setBanks x).lanes = s.lanes := rfl
@[simp] theorem State.setBanks_bells (s : State) (x : BankStore) : (s.setBanks x).bells = s.bells := rfl
@[simp] theorem State.setBanks_inputs (s : State) (x : BankStore) : (s.setBanks x).inputs = s.inputs := rfl
@[simp] theorem State.setBanks_banks (s : State) (x : BankStore) : (s.setBanks x).banks = x := rfl
@[simp] theorem State.setBanks_spool (s : State) (x : BankStore) : (s.setBanks x).spool = s.spool := rfl
@[simp] theorem State.setBanks_link (s : State) (x : BankStore) : (s.setBanks x).link = s.link := rfl
@[simp] theorem State.setBanks_setup (s : State) (x : BankStore) : (s.setBanks x).setup = s.setup := rfl
@[simp] theorem State.setBanks_supply (s : State) (x : BankStore) : (s.setBanks x).supply = s.supply := rfl
@[simp] theorem State.setBanks_notices (s : State) (x : BankStore) : (s.setBanks x).notices = s.notices := rfl
@[simp] theorem State.setBanks_pending (s : State) (x : BankStore) : (s.setBanks x).pending = s.pending := rfl

/-! ## setSpool -/

@[simp] theorem State.setSpool_time (s : State) (x : Spool) : (s.setSpool x).time = s.time := rfl
@[simp] theorem State.setSpool_roster (s : State) (x : Spool) : (s.setSpool x).roster = s.roster := rfl
@[simp] theorem State.setSpool_records (s : State) (x : Spool) : (s.setSpool x).records = s.records := rfl
@[simp] theorem State.setSpool_punch (s : State) (x : Spool) : (s.setSpool x).punch = s.punch := rfl
@[simp] theorem State.setSpool_lanes (s : State) (x : Spool) : (s.setSpool x).lanes = s.lanes := rfl
@[simp] theorem State.setSpool_bells (s : State) (x : Spool) : (s.setSpool x).bells = s.bells := rfl
@[simp] theorem State.setSpool_inputs (s : State) (x : Spool) : (s.setSpool x).inputs = s.inputs := rfl
@[simp] theorem State.setSpool_banks (s : State) (x : Spool) : (s.setSpool x).banks = s.banks := rfl
@[simp] theorem State.setSpool_spool (s : State) (x : Spool) : (s.setSpool x).spool = x := rfl
@[simp] theorem State.setSpool_link (s : State) (x : Spool) : (s.setSpool x).link = s.link := rfl
@[simp] theorem State.setSpool_setup (s : State) (x : Spool) : (s.setSpool x).setup = s.setup := rfl
@[simp] theorem State.setSpool_supply (s : State) (x : Spool) : (s.setSpool x).supply = s.supply := rfl
@[simp] theorem State.setSpool_notices (s : State) (x : Spool) : (s.setSpool x).notices = s.notices := rfl
@[simp] theorem State.setSpool_pending (s : State) (x : Spool) : (s.setSpool x).pending = s.pending := rfl

/-! ## setLink -/

@[simp] theorem State.setLink_time (s : State) (x : Link) : (s.setLink x).time = s.time := rfl
@[simp] theorem State.setLink_roster (s : State) (x : Link) : (s.setLink x).roster = s.roster := rfl
@[simp] theorem State.setLink_records (s : State) (x : Link) : (s.setLink x).records = s.records := rfl
@[simp] theorem State.setLink_punch (s : State) (x : Link) : (s.setLink x).punch = s.punch := rfl
@[simp] theorem State.setLink_lanes (s : State) (x : Link) : (s.setLink x).lanes = s.lanes := rfl
@[simp] theorem State.setLink_bells (s : State) (x : Link) : (s.setLink x).bells = s.bells := rfl
@[simp] theorem State.setLink_inputs (s : State) (x : Link) : (s.setLink x).inputs = s.inputs := rfl
@[simp] theorem State.setLink_banks (s : State) (x : Link) : (s.setLink x).banks = s.banks := rfl
@[simp] theorem State.setLink_spool (s : State) (x : Link) : (s.setLink x).spool = s.spool := rfl
@[simp] theorem State.setLink_link (s : State) (x : Link) : (s.setLink x).link = x := rfl
@[simp] theorem State.setLink_setup (s : State) (x : Link) : (s.setLink x).setup = s.setup := rfl
@[simp] theorem State.setLink_supply (s : State) (x : Link) : (s.setLink x).supply = s.supply := rfl
@[simp] theorem State.setLink_notices (s : State) (x : Link) : (s.setLink x).notices = s.notices := rfl
@[simp] theorem State.setLink_pending (s : State) (x : Link) : (s.setLink x).pending = s.pending := rfl

/-! ## setSetup -/

@[simp] theorem State.setSetup_time (s : State) (x : Setup) : (s.setSetup x).time = s.time := rfl
@[simp] theorem State.setSetup_roster (s : State) (x : Setup) : (s.setSetup x).roster = s.roster := rfl
@[simp] theorem State.setSetup_records (s : State) (x : Setup) : (s.setSetup x).records = s.records := rfl
@[simp] theorem State.setSetup_punch (s : State) (x : Setup) : (s.setSetup x).punch = s.punch := rfl
@[simp] theorem State.setSetup_lanes (s : State) (x : Setup) : (s.setSetup x).lanes = s.lanes := rfl
@[simp] theorem State.setSetup_bells (s : State) (x : Setup) : (s.setSetup x).bells = s.bells := rfl
@[simp] theorem State.setSetup_inputs (s : State) (x : Setup) : (s.setSetup x).inputs = s.inputs := rfl
@[simp] theorem State.setSetup_banks (s : State) (x : Setup) : (s.setSetup x).banks = s.banks := rfl
@[simp] theorem State.setSetup_spool (s : State) (x : Setup) : (s.setSetup x).spool = s.spool := rfl
@[simp] theorem State.setSetup_link (s : State) (x : Setup) : (s.setSetup x).link = s.link := rfl
@[simp] theorem State.setSetup_setup (s : State) (x : Setup) : (s.setSetup x).setup = x := rfl
@[simp] theorem State.setSetup_supply (s : State) (x : Setup) : (s.setSetup x).supply = s.supply := rfl
@[simp] theorem State.setSetup_notices (s : State) (x : Setup) : (s.setSetup x).notices = s.notices := rfl
@[simp] theorem State.setSetup_pending (s : State) (x : Setup) : (s.setSetup x).pending = s.pending := rfl

/-! ## setSupply -/

@[simp] theorem State.setSupply_time (s : State) (x : Supply) : (s.setSupply x).time = s.time := rfl
@[simp] theorem State.setSupply_roster (s : State) (x : Supply) : (s.setSupply x).roster = s.roster := rfl
@[simp] theorem State.setSupply_records (s : State) (x : Supply) : (s.setSupply x).records = s.records := rfl
@[simp] theorem State.setSupply_punch (s : State) (x : Supply) : (s.setSupply x).punch = s.punch := rfl
@[simp] theorem State.setSupply_lanes (s : State) (x : Supply) : (s.setSupply x).lanes = s.lanes := rfl
@[simp] theorem State.setSupply_bells (s : State) (x : Supply) : (s.setSupply x).bells = s.bells := rfl
@[simp] theorem State.setSupply_inputs (s : State) (x : Supply) : (s.setSupply x).inputs = s.inputs := rfl
@[simp] theorem State.setSupply_banks (s : State) (x : Supply) : (s.setSupply x).banks = s.banks := rfl
@[simp] theorem State.setSupply_spool (s : State) (x : Supply) : (s.setSupply x).spool = s.spool := rfl
@[simp] theorem State.setSupply_link (s : State) (x : Supply) : (s.setSupply x).link = s.link := rfl
@[simp] theorem State.setSupply_setup (s : State) (x : Supply) : (s.setSupply x).setup = s.setup := rfl
@[simp] theorem State.setSupply_supply (s : State) (x : Supply) : (s.setSupply x).supply = x := rfl
@[simp] theorem State.setSupply_notices (s : State) (x : Supply) : (s.setSupply x).notices = s.notices := rfl
@[simp] theorem State.setSupply_pending (s : State) (x : Supply) : (s.setSupply x).pending = s.pending := rfl

/-! ## setNotices -/

@[simp] theorem State.setNotices_time (s : State) (x : Notices) : (s.setNotices x).time = s.time := rfl
@[simp] theorem State.setNotices_roster (s : State) (x : Notices) : (s.setNotices x).roster = s.roster := rfl
@[simp] theorem State.setNotices_records (s : State) (x : Notices) : (s.setNotices x).records = s.records := rfl
@[simp] theorem State.setNotices_punch (s : State) (x : Notices) : (s.setNotices x).punch = s.punch := rfl
@[simp] theorem State.setNotices_lanes (s : State) (x : Notices) : (s.setNotices x).lanes = s.lanes := rfl
@[simp] theorem State.setNotices_bells (s : State) (x : Notices) : (s.setNotices x).bells = s.bells := rfl
@[simp] theorem State.setNotices_inputs (s : State) (x : Notices) : (s.setNotices x).inputs = s.inputs := rfl
@[simp] theorem State.setNotices_banks (s : State) (x : Notices) : (s.setNotices x).banks = s.banks := rfl
@[simp] theorem State.setNotices_spool (s : State) (x : Notices) : (s.setNotices x).spool = s.spool := rfl
@[simp] theorem State.setNotices_link (s : State) (x : Notices) : (s.setNotices x).link = s.link := rfl
@[simp] theorem State.setNotices_setup (s : State) (x : Notices) : (s.setNotices x).setup = s.setup := rfl
@[simp] theorem State.setNotices_supply (s : State) (x : Notices) : (s.setNotices x).supply = s.supply := rfl
@[simp] theorem State.setNotices_notices (s : State) (x : Notices) : (s.setNotices x).notices = x := rfl
@[simp] theorem State.setNotices_pending (s : State) (x : Notices) : (s.setNotices x).pending = s.pending := rfl

/-! ## setPending -/

@[simp] theorem State.setPending_time (s : State) (x : List Instr) : (s.setPending x).time = s.time := rfl
@[simp] theorem State.setPending_roster (s : State) (x : List Instr) : (s.setPending x).roster = s.roster := rfl
@[simp] theorem State.setPending_records (s : State) (x : List Instr) : (s.setPending x).records = s.records := rfl
@[simp] theorem State.setPending_punch (s : State) (x : List Instr) : (s.setPending x).punch = s.punch := rfl
@[simp] theorem State.setPending_lanes (s : State) (x : List Instr) : (s.setPending x).lanes = s.lanes := rfl
@[simp] theorem State.setPending_bells (s : State) (x : List Instr) : (s.setPending x).bells = s.bells := rfl
@[simp] theorem State.setPending_inputs (s : State) (x : List Instr) : (s.setPending x).inputs = s.inputs := rfl
@[simp] theorem State.setPending_banks (s : State) (x : List Instr) : (s.setPending x).banks = s.banks := rfl
@[simp] theorem State.setPending_spool (s : State) (x : List Instr) : (s.setPending x).spool = s.spool := rfl
@[simp] theorem State.setPending_link (s : State) (x : List Instr) : (s.setPending x).link = s.link := rfl
@[simp] theorem State.setPending_setup (s : State) (x : List Instr) : (s.setPending x).setup = s.setup := rfl
@[simp] theorem State.setPending_supply (s : State) (x : List Instr) : (s.setPending x).supply = s.supply := rfl
@[simp] theorem State.setPending_notices (s : State) (x : List Instr) : (s.setPending x).notices = s.notices := rfl
@[simp] theorem State.setPending_pending (s : State) (x : List Instr) : (s.setPending x).pending = x := rfl

/-! ## Vectors and lanes -/

@[simp] theorem putAt_same {α : Type} {n : Nat} (v : Vector α n) (i : Fin n) (x : α) : (putAt v i x)[i.val] = x := by
  simp [putAt]

theorem putAt_other {α : Type} {n : Nat} (v : Vector α n) (i j : Fin n) (x : α) (h : i ≠ j) :
    (putAt v i x)[j.val] = v[j.val] := by
  have : i.val ≠ j.val := fun e => h (Fin.ext e)
  simp [putAt, this]

@[simp] theorem State.setLane_same (s : State) (l : LaneId) (x : Lane) : (s.setLane l x).lane l = x := by
  simp [State.setLane, State.lane]

theorem State.setLane_other (s : State) (l k : LaneId) (x : Lane) (h : l ≠ k) : (s.setLane l x).lane k = s.lane k := by
  simp [State.setLane, State.lane, putAt_other _ _ _ _ h]

/-- Each other part of the state after a lane is replaced. -/
@[simp] theorem State.setLane_inputs (s : State) (l : LaneId) (x : Lane) : (s.setLane l x).inputs = s.inputs := rfl
@[simp] theorem State.setLane_punch (s : State) (l : LaneId) (x : Lane) : (s.setLane l x).punch = s.punch := rfl
@[simp] theorem State.setLane_time (s : State) (l : LaneId) (x : Lane) : (s.setLane l x).time = s.time := rfl
@[simp] theorem State.setLane_roster (s : State) (l : LaneId) (x : Lane) : (s.setLane l x).roster = s.roster := rfl
@[simp] theorem State.setLane_supply (s : State) (l : LaneId) (x : Lane) : (s.setLane l x).supply = s.supply := rfl
@[simp] theorem State.setLane_link (s : State) (l : LaneId) (x : Lane) : (s.setLane l x).link = s.link := rfl
@[simp] theorem State.setLane_spool (s : State) (l : LaneId) (x : Lane) : (s.setLane l x).spool = s.spool := rfl

end Sys2Proof.Machine
end

