-- ==== Sys2Proof/Laws/Blocks.lean ====
section
/-!
SUPPORT. What the shared operations leave alone: for each operation, the parts of the state outside those it takes part in are
as they were before it. The lemmas are stated so that they compose.
-/
namespace Sys2Proof.Machine

theorem unchangedBut.refl (L : List Block) (s : State) : unchangedBut L s s := by
  refine ⟨rfl, fun b => Or.inr ?_⟩
  cases b <;> rfl

theorem unchangedBut.mono {L M : List Block} {s t : State} (h : unchangedBut L s t) (hLM : ∀ b ∈ L, b ∈ M) :
    unchangedBut M s t := ⟨h.1, fun b => (h.2 b).imp (hLM b) id⟩

theorem unchangedBut.trans {L : List Block} {s t u : State} (h : unchangedBut L s t) (g : unchangedBut L t u) :
    unchangedBut L s u := by
  refine ⟨g.1.trans h.1, fun b => ?_⟩
  rcases h.2 b with hb | hb
  · exact Or.inl hb
  · rcases g.2 b with gb | gb
    · exact Or.inl gb
    · refine Or.inr ?_
      cases b <;> exact Eq.trans gb hb

/-- A fold of an operation that keeps the frame keeps it. -/
theorem frame_foldl {L : List Block} {α : Type} {s : State} {f : State → α → State} {l : List α} {t : State}
    (hf : ∀ u a, unchangedBut L s u → unchangedBut L s (f u a)) (h : unchangedBut L s t) :
    unchangedBut L s (l.foldl f t) := by
  induction l generalizing t with
  | nil => exact h
  | cons a rest ih => exact ih (hf t a h)

/-! ## Replacing one part -/

theorem frame_setTime {L : List Block} {s t : State} (x : TimeBase) (h : unchangedBut L s t) (m : Block.time ∈ L) :
    unchangedBut L s (t.setTime x) :=
  ⟨h.1, fun b => by cases b <;> first | exact Or.inl m | exact h.2 _⟩

theorem frame_setRoster {L : List Block} {s t : State} (x : Roster) (h : unchangedBut L s t) (m : Block.roster ∈ L) :
    unchangedBut L s (t.setRoster x) :=
  ⟨h.1, fun b => by cases b <;> first | exact Or.inl m | exact h.2 _⟩

theorem frame_setRecords {L : List Block} {s t : State} (x : RecordUnit) (h : unchangedBut L s t) (m : Block.records ∈ L) :
    unchangedBut L s (t.setRecords x) :=
  ⟨h.1, fun b => by cases b <;> first | exact Or.inl m | exact h.2 _⟩

theorem frame_setPunch {L : List Block} {s t : State} (x : PunchUnit) (h : unchangedBut L s t) (m : Block.punch ∈ L) :
    unchangedBut L s (t.setPunch x) :=
  ⟨h.1, fun b => by cases b <;> first | exact Or.inl m | exact h.2 _⟩

theorem frame_setLanes {L : List Block} {s t : State} (x : Vector Lane 8) (h : unchangedBut L s t) (m : Block.lanes ∈ L) :
    unchangedBut L s (t.setLanes x) :=
  ⟨h.1, fun b => by cases b <;> first | exact Or.inl m | exact h.2 _⟩

theorem frame_setBells {L : List Block} {s t : State} (x : ScheduleUnit) (h : unchangedBut L s t) (m : Block.bells ∈ L) :
    unchangedBut L s (t.setBells x) :=
  ⟨h.1, fun b => by cases b <;> first | exact Or.inl m | exact h.2 _⟩

theorem frame_setInputs {L : List Block} {s t : State} (x : InputSampler) (h : unchangedBut L s t) (m : Block.inputs ∈ L) :
    unchangedBut L s (t.setInputs x) :=
  ⟨h.1, fun b => by cases b <;> first | exact Or.inl m | exact h.2 _⟩

theorem frame_setBanks {L : List Block} {s t : State} (x : BankStore) (h : unchangedBut L s t) (m : Block.banks ∈ L) :
    unchangedBut L s (t.setBanks x) :=
  ⟨h.1, fun b => by cases b <;> first | exact Or.inl m | exact h.2 _⟩

theorem frame_setSpool {L : List Block} {s t : State} (x : Spool) (h : unchangedBut L s t) (m : Block.spool ∈ L) :
    unchangedBut L s (t.setSpool x) :=
  ⟨h.1, fun b => by cases b <;> first | exact Or.inl m | exact h.2 _⟩

theorem frame_setLink {L : List Block} {s t : State} (x : Link) (h : unchangedBut L s t) (m : Block.link ∈ L) :
    unchangedBut L s (t.setLink x) :=
  ⟨h.1, fun b => by cases b <;> first | exact Or.inl m | exact h.2 _⟩

theorem frame_setSetup {L : List Block} {s t : State} (x : Setup) (h : unchangedBut L s t) (m : Block.setup ∈ L) :
    unchangedBut L s (t.setSetup x) :=
  ⟨h.1, fun b => by cases b <;> first | exact Or.inl m | exact h.2 _⟩

theorem frame_setSupply {L : List Block} {s t : State} (x : Supply) (h : unchangedBut L s t) (m : Block.supply ∈ L) :
    unchangedBut L s (t.setSupply x) :=
  ⟨h.1, fun b => by cases b <;> first | exact Or.inl m | exact h.2 _⟩

theorem frame_setNotices {L : List Block} {s t : State} (x : Notices) (h : unchangedBut L s t) (m : Block.notices ∈ L) :
    unchangedBut L s (t.setNotices x) :=
  ⟨h.1, fun b => by cases b <;> first | exact Or.inl m | exact h.2 _⟩

/-! ## Time, entries, reports and replies -/

theorem frame_setLane {L : List Block} {s₀ s₁ : State} (l : LaneId) (x : Lane) (hf : unchangedBut L s₀ s₁)
    (hlanes : Block.lanes ∈ L) :
    unchangedBut L s₀ (State.setLane s₁ l x) := by
  unfold State.setLane
  repeat (first | with_reducible assumption | with_reducible apply frame_setLanes | dsimp only | split)

theorem frame_sendReport {L : List Block} {s₀ s₁ : State} (r : Report) (hf : unchangedBut L s₀ s₁)
    (hlink : Block.link ∈ L) :
    unchangedBut L s₀ (State.sendReport s₁ r) := by
  unfold State.sendReport
  repeat (first | with_reducible assumption | with_reducible apply frame_setLink | dsimp only | split)

theorem frame_appendEntry {L : List Block} {s₀ s₁ : State} (e : Entry) (hf : unchangedBut L s₀ s₁)
    (hspool : Block.spool ∈ L) :
    unchangedBut L s₀ (State.appendEntry s₁ e) := by
  unfold State.appendEntry
  repeat (first | with_reducible assumption | with_reducible apply frame_setSpool | dsimp only | split)

theorem frame_copyAlarm {L : List Block} {s₀ s₁ : State} (e : Entry) (seq : Option Nat) (hf : unchangedBut L s₀ s₁)
    (hlink : Block.link ∈ L) :
    unchangedBut L s₀ (State.copyAlarm s₁ e seq) := by
  unfold State.copyAlarm
  repeat (first | with_reducible assumption | with_reducible apply frame_sendReport | dsimp only | split)

theorem frame_requestEntry {L : List Block} {s₀ s₁ : State} (e : Entry) (hf : unchangedBut L s₀ s₁)
    (hspool : Block.spool ∈ L) (hlink : Block.link ∈ L) :
    unchangedBut L s₀ (State.requestEntry s₁ e) := by
  unfold State.requestEntry
  repeat (first | with_reducible assumption | with_reducible apply frame_setSpool | with_reducible apply frame_appendEntry | with_reducible apply frame_copyAlarm | dsimp only | split)

theorem frame_offerTotal {L : List Block} {s t u : State} (x : ShiftTotal) (h : unchangedBut L s t)
    (hspool : Block.spool ∈ L) (hu : t.offerTotal x = some u) : unchangedBut L s u := by
  unfold State.offerTotal at hu
  split at hu
  · cases hu
    exact frame_appendEntry _ h hspool
  · cases hu

theorem frame_systemEvent {L : List Block} {s₀ s₁ : State} (stamp : Option Stamp) (cause : SystemCause) (hf : unchangedBut L s₀ s₁)
    (hspool : Block.spool ∈ L) (hlink : Block.link ∈ L) :
    unchangedBut L s₀ (State.systemEvent s₁ stamp cause) := by
  unfold State.systemEvent
  repeat (first | with_reducible assumption | with_reducible apply frame_requestEntry | dsimp only | split)

theorem frame_laneAlarm {L : List Block} {s₀ s₁ : State} (l : LaneId) (cause : AlarmCause) (hf : unchangedBut L s₀ s₁)
    (hspool : Block.spool ∈ L) (hlink : Block.link ∈ L) :
    unchangedBut L s₀ (State.laneAlarm s₁ l cause) := by
  unfold State.laneAlarm
  repeat (first | with_reducible assumption | with_reducible apply frame_requestEntry | dsimp only | split)

theorem frame_answer {L : List Block} {s₀ s₁ : State} (order : Instr) (code : ReplyCode) (body : ReplyBody) (hf : unchangedBut L s₀ s₁)
    (hlink : Block.link ∈ L) :
    unchangedBut L s₀ (State.answer s₁ order code body) := by
  unfold State.answer
  repeat (first | with_reducible assumption | with_reducible apply frame_setLink | dsimp only | split)

theorem frame_refuse {L : List Block} {s₀ s₁ : State} (order : Instr) (code : ReplyCode) (hf : unchangedBut L s₀ s₁)
    (hlink : Block.link ∈ L) :
    unchangedBut L s₀ (State.refuse s₁ order code) := by
  unfold State.refuse
  repeat (first | with_reducible assumption | with_reducible apply frame_answer | dsimp only | split)

theorem frame_giveNotice {L : List Block} {s₀ s₁ : State} (x : Notice) (hf : unchangedBut L s₀ s₁)
    (hnotices : Block.notices ∈ L) :
    unchangedBut L s₀ (State.giveNotice s₁ x) := by
  unfold State.giveNotice
  repeat (first | with_reducible assumption | with_reducible apply frame_setNotices | dsimp only | split)

theorem frame_withdrawBoundaries {L : List Block} {s₀ s₁ : State} (hf : unchangedBut L s₀ s₁)
    (hnotices : Block.notices ∈ L) :
    unchangedBut L s₀ (State.withdrawBoundaries s₁) := by
  unfold State.withdrawBoundaries
  repeat (first | with_reducible assumption | with_reducible apply frame_setNotices | dsimp only | split)

theorem frame_endOfRange {L : List Block} {s₀ s₁ : State} (hf : unchangedBut L s₀ s₁)
    (htime : Block.time ∈ L) (hspool : Block.spool ∈ L) (hlink : Block.link ∈ L) (hnotices : Block.notices ∈ L) :
    unchangedBut L s₀ (State.endOfRange s₁) := by
  unfold State.endOfRange
  repeat (first | with_reducible assumption | with_reducible apply frame_setTime | with_reducible apply frame_systemEvent | with_reducible apply frame_withdrawBoundaries | dsimp only | split)

theorem frame_endSecond {L : List Block} {s₀ s₁ : State}  (hf : unchangedBut L s₀ s₁)
    (htime : Block.time ∈ L) (hspool : Block.spool ∈ L) (hlink : Block.link ∈ L) (hnotices : Block.notices ∈ L) :
    unchangedBut L s₀ (State.endSecond s₁) := by
  unfold State.endSecond
  repeat (first | with_reducible assumption | with_reducible apply frame_setTime | with_reducible apply frame_endOfRange | with_reducible apply frame_giveNotice | dsimp only | split)

theorem frame_countPeriods {L : List Block} {s t : State} (seconds n : Nat) (h : unchangedBut L s t)
    (htime : Block.time ∈ L) (hspool : Block.spool ∈ L) (hlink : Block.link ∈ L) (hnotices : Block.notices ∈ L) :
    unchangedBut L s (State.countPeriods seconds t n) := by
  induction seconds generalizing t n with
  | zero => exact h
  | succ k ih =>
    unfold State.countPeriods
    dsimp only
    split
    · exact h
    · split
      · exact frame_setTime _ h htime
      · exact ih _ (frame_endSecond h htime hspool hlink hnotices)

theorem frame_passPeriods {L : List Block} {s₀ s₁ : State} (n : Nat) (hf : unchangedBut L s₀ s₁)
    (htime : Block.time ∈ L) (hspool : Block.spool ∈ L) (hlink : Block.link ∈ L) (hnotices : Block.notices ∈ L) :
    unchangedBut L s₀ (State.passPeriods s₁ n) := by
  unfold State.passPeriods
  repeat (first | with_reducible assumption | with_reducible apply frame_countPeriods | with_reducible apply frame_setTime | dsimp only)

theorem frame_reach {L : List Block} {s₀ s₁ : State} (t : Elapsed) (hf : unchangedBut L s₀ s₁)
    (htime : Block.time ∈ L) (hspool : Block.spool ∈ L) (hlink : Block.link ∈ L) (hnotices : Block.notices ∈ L) :
    unchangedBut L s₀ (State.reach s₁ t) := by
  unfold State.reach
  repeat (first | with_reducible assumption | with_reducible apply frame_passPeriods | dsimp only | split)

/-- Time passed to a timer's expiry touches the clock, the notices of the seconds ended on the way, and where the clock runs
off its range its entry and the report of it (R1, R4, R5). -/
theorem reach_touches (s : State) (t : Elapsed) : unchangedBut timerBlocks s (s.reach t) :=
  frame_reach t (unchangedBut.refl _ s) (by decide) (by decide) (by decide) (by decide)

/-! ## Slots -/

theorem frame_setSlot {L : List Block} {s₀ s₁ : State} (a : Nat) (x : Slot) (hf : unchangedBut L s₀ s₁)
    (hroster : Block.roster ∈ L) :
    unchangedBut L s₀ (State.setSlot s₁ a x) := by
  unfold State.setSlot
  repeat (first | with_reducible assumption | with_reducible apply frame_setRoster | dsimp only | split)

theorem frame_dropReferences {L : List Block} {s₀ s₁ : State} (a : Nat) (hf : unchangedBut L s₀ s₁)
    (hrecords : Block.records ∈ L) :
    unchangedBut L s₀ (State.dropReferences s₁ a) := by
  unfold State.dropReferences
  repeat (first | with_reducible assumption | with_reducible apply frame_setRecords | dsimp only | split)

theorem frame_damageSlot {L : List Block} {s₀ s₁ : State} (a : Nat) (hf : unchangedBut L s₀ s₁)
    (hroster : Block.roster ∈ L) (hrecords : Block.records ∈ L) (hspool : Block.spool ∈ L) (hlink : Block.link ∈ L) :
    unchangedBut L s₀ (State.damageSlot s₁ a) := by
  unfold State.damageSlot
  repeat (first | with_reducible assumption | with_reducible apply frame_setRoster | with_reducible apply frame_systemEvent | with_reducible apply frame_dropReferences | dsimp only | split)

theorem frame_checkedRead {L : List Block} {s₀ s₁ : State} (a : Nat) (hf : unchangedBut L s₀ s₁)
    (hroster : Block.roster ∈ L) (hrecords : Block.records ∈ L) (hspool : Block.spool ∈ L) (hlink : Block.link ∈ L) :
    unchangedBut L s₀ (State.checkedRead s₁ a) := by
  unfold State.checkedRead
  repeat (first | with_reducible assumption | with_reducible apply frame_setRoster | with_reducible apply frame_setSlot | with_reducible apply frame_damageSlot | dsimp only | split)

theorem frame_readSlots {L : List Block} {s₀ s₁ : State} (l : List Nat) (hf : unchangedBut L s₀ s₁)
    (hroster : Block.roster ∈ L) (hrecords : Block.records ∈ L) (hspool : Block.spool ∈ L) (hlink : Block.link ∈ L) :
    unchangedBut L s₀ (State.readSlots s₁ l) := by
  unfold State.readSlots
  repeat (first | with_reducible assumption | (with_reducible intro _ _ _) | with_reducible apply frame_foldl | with_reducible apply frame_checkedRead | dsimp only | split)

theorem frame_lookup {L : List Block} {s₀ s₁ : State} (badge : Nat) (hf : unchangedBut L s₀ s₁)
    (hroster : Block.roster ∈ L) (hrecords : Block.records ∈ L) (hspool : Block.spool ∈ L) (hlink : Block.link ∈ L) :
    unchangedBut L s₀ (State.lookup s₁ badge).1 := by
  unfold State.lookup
  repeat (first | with_reducible assumption | with_reducible apply frame_readSlots | dsimp only | split)

theorem frame_writeSlot {L : List Block} {s₀ s₁ : State} (a : Nat) (onWithdrawn : Bool) (f : Slot → Slot) (hf : unchangedBut L s₀ s₁)
    (hroster : Block.roster ∈ L) (hrecords : Block.records ∈ L) (hspool : Block.spool ∈ L) (hlink : Block.link ∈ L) :
    unchangedBut L s₀ (State.writeSlot s₁ a onWithdrawn f).1 := by
  unfold State.writeSlot
  repeat (first | with_reducible assumption | with_reducible apply frame_setSlot | with_reducible apply frame_checkedRead | dsimp only | split)

theorem frame_freeSlotAt {L : List Block} {s₀ s₁ : State} (a : Nat) (hf : unchangedBut L s₀ s₁)
    (hroster : Block.roster ∈ L) :
    unchangedBut L s₀ (State.freeSlotAt s₁ a) := by
  unfold State.freeSlotAt
  repeat (first | with_reducible assumption | with_reducible apply frame_setRoster | dsimp only | split)

theorem frame_enrol {L : List Block} {s₀ s₁ : State} (badge : Nat) (f : EnrolFields) (hf : unchangedBut L s₀ s₁)
    (hroster : Block.roster ∈ L) (hrecords : Block.records ∈ L) (hspool : Block.spool ∈ L) (hlink : Block.link ∈ L) :
    unchangedBut L s₀ (State.enrol s₁ badge f).1 := by
  unfold State.enrol
  repeat (first | with_reducible assumption | with_reducible apply frame_setRoster | with_reducible apply frame_setSlot | with_reducible apply frame_readSlots | dsimp only | split)

theorem frame_advanceEpoch {L : List Block} {s₀ s₁ : State}  (hf : unchangedBut L s₀ s₁)
    (hroster : Block.roster ∈ L) :
    unchangedBut L s₀ (State.advanceEpoch s₁) := by
  unfold State.advanceEpoch
  repeat (first | with_reducible assumption | with_reducible apply frame_setRoster | dsimp only | split)

theorem frame_clearMark {L : List Block} {s₀ s₁ : State} (l : LaneId) (slot : Option Nat) (hf : unchangedBut L s₀ s₁)
    (hroster : Block.roster ∈ L) (hrecords : Block.records ∈ L) (hspool : Block.spool ∈ L) (hlink : Block.link ∈ L) :
    unchangedBut L s₀ (State.clearMark s₁ l slot) := by
  unfold State.clearMark
  repeat (first | with_reducible assumption | with_reducible apply frame_writeSlot | dsimp only | split)

/-! ## Records -/

theorem frame_setRecord {L : List Block} {s₀ s₁ : State} (a : Nat) (r : ShiftRecord) (hf : unchangedBut L s₀ s₁)
    (hroster : Block.roster ∈ L) :
    unchangedBut L s₀ (State.setRecord s₁ a r) := by
  unfold State.setRecord
  repeat (first | with_reducible assumption | with_reducible apply frame_setSlot | dsimp only | split)

theorem frame_openRecord {L : List Block} {s₀ s₁ : State} (a : Nat) (i : Stamp) (offWindow : Bool) (hf : unchangedBut L s₀ s₁)
    (hroster : Block.roster ∈ L) (hrecords : Block.records ∈ L) :
    unchangedBut L s₀ (State.openRecord s₁ a i offWindow) := by
  unfold State.openRecord
  repeat (first | with_reducible assumption | with_reducible apply frame_setRecords | with_reducible apply frame_setRecord | dsimp only | split)

theorem frame_placeTotal {L : List Block} {s t : State} (a : Nat) (d : RecordData) (out : Stamp) (x : ShiftTotal)
    (h : unchangedBut L s t) (hroster : Block.roster ∈ L) (hrecords : Block.records ∈ L) (hspool : Block.spool ∈ L) :
    unchangedBut L s (t.placeTotal a d out x).1 := by
  unfold State.placeTotal
  split
  · rename_i u hu
    split at hu
    · exact frame_setRecord _ _ (frame_offerTotal _ h hspool hu) hroster
    · cases hu
  · exact frame_setRecords _ (frame_setRecord _ _ h hroster) hrecords

theorem frame_closeRecord {L : List Block} {s₀ s₁ : State} (a : Nat) (out : Stamp) (cause : ClosureCause) (hf : unchangedBut L s₀ s₁)
    (hroster : Block.roster ∈ L) (hrecords : Block.records ∈ L) (hspool : Block.spool ∈ L) (hlink : Block.link ∈ L) :
    unchangedBut L s₀ (State.closeRecord s₁ a out cause).1 := by
  unfold State.closeRecord
  repeat (first | with_reducible assumption | with_reducible apply frame_setRecords | with_reducible apply frame_setSlot | with_reducible apply frame_checkedRead | with_reducible apply frame_placeTotal | dsimp only | split)

theorem frame_recordPunch {L : List Block} {s₀ s₁ : State} (a : Nat) (cls : Classification) (i : Stamp) (offWindow : Bool) (hf : unchangedBut L s₀ s₁)
    (hroster : Block.roster ∈ L) (hrecords : Block.records ∈ L) (hspool : Block.spool ∈ L) (hlink : Block.link ∈ L) :
    unchangedBut L s₀ (State.recordPunch s₁ a cls i offWindow).1 := by
  unfold State.recordPunch
  repeat (first | with_reducible assumption | with_reducible apply frame_checkedRead | with_reducible apply frame_setRecord | with_reducible apply frame_openRecord | with_reducible apply frame_closeRecord | dsimp only | split)

theorem frame_closeHead {L : List Block} {s t u : State} (b : Stamp) (h : unchangedBut L s t)
    (hroster : Block.roster ∈ L) (hrecords : Block.records ∈ L) (hspool : Block.spool ∈ L) (hlink : Block.link ∈ L) (hu : t.closeHead b = some u) : unchangedBut L s u := by
  unfold State.closeHead at hu
  split at hu
  · cases hu
  · split at hu
    · split at hu
      · cases hu
        exact frame_closeRecord _ _ _ h hroster hrecords hspool hlink
      · cases hu
    · cases hu

theorem frame_closeDueLoop {L : List Block} {s t : State} (n : Nat) (b : Stamp) (h : unchangedBut L s t)
    (hroster : Block.roster ∈ L) (hrecords : Block.records ∈ L) (hspool : Block.spool ∈ L) (hlink : Block.link ∈ L) : unchangedBut L s (State.closeDueLoop n t b) := by
  induction n generalizing t with
  | zero => exact h
  | succ n ih =>
    unfold State.closeDueLoop
    split
    · exact h
    · rename_i u hu
      exact ih (frame_closeHead b h hroster hrecords hspool hlink hu)

theorem frame_closeDue {L : List Block} {s₀ s₁ : State} (b : Stamp) (hf : unchangedBut L s₀ s₁)
    (hroster : Block.roster ∈ L) (hrecords : Block.records ∈ L) (hspool : Block.spool ∈ L) (hlink : Block.link ∈ L) :
    unchangedBut L s₀ (State.closeDue s₁ b) := by
  unfold State.closeDue
  repeat (first | with_reducible assumption | with_reducible apply frame_closeDueLoop | dsimp only | split)

theorem frame_moveHead {L : List Block} {s t : State} (h : unchangedBut L s t)
    (hroster : Block.roster ∈ L) (hrecords : Block.records ∈ L) (hspool : Block.spool ∈ L) (hlink : Block.link ∈ L) : unchangedBut L s t.moveHead.1 := by
  have hread : ∀ a, unchangedBut L s (t.checkedRead a) := fun a => frame_checkedRead a h hroster hrecords hspool hlink
  unfold State.moveHead
  split
  · exact h
  · rename_i a _ _
    dsimp only
    split
    · exact hread _
    · split
      · split
        · exact hread _
        · rename_i u hu
          have hv := frame_setRecords { u.records with closureQueue := u.records.closureQueue.filter fun x => decide (x ≠ a) }
            (frame_offerTotal _ (hread _) hspool hu) hrecords
          dsimp only
          split
          · exact frame_freeSlotAt _ hv hroster
          · exact frame_setRecord _ _ hv hroster
      · exact hread _

theorem frame_moveLoop {L : List Block} {s t : State} (n : Nat) (h : unchangedBut L s t)
    (hroster : Block.roster ∈ L) (hrecords : Block.records ∈ L) (hspool : Block.spool ∈ L) (hlink : Block.link ∈ L) : unchangedBut L s (State.moveLoop n t) := by
  induction n generalizing t with
  | zero => exact h
  | succ n ih =>
    unfold State.moveLoop
    dsimp only
    split
    · exact ih (frame_moveHead h hroster hrecords hspool hlink)
    · exact frame_moveHead h hroster hrecords hspool hlink

theorem frame_moveTotals {L : List Block} {s₀ s₁ : State}  (hf : unchangedBut L s₀ s₁)
    (hroster : Block.roster ∈ L) (hrecords : Block.records ∈ L) (hspool : Block.spool ∈ L) (hlink : Block.link ∈ L) :
    unchangedBut L s₀ (State.moveTotals s₁) := by
  unfold State.moveTotals
  repeat (first | with_reducible assumption | with_reducible apply frame_moveLoop | dsimp only | split)

/-! ## Lanes -/

theorem frame_retakeRequested {L : List Block} {s₀ s₁ : State} (l : LaneId) (hf : unchangedBut L s₀ s₁)
    (hlanes : Block.lanes ∈ L) :
    unchangedBut L s₀ (State.retakeRequested s₁ l) := by
  unfold State.retakeRequested
  repeat (first | with_reducible assumption | with_reducible apply frame_setLane | dsimp only | split)

theorem frame_retakeRelease {L : List Block} {s₀ s₁ : State} (l : LaneId) (hf : unchangedBut L s₀ s₁)
    (hinputs : Block.inputs ∈ L) :
    unchangedBut L s₀ (State.retakeRelease s₁ l) := by
  unfold State.retakeRelease
  repeat (first | with_reducible assumption | with_reducible apply frame_setInputs | dsimp only | split)

theorem frame_retakeBell {L : List Block} {s₀ s₁ : State} (b : BellId) (hf : unchangedBut L s₀ s₁)
    (hinputs : Block.inputs ∈ L) :
    unchangedBut L s₀ (State.retakeBell s₁ b) := by
  unfold State.retakeBell
  repeat (first | with_reducible assumption | with_reducible apply frame_setInputs | dsimp only | split)

theorem frame_retakeLevels {L : List Block} {s₀ s₁ : State}  (hf : unchangedBut L s₀ s₁)
    (hlanes : Block.lanes ∈ L) (hinputs : Block.inputs ∈ L) :
    unchangedBut L s₀ (State.retakeLevels s₁) := by
  unfold State.retakeLevels
  repeat (first | with_reducible assumption | (with_reducible intro _ _ _) | with_reducible apply frame_foldl | with_reducible apply frame_retakeRequested | with_reducible apply frame_retakeRelease | with_reducible apply frame_retakeBell | dsimp only | split)

theorem frame_queueVerdict {L : List Block} {s₀ s₁ : State} (h : Head) (v : Verdict) (hf : unchangedBut L s₀ s₁)
    (hpunch : Block.punch ∈ L) :
    unchangedBut L s₀ (State.queueVerdict s₁ h v) := by
  unfold State.queueVerdict
  repeat (first | with_reducible assumption | with_reducible apply frame_setPunch | dsimp only | split)

theorem frame_dropHead {L : List Block} {s₀ s₁ : State} (h : Head) (hf : unchangedBut L s₀ s₁)
    (hpunch : Block.punch ∈ L) :
    unchangedBut L s₀ (State.dropHead s₁ h) := by
  unfold State.dropHead
  repeat (first | with_reducible assumption | with_reducible apply frame_setPunch | dsimp only | split)

theorem frame_dropIfLeft {L : List Block} {s₀ s₁ : State} (before : Bool) (h : Head) (hf : unchangedBut L s₀ s₁)
    (hpunch : Block.punch ∈ L) :
    unchangedBut L s₀ (State.dropIfLeft s₁ before h) := by
  unfold State.dropIfLeft
  repeat (first | with_reducible assumption | with_reducible apply frame_dropHead | dsimp only | split)

theorem frame_setMode {L : List Block} {s₀ s₁ : State} (l : LaneId) (m : LaneMode) (hf : unchangedBut L s₀ s₁)
    (hlanes : Block.lanes ∈ L) :
    unchangedBut L s₀ (State.setMode s₁ l m) := by
  unfold State.setMode
  repeat (first | with_reducible assumption | with_reducible apply frame_setLane | dsimp only | split)

theorem frame_askMode {L : List Block} {s₀ s₁ : State} (m : AskMode) (l : LaneId) (hf : unchangedBut L s₀ s₁)
    (hlanes : Block.lanes ∈ L) :
    unchangedBut L s₀ (State.askMode s₁ m l) := by
  unfold State.askMode
  repeat (first | with_reducible assumption | with_reducible apply frame_setLane | with_reducible apply frame_setMode | dsimp only | split)

theorem frame_askModeIn {L : List Block} {s₀ s₁ : State} (set : LaneSet) (m : AskMode) (l : LaneId) (hf : unchangedBut L s₀ s₁)
    (hlanes : Block.lanes ∈ L) :
    unchangedBut L s₀ (State.askModeIn set m s₁ l) := by
  unfold State.askModeIn
  repeat (first | with_reducible assumption | with_reducible apply frame_askMode | dsimp only | split)

theorem frame_askModes {L : List Block} {s₀ s₁ : State} (set : LaneSet) (m : AskMode) (hf : unchangedBut L s₀ s₁)
    (hlanes : Block.lanes ∈ L) :
    unchangedBut L s₀ (State.askModes s₁ set m) := by
  unfold State.askModes
  repeat (first | with_reducible assumption | (with_reducible intro _ _ _) | with_reducible apply frame_foldl | with_reducible apply frame_askModeIn | dsimp only | split)

theorem frame_restoreMode {L : List Block} {s₀ s₁ : State} (l : LaneId) (hf : unchangedBut L s₀ s₁)
    (hlanes : Block.lanes ∈ L) :
    unchangedBut L s₀ (State.restoreMode s₁ l) := by
  unfold State.restoreMode
  repeat (first | with_reducible assumption | with_reducible apply frame_setLane | with_reducible apply frame_setMode | dsimp only | split)

theorem frame_enterEgress {L : List Block} {s₀ s₁ : State} (l : LaneId) (hf : unchangedBut L s₀ s₁)
    (hlanes : Block.lanes ∈ L) :
    unchangedBut L s₀ (State.enterEgress s₁ l) := by
  unfold State.enterEgress
  repeat (first | with_reducible assumption | with_reducible apply frame_setLane | dsimp only | split)

theorem frame_fitPairMember {L : List Block} {s₀ s₁ : State} (l : LaneId) (hf : unchangedBut L s₀ s₁)
    (hlanes : Block.lanes ∈ L) (hinputs : Block.inputs ∈ L) :
    unchangedBut L s₀ (State.fitPairMember s₁ l) := by
  unfold State.fitPairMember
  repeat (first | with_reducible assumption | with_reducible apply frame_setInputs | with_reducible apply frame_setLane | with_reducible apply frame_setMode | dsimp only | split)

theorem frame_fitPair {L : List Block} {s₀ s₁ : State} (l : LaneId) (hf : unchangedBut L s₀ s₁)
    (hlanes : Block.lanes ∈ L) (hinputs : Block.inputs ∈ L) :
    unchangedBut L s₀ (State.fitPair s₁ l) := by
  unfold State.fitPair
  repeat (first | with_reducible assumption | with_reducible apply frame_fitPairMember | dsimp only | split)

theorem frame_kindInEvacuation {L : List Block} {s₀ s₁ : State} (l : LaneId) (was : LaneKind) (now : LaneKind) (hf : unchangedBut L s₀ s₁)
    (hlanes : Block.lanes ∈ L) :
    unchangedBut L s₀ (State.kindInEvacuation s₁ l was now) := by
  unfold State.kindInEvacuation
  repeat (first | with_reducible assumption | with_reducible apply frame_restoreMode | with_reducible apply frame_enterEgress | dsimp only | split)

theorem frame_startDead {L : List Block} {s₀ s₁ : State} (l : LaneId) (hf : unchangedBut L s₀ s₁)
    (hlanes : Block.lanes ∈ L) :
    unchangedBut L s₀ (State.startDead s₁ l) := by
  unfold State.startDead
  repeat (first | with_reducible assumption | with_reducible apply frame_setLane | dsimp only | split)

theorem frame_startPartnerDead {L : List Block} {s₀ s₁ : State} (l : LaneId) (hf : unchangedBut L s₀ s₁)
    (hlanes : Block.lanes ∈ L) :
    unchangedBut L s₀ (State.startPartnerDead s₁ l) := by
  unfold State.startPartnerDead
  repeat (first | with_reducible assumption | with_reducible apply frame_startDead | dsimp only | split)

theorem frame_keepDead {L : List Block} {s₀ s₁ : State} (was : State) (l : LaneId) (hf : unchangedBut L s₀ s₁)
    (hlanes : Block.lanes ∈ L) :
    unchangedBut L s₀ (State.keepDead was s₁ l) := by
  unfold State.keepDead
  repeat (first | with_reducible assumption | with_reducible apply frame_setLane | dsimp only | split)

theorem frame_fitDeliveries {L : List Block} {s₀ s₁ : State} (l : LaneId) (a : Option Bool) (b : Option Bool) (hf : unchangedBut L s₀ s₁)
    (hinputs : Block.inputs ∈ L) :
    unchangedBut L s₀ (State.fitDeliveries s₁ l a b) := by
  unfold State.fitDeliveries
  repeat (first | with_reducible assumption | with_reducible apply frame_setInputs | dsimp only | split)

theorem frame_fitToKind {L : List Block} {s₀ s₁ : State} (l : LaneId) (hf : unchangedBut L s₀ s₁)
    (hinputs : Block.inputs ∈ L) :
    unchangedBut L s₀ (State.fitToKind s₁ l) := by
  unfold State.fitToKind
  repeat (first | with_reducible assumption | with_reducible apply frame_fitDeliveries | dsimp only | split)

theorem frame_applySetup {L : List Block} {s₀ s₁ : State} (l : LaneId) (setup : LaneSetup) (hf : unchangedBut L s₀ s₁)
    (hpunch : Block.punch ∈ L) (hlanes : Block.lanes ∈ L) (hinputs : Block.inputs ∈ L) :
    unchangedBut L s₀ (State.applySetup s₁ l setup) := by
  unfold State.applySetup
  repeat (first | with_reducible assumption | (with_reducible intro _ _ _) | with_reducible apply frame_foldl | with_reducible apply frame_setLane | with_reducible apply frame_dropIfLeft | with_reducible apply frame_fitPair | with_reducible apply frame_kindInEvacuation | with_reducible apply frame_keepDead | with_reducible apply frame_fitToKind | dsimp only | split)

theorem frame_becomeIdle {L : List Block} {s₀ s₁ : State} (l : LaneId) (hf : unchangedBut L s₀ s₁)
    (hpunch : Block.punch ∈ L) (hlanes : Block.lanes ∈ L) (hinputs : Block.inputs ∈ L) :
    unchangedBut L s₀ (State.becomeIdle s₁ l) := by
  unfold State.becomeIdle
  repeat (first | with_reducible assumption | with_reducible apply frame_setLane | with_reducible apply frame_applySetup | dsimp only | split)

theorem frame_setHanded {L : List Block} {s₀ s₁ : State} (l : LaneId) (p : Option HandedPunch) (hf : unchangedBut L s₀ s₁)
    (hpunch : Block.punch ∈ L) :
    unchangedBut L s₀ (State.setHanded s₁ l p) := by
  unfold State.setHanded
  repeat (first | with_reducible assumption | with_reducible apply frame_setPunch | dsimp only | split)

theorem frame_dropHanded {L : List Block} {s₀ s₁ : State} (l : LaneId) (hf : unchangedBut L s₀ s₁)
    (hroster : Block.roster ∈ L) (hrecords : Block.records ∈ L) (hpunch : Block.punch ∈ L) (hspool : Block.spool ∈ L) (hlink : Block.link ∈ L) :
    unchangedBut L s₀ (State.dropHanded s₁ l) := by
  unfold State.dropHanded
  repeat (first | with_reducible assumption | with_reducible apply frame_clearMark | with_reducible apply frame_setHanded | dsimp only | split)

theorem frame_voidPunch {L : List Block} {s₀ s₁ : State} (l : LaneId) (cause : VoidCause) (hf : unchangedBut L s₀ s₁)
    (hroster : Block.roster ∈ L) (hrecords : Block.records ∈ L) (hpunch : Block.punch ∈ L) (hspool : Block.spool ∈ L) (hlink : Block.link ∈ L) :
    unchangedBut L s₀ (State.voidPunch s₁ l cause) := by
  unfold State.voidPunch
  repeat (first | with_reducible assumption | with_reducible apply frame_sendReport | with_reducible apply frame_queueVerdict | with_reducible apply frame_dropHanded | dsimp only | split)

theorem frame_tellReleased {L : List Block} {s₀ s₁ : State} (l : LaneId) (hf : unchangedBut L s₀ s₁)
    (hpunch : Block.punch ∈ L) :
    unchangedBut L s₀ (State.tellReleased s₁ l) := by
  unfold State.tellReleased
  repeat (first | with_reducible assumption | with_reducible apply frame_queueVerdict | dsimp only | split)

theorem frame_tellWaiting {L : List Block} {s₀ s₁ : State} (l : LaneId) (hf : unchangedBut L s₀ s₁)
    (hpunch : Block.punch ∈ L) :
    unchangedBut L s₀ (State.tellWaiting s₁ l) := by
  unfold State.tellWaiting
  repeat (first | with_reducible assumption | with_reducible apply frame_queueVerdict | dsimp only | split)

theorem frame_tellRefused {L : List Block} {s₀ s₁ : State} (l : LaneId) (hf : unchangedBut L s₀ s₁)
    (hroster : Block.roster ∈ L) (hrecords : Block.records ∈ L) (hpunch : Block.punch ∈ L) (hspool : Block.spool ∈ L) (hlink : Block.link ∈ L) :
    unchangedBut L s₀ (State.tellRefused s₁ l) := by
  unfold State.tellRefused
  repeat (first | with_reducible assumption | with_reducible apply frame_queueVerdict | with_reducible apply frame_dropHanded | dsimp only | split)

theorem frame_releaseGrant {L : List Block} {s₀ s₁ : State} (l : LaneId) (g : Grant) (hf : unchangedBut L s₀ s₁)
    (hpunch : Block.punch ∈ L) (hlanes : Block.lanes ∈ L) :
    unchangedBut L s₀ (State.releaseGrant s₁ l g) := by
  unfold State.releaseGrant
  repeat (first | with_reducible assumption | with_reducible apply frame_setLane | with_reducible apply frame_tellReleased | dsimp only | split)

theorem frame_holdGrant {L : List Block} {s₀ s₁ : State} (l : LaneId) (g : Grant) (hf : unchangedBut L s₀ s₁)
    (hpunch : Block.punch ∈ L) (hlanes : Block.lanes ∈ L) :
    unchangedBut L s₀ (State.holdGrant s₁ l g) := by
  unfold State.holdGrant
  repeat (first | with_reducible assumption | with_reducible apply frame_setLane | with_reducible apply frame_tellWaiting | dsimp only | split)

theorem frame_lookOnce {L : List Block} {s₀ s₁ : State} (l : LaneId) (p : LaneId) (hf : unchangedBut L s₀ s₁)
    (hpunch : Block.punch ∈ L) (hlanes : Block.lanes ∈ L) :
    unchangedBut L s₀ (State.lookOnce s₁ l p) := by
  unfold State.lookOnce
  repeat (first | with_reducible assumption | with_reducible apply frame_releaseGrant | dsimp only | split)

theorem frame_lookAtPartner {L : List Block} {s₀ s₁ : State} (l : LaneId) (p : LaneId) (hf : unchangedBut L s₀ s₁)
    (hpunch : Block.punch ∈ L) (hlanes : Block.lanes ∈ L) :
    unchangedBut L s₀ (State.lookAtPartner s₁ l p) := by
  unfold State.lookAtPartner
  repeat (first | with_reducible assumption | with_reducible apply frame_lookOnce | with_reducible apply frame_releaseGrant | dsimp only | split)

theorem frame_lookAtEntry {L : List Block} {s₀ s₁ : State} (l : LaneId) (hf : unchangedBut L s₀ s₁)
    (hpunch : Block.punch ∈ L) (hlanes : Block.lanes ∈ L) :
    unchangedBut L s₀ (State.lookAtEntry s₁ l) := by
  unfold State.lookAtEntry
  repeat (first | with_reducible assumption | with_reducible apply frame_lookAtPartner | dsimp only | split)

theorem frame_takeGrant {L : List Block} {s₀ s₁ : State} (l : LaneId) (g : Grant) (hf : unchangedBut L s₀ s₁)
    (hpunch : Block.punch ∈ L) (hlanes : Block.lanes ∈ L) :
    unchangedBut L s₀ (State.takeGrant s₁ l g) := by
  unfold State.takeGrant
  repeat (first | with_reducible assumption | with_reducible apply frame_releaseGrant | with_reducible apply frame_lookAtEntry | with_reducible apply frame_holdGrant | dsimp only | split)

theorem frame_look {L : List Block} {s₀ s₁ : State} (l : LaneId) (hf : unchangedBut L s₀ s₁)
    (hpunch : Block.punch ∈ L) (hlanes : Block.lanes ∈ L) :
    unchangedBut L s₀ (State.look s₁ l) := by
  unfold State.look
  repeat (first | with_reducible assumption | with_reducible apply frame_lookOnce | dsimp only | split)

theorem frame_lookIfChanged {L : List Block} {s₀ s₁ : State} (l : LaneId) (hf : unchangedBut L s₀ s₁)
    (hpunch : Block.punch ∈ L) (hlanes : Block.lanes ∈ L) :
    unchangedBut L s₀ (State.lookIfChanged s₁ l) := by
  unfold State.lookIfChanged
  repeat (first | with_reducible assumption | with_reducible apply frame_look | dsimp only | split)

theorem frame_settle {L : List Block} {s₀ s₁ : State}  (hf : unchangedBut L s₀ s₁)
    (hpunch : Block.punch ∈ L) (hlanes : Block.lanes ∈ L) (hinputs : Block.inputs ∈ L) :
    unchangedBut L s₀ (State.settle s₁) := by
  unfold State.settle
  repeat (first | with_reducible assumption | (with_reducible intro _ _ _) | with_reducible apply frame_foldl | with_reducible apply frame_retakeLevels | with_reducible apply frame_lookIfChanged | dsimp only | split)

theorem frame_noticeEnd {L : List Block} {s₀ s₁ : State} (l : LaneId) (how : GrantEnd) (hf : unchangedBut L s₀ s₁)
    (hroster : Block.roster ∈ L) (hrecords : Block.records ∈ L) (hpunch : Block.punch ∈ L) (hspool : Block.spool ∈ L) (hlink : Block.link ∈ L) :
    unchangedBut L s₀ (State.noticeEnd s₁ l how) := by
  unfold State.noticeEnd
  repeat (first | with_reducible assumption | with_reducible apply frame_dropHanded | with_reducible apply frame_voidPunch | with_reducible apply frame_tellRefused | dsimp only | split)

theorem frame_endGrant {L : List Block} {s₀ s₁ : State} (l : LaneId) (how : GrantEnd) (hf : unchangedBut L s₀ s₁)
    (hroster : Block.roster ∈ L) (hrecords : Block.records ∈ L) (hpunch : Block.punch ∈ L) (hlanes : Block.lanes ∈ L) (hinputs : Block.inputs ∈ L) (hspool : Block.spool ∈ L) (hlink : Block.link ∈ L) :
    unchangedBut L s₀ (State.endGrant s₁ l how) := by
  unfold State.endGrant
  repeat (first | with_reducible assumption | with_reducible apply frame_becomeIdle | with_reducible apply frame_noticeEnd | dsimp only | split)

theorem frame_zeroEncoder {L : List Block} {s₀ s₁ : State} (l : LaneId) (hf : unchangedBut L s₀ s₁)
    (hlanes : Block.lanes ∈ L) :
    unchangedBut L s₀ (State.zeroEncoder s₁ l) := by
  unfold State.zeroEncoder
  repeat (first | with_reducible assumption | with_reducible apply frame_setLane | dsimp only | split)

theorem frame_voidGrant {L : List Block} {s₀ s₁ : State} (cause : VoidCause) (l : LaneId) (hf : unchangedBut L s₀ s₁)
    (hroster : Block.roster ∈ L) (hrecords : Block.records ∈ L) (hpunch : Block.punch ∈ L) (hlanes : Block.lanes ∈ L) (hinputs : Block.inputs ∈ L) (hspool : Block.spool ∈ L) (hlink : Block.link ∈ L) :
    unchangedBut L s₀ (State.voidGrant cause s₁ l) := by
  unfold State.voidGrant
  repeat (first | with_reducible assumption | with_reducible apply frame_endGrant | dsimp only | split)

theorem frame_cancelWait {L : List Block} {s₀ s₁ : State} (withEnd : Bool) (l : LaneId) (hf : unchangedBut L s₀ s₁)
    (hpunch : Block.punch ∈ L) (hlanes : Block.lanes ∈ L) (hinputs : Block.inputs ∈ L) :
    unchangedBut L s₀ (State.cancelWait withEnd s₁ l) := by
  unfold State.cancelWait
  repeat (first | with_reducible assumption | with_reducible apply frame_setPunch | with_reducible apply frame_queueVerdict | with_reducible apply frame_becomeIdle | dsimp only | split)

/-! ## Rings -/

theorem frame_setBell {L : List Block} {s₀ s₁ : State} (b : BellId) (r : Option Ring) (level : BellLevel) (hf : unchangedBut L s₀ s₁)
    (hbells : Block.bells ∈ L) :
    unchangedBut L s₀ (State.setBell s₁ b r level) := by
  unfold State.setBell
  repeat (first | with_reducible assumption | with_reducible apply frame_setBells | dsimp only | split)

theorem frame_endRing {L : List Block} {s₀ s₁ : State} (b : BellId) (hf : unchangedBut L s₀ s₁)
    (hbells : Block.bells ∈ L) :
    unchangedBut L s₀ (State.endRing s₁ b) := by
  unfold State.endRing
  repeat (first | with_reducible assumption | with_reducible apply frame_setBell | dsimp only | split)

theorem frame_startRing {L : List Block} {s₀ s₁ : State} (b : BellId) (r : Ring) (hf : unchangedBut L s₀ s₁)
    (hbells : Block.bells ∈ L) :
    unchangedBut L s₀ (State.startRing s₁ b r) := by
  unfold State.startRing
  repeat (first | with_reducible assumption | with_reducible apply frame_setBell | dsimp only | split)

theorem frame_requestRing {L : List Block} {s₀ s₁ : State} (p : TonePattern) (duration : Nat) (b : BellId) (hf : unchangedBut L s₀ s₁)
    (hbells : Block.bells ∈ L) :
    unchangedBut L s₀ (State.requestRing s₁ p duration b).1 := by
  unfold State.requestRing
  repeat (first | with_reducible assumption | with_reducible apply frame_startRing | dsimp only | split)

theorem frame_requestRings {L : List Block} {s t : State} (set : BellSet) (p : TonePattern) (duration : Nat)
    (h : unchangedBut L s t) (hbells : Block.bells ∈ L) : unchangedBut L s (t.requestRings set p duration).1 := by
  have key : ∀ (l : List BellId) (acc : State × List (BellId × RingAnswer)), unchangedBut L s acc.1 →
      unchangedBut L s (l.foldl (ringStep set p duration) acc).1 := by
    intro l
    induction l with
    | nil => exact fun acc hacc => hacc
    | cons b rest ih =>
      intro acc hacc
      refine ih _ ?_
      unfold ringStep
      split
      · exact frame_requestRing _ _ _ hacc hbells
      · exact hacc
  exact key _ _ h

theorem frame_startEvacRing {L : List Block} {s₀ s₁ : State} (set : BellSet) (p : TonePattern) (b : BellId) (hf : unchangedBut L s₀ s₁)
    (hbells : Block.bells ∈ L) :
    unchangedBut L s₀ (State.startEvacRing set p s₁ b) := by
  unfold State.startEvacRing
  repeat (first | with_reducible assumption | with_reducible apply frame_startRing | dsimp only | split)

theorem frame_startEvacRings {L : List Block} {s₀ s₁ : State} (e : EvacSet) (hf : unchangedBut L s₀ s₁)
    (hbells : Block.bells ∈ L) :
    unchangedBut L s₀ (State.startEvacRings s₁ e) := by
  unfold State.startEvacRings
  repeat (first | with_reducible assumption | (with_reducible intro _ _ _) | with_reducible apply frame_foldl | with_reducible apply frame_startEvacRing | dsimp only | split)

theorem frame_beginEvacRings {L : List Block} {s₀ s₁ : State} (hf : unchangedBut L s₀ s₁)
    (hbells : Block.bells ∈ L) :
    unchangedBut L s₀ (State.beginEvacRings s₁) := by
  unfold State.beginEvacRings
  repeat (first | with_reducible assumption | with_reducible apply frame_startEvacRings | with_reducible apply frame_setBells | dsimp only | split)

theorem frame_endEvacRing {L : List Block} {s₀ s₁ : State} (b : BellId) (hf : unchangedBut L s₀ s₁)
    (hbells : Block.bells ∈ L) :
    unchangedBut L s₀ (State.endEvacRing s₁ b) := by
  unfold State.endEvacRing
  repeat (first | with_reducible assumption | with_reducible apply frame_endRing | dsimp only | split)

theorem frame_endEvacRings {L : List Block} {s₀ s₁ : State}  (hf : unchangedBut L s₀ s₁)
    (hbells : Block.bells ∈ L) :
    unchangedBut L s₀ (State.endEvacRings s₁) := by
  unfold State.endEvacRings
  repeat (first | with_reducible assumption | (with_reducible intro _ _ _) | with_reducible apply frame_foldl | with_reducible apply frame_setBells | with_reducible apply frame_endEvacRing | dsimp only | split)

theorem frame_endAllRings {L : List Block} {s₀ s₁ : State}  (hf : unchangedBut L s₀ s₁)
    (hbells : Block.bells ∈ L) :
    unchangedBut L s₀ (State.endAllRings s₁) := by
  unfold State.endAllRings
  repeat (first | with_reducible assumption | (with_reducible intro _ _ _) | with_reducible apply frame_foldl | with_reducible apply frame_endRing | dsimp only | split)

theorem frame_followKind {L : List Block} {s₀ s₁ : State} (b : BellId) (hf : unchangedBut L s₀ s₁)
    (hbells : Block.bells ∈ L) :
    unchangedBut L s₀ (State.followKind s₁ b) := by
  unfold State.followKind
  repeat (first | with_reducible assumption | with_reducible apply frame_setBells | dsimp only | split)

/-! ## Punches -/

theorem frame_writeNote {L : List Block} {s₀ s₁ : State} (l : LaneId) (p : HandedPunch) (c : NoteCause) (hf : unchangedBut L s₀ s₁)
    (hspool : Block.spool ∈ L) (hlink : Block.link ∈ L) :
    unchangedBut L s₀ (State.writeNote l p s₁ c) := by
  unfold State.writeNote
  repeat (first | with_reducible assumption | with_reducible apply frame_requestEntry | dsimp only | split)

theorem frame_noteAndReport {L : List Block} {s₀ s₁ : State} (l : LaneId) (p : HandedPunch) (hf : unchangedBut L s₀ s₁)
    (hspool : Block.spool ∈ L) (hlink : Block.link ∈ L) :
    unchangedBut L s₀ (State.noteAndReport s₁ l p) := by
  unfold State.noteAndReport
  repeat (first | with_reducible assumption | (with_reducible intro _ _ _) | with_reducible apply frame_foldl | with_reducible apply frame_sendReport | with_reducible apply frame_writeNote | dsimp only | split)

theorem frame_commitRecord {L : List Block} {s₀ s₁ : State} (a : Nat) (p : HandedPunch) (hf : unchangedBut L s₀ s₁)
    (hroster : Block.roster ∈ L) (hrecords : Block.records ∈ L) (hspool : Block.spool ∈ L) (hlink : Block.link ∈ L) :
    unchangedBut L s₀ (State.commitRecord s₁ a p).1 := by
  unfold State.commitRecord
  repeat (first | with_reducible assumption | with_reducible apply frame_recordPunch | dsimp only | split)

theorem frame_commitSlot {L : List Block} {s₀ s₁ : State} (a : Nat) (p : HandedPunch) (hf : unchangedBut L s₀ s₁)
    (hroster : Block.roster ∈ L) (hrecords : Block.records ∈ L) (hspool : Block.spool ∈ L) (hlink : Block.link ∈ L) :
    unchangedBut L s₀ (State.commitSlot s₁ a p) := by
  unfold State.commitSlot
  repeat (first | with_reducible assumption | with_reducible apply frame_writeSlot | dsimp only | split)

theorem frame_commit {L : List Block} {s₀ s₁ : State} (l : LaneId) (p : HandedPunch) (hf : unchangedBut L s₀ s₁)
    (hroster : Block.roster ∈ L) (hrecords : Block.records ∈ L) (hspool : Block.spool ∈ L) (hlink : Block.link ∈ L) :
    unchangedBut L s₀ (State.commit s₁ l p) := by
  unfold State.commit
  repeat (first | with_reducible assumption | with_reducible apply frame_checkedRead | with_reducible apply frame_noteAndReport | with_reducible apply frame_commitRecord | with_reducible apply frame_commitSlot | dsimp only | split)

theorem frame_passageNotice {L : List Block} {s₀ s₁ : State} (l : LaneId) (hf : unchangedBut L s₀ s₁)
    (hroster : Block.roster ∈ L) (hrecords : Block.records ∈ L) (hspool : Block.spool ∈ L) (hlink : Block.link ∈ L) :
    unchangedBut L s₀ (State.passageNotice s₁ l) := by
  unfold State.passageNotice
  repeat (first | with_reducible assumption | with_reducible apply frame_commit | dsimp only | split)

theorem frame_endPunch {L : List Block} {s₀ s₁ : State} (h : Head) (v : Verdict) (hf : unchangedBut L s₀ s₁)
    (hpunch : Block.punch ∈ L) :
    unchangedBut L s₀ (State.endPunch s₁ h v).1 := by
  unfold State.endPunch
  repeat (first | with_reducible assumption | with_reducible apply frame_queueVerdict | dsimp only | split)

theorem frame_setMark {L : List Block} {s₀ s₁ : State} (l : LaneId) (slot : Option Nat) (hf : unchangedBut L s₀ s₁)
    (hroster : Block.roster ∈ L) (hrecords : Block.records ∈ L) (hspool : Block.spool ∈ L) (hlink : Block.link ∈ L) :
    unchangedBut L s₀ (State.setMark s₁ l slot) := by
  unfold State.setMark
  repeat (first | with_reducible assumption | with_reducible apply frame_writeSlot | dsimp only | split)

theorem frame_grantPunch {L : List Block} {s₀ s₁ : State} (p : HandedPunch) (hf : unchangedBut L s₀ s₁)
    (hroster : Block.roster ∈ L) (hrecords : Block.records ∈ L) (hpunch : Block.punch ∈ L) (hlanes : Block.lanes ∈ L) (hspool : Block.spool ∈ L) (hlink : Block.link ∈ L) :
    unchangedBut L s₀ (State.grantPunch s₁ p).1 := by
  unfold State.grantPunch
  repeat (first | with_reducible assumption | with_reducible apply frame_queueVerdict | with_reducible apply frame_setHanded | with_reducible apply frame_takeGrant | with_reducible apply frame_commit | with_reducible apply frame_setMark | dsimp only | split)

theorem frame_applyMiss {L : List Block} {s₀ s₁ : State} (p : PunchRead) (hf : unchangedBut L s₀ s₁)
    (hroster : Block.roster ∈ L) (hrecords : Block.records ∈ L) (hpunch : Block.punch ∈ L) (hlanes : Block.lanes ∈ L) (hspool : Block.spool ∈ L) (hlink : Block.link ∈ L) :
    unchangedBut L s₀ (State.applyMiss s₁ p).1 := by
  unfold State.applyMiss
  repeat (first | with_reducible assumption | with_reducible apply frame_endPunch | with_reducible apply frame_grantPunch | dsimp only | split)

theorem frame_startReferral {L : List Block} {s₀ s₁ : State} (p : PunchRead) (hf : unchangedBut L s₀ s₁)
    (hpunch : Block.punch ∈ L) (hlanes : Block.lanes ∈ L) (hlink : Block.link ∈ L) :
    unchangedBut L s₀ (State.startReferral s₁ p).1 := by
  unfold State.startReferral
  repeat (first | with_reducible assumption | with_reducible apply frame_setPunch | with_reducible apply frame_setLane | with_reducible apply frame_sendReport | with_reducible apply frame_queueVerdict | dsimp only | split)

theorem frame_missed {L : List Block} {s₀ s₁ : State} (p : PunchRead) (hf : unchangedBut L s₀ s₁)
    (hroster : Block.roster ∈ L) (hrecords : Block.records ∈ L) (hpunch : Block.punch ∈ L) (hlanes : Block.lanes ∈ L) (hspool : Block.spool ∈ L) (hlink : Block.link ∈ L) :
    unchangedBut L s₀ (State.missed s₁ p).1 := by
  unfold State.missed
  repeat (first | with_reducible assumption | with_reducible apply frame_applyMiss | with_reducible apply frame_startReferral | dsimp only | split)

theorem frame_judgeClassified {L : List Block} {s₀ s₁ : State} (p : PunchRead) (a : Nat) (c : Classified) (hf : unchangedBut L s₀ s₁)
    (hroster : Block.roster ∈ L) (hrecords : Block.records ∈ L) (hpunch : Block.punch ∈ L) (hlanes : Block.lanes ∈ L) (hspool : Block.spool ∈ L) (hlink : Block.link ∈ L) :
    unchangedBut L s₀ (State.judgeClassified s₁ p a c).1 := by
  unfold State.judgeClassified
  repeat (first | with_reducible assumption | with_reducible apply frame_endPunch | with_reducible apply frame_grantPunch | dsimp only | split)

theorem frame_raiseUnrecorded {L : List Block} {s₀ s₁ : State} (a : Nat) (yes : Bool) (hf : unchangedBut L s₀ s₁)
    (hroster : Block.roster ∈ L) (hrecords : Block.records ∈ L) (hspool : Block.spool ∈ L) (hlink : Block.link ∈ L) :
    unchangedBut L s₀ (State.raiseUnrecorded s₁ a yes) := by
  unfold State.raiseUnrecorded
  repeat (first | with_reducible assumption | with_reducible apply frame_writeSlot | dsimp only | split)

theorem frame_judgeSlot {L : List Block} {s₀ s₁ : State} (p : PunchRead) (a : Nat) (hf : unchangedBut L s₀ s₁)
    (hroster : Block.roster ∈ L) (hrecords : Block.records ∈ L) (hpunch : Block.punch ∈ L) (hlanes : Block.lanes ∈ L) (hspool : Block.spool ∈ L) (hlink : Block.link ∈ L) :
    unchangedBut L s₀ (State.judgeSlot s₁ p a).1 := by
  unfold State.judgeSlot
  repeat (first | with_reducible assumption | with_reducible apply frame_endPunch | with_reducible apply frame_judgeClassified | with_reducible apply frame_raiseUnrecorded | dsimp only | split)

theorem frame_judge {L : List Block} {s₀ s₁ : State} (p : PunchRead) (hf : unchangedBut L s₀ s₁)
    (hroster : Block.roster ∈ L) (hrecords : Block.records ∈ L) (hpunch : Block.punch ∈ L) (hlanes : Block.lanes ∈ L) (hspool : Block.spool ∈ L) (hlink : Block.link ∈ L) :
    unchangedBut L s₀ (State.judge s₁ p).1 := by
  unfold State.judge
  repeat (first | with_reducible assumption | with_reducible apply frame_lookup | with_reducible apply frame_endPunch | with_reducible apply frame_missed | with_reducible apply frame_judgeSlot | dsimp only | split)

theorem frame_leaveWait {L : List Block} {s₀ s₁ : State} (l : LaneId) (hf : unchangedBut L s₀ s₁)
    (hpunch : Block.punch ∈ L) (hlanes : Block.lanes ∈ L) :
    unchangedBut L s₀ (State.leaveWait s₁ l) := by
  unfold State.leaveWait
  repeat (first | with_reducible assumption | with_reducible apply frame_setPunch | with_reducible apply frame_setLane | dsimp only | split)

theorem frame_settleIdle {L : List Block} {s₀ s₁ : State} (l : LaneId) (hf : unchangedBut L s₀ s₁)
    (hpunch : Block.punch ∈ L) (hlanes : Block.lanes ∈ L) (hinputs : Block.inputs ∈ L) :
    unchangedBut L s₀ (State.settleIdle s₁ l) := by
  unfold State.settleIdle
  repeat (first | with_reducible assumption | with_reducible apply frame_becomeIdle | dsimp only | split)

/-! ## Watches and evacuation -/

theorem frame_setEqual {L : List Block} {s₀ s₁ : State} (k : WatchId) (v : Bool) (hf : unchangedBut L s₀ s₁)
    (hinputs : Block.inputs ∈ L) :
    unchangedBut L s₀ (State.setEqual s₁ k v) := by
  unfold State.setEqual
  repeat (first | with_reducible assumption | with_reducible apply frame_setInputs | dsimp only | split)

theorem frame_deliver {L : List Block} {s₀ s₁ : State} (d : Delivery) (hf : unchangedBut L s₀ s₁)
    (hinputs : Block.inputs ∈ L) :
    unchangedBut L s₀ (State.deliver s₁ d) := by
  unfold State.deliver
  repeat (first | with_reducible assumption | with_reducible apply frame_setInputs | dsimp only | split)

theorem frame_evaluate {L : List Block} {s₀ s₁ : State} (k : WatchId) (hf : unchangedBut L s₀ s₁)
    (hinputs : Block.inputs ∈ L) :
    unchangedBut L s₀ (State.evaluate s₁ k) := by
  unfold State.evaluate
  repeat (first | with_reducible assumption | with_reducible apply frame_setEqual | dsimp only | split)

theorem frame_egressLane {L : List Block} {s₀ s₁ : State} (l : LaneId) (hf : unchangedBut L s₀ s₁)
    (hroster : Block.roster ∈ L) (hrecords : Block.records ∈ L) (hpunch : Block.punch ∈ L) (hlanes : Block.lanes ∈ L) (hinputs : Block.inputs ∈ L) (hspool : Block.spool ∈ L) (hlink : Block.link ∈ L) :
    unchangedBut L s₀ (State.egressLane s₁ l) := by
  unfold State.egressLane
  repeat (first | with_reducible assumption | with_reducible apply frame_enterEgress | with_reducible apply frame_voidGrant | dsimp only | split)

theorem frame_startEvacuation {L : List Block} {s₀ s₁ : State} (k : WatchId) (levels : InputSet) (hf : unchangedBut L s₀ s₁)
    (hroster : Block.roster ∈ L) (hrecords : Block.records ∈ L) (hpunch : Block.punch ∈ L) (hlanes : Block.lanes ∈ L) (hbells : Block.bells ∈ L) (hinputs : Block.inputs ∈ L) (hspool : Block.spool ∈ L) (hlink : Block.link ∈ L) :
    unchangedBut L s₀ (State.startEvacuation s₁ k levels) := by
  unfold State.startEvacuation
  repeat (first | with_reducible assumption | (with_reducible intro _ _ _) | with_reducible apply frame_foldl | with_reducible apply frame_setBells | with_reducible apply frame_setInputs | with_reducible apply frame_systemEvent | with_reducible apply frame_cancelWait | with_reducible apply frame_beginEvacRings | with_reducible apply frame_egressLane | dsimp only | split)

theorem frame_endEvacuation {L : List Block} {s₀ s₁ : State}  (hf : unchangedBut L s₀ s₁)
    (hroster : Block.roster ∈ L) (hlanes : Block.lanes ∈ L) (hinputs : Block.inputs ∈ L) :
    unchangedBut L s₀ (State.endEvacuation s₁) := by
  unfold State.endEvacuation
  repeat (first | with_reducible assumption | (with_reducible intro _ _ _) | with_reducible apply frame_foldl | with_reducible apply frame_setInputs | with_reducible apply frame_advanceEpoch | with_reducible apply frame_restoreMode | dsimp only | split)

theorem frame_watchBell {L : List Block} {s₀ s₁ : State} (index : Nat) (hf : unchangedBut L s₀ s₁)
    (hbells : Block.bells ∈ L) :
    unchangedBut L s₀ (State.watchBell s₁ index) := by
  unfold State.watchBell
  repeat (first | with_reducible assumption | with_reducible apply frame_requestRings | dsimp only | split)

theorem frame_performAction {L : List Block} {s₀ s₁ : State} (k : WatchId) (levels : InputSet) (y0 : WatchAction) (hf : unchangedBut L s₀ s₁)
    (hroster : Block.roster ∈ L) (hrecords : Block.records ∈ L) (hpunch : Block.punch ∈ L) (hlanes : Block.lanes ∈ L) (hbells : Block.bells ∈ L) (hinputs : Block.inputs ∈ L) (hspool : Block.spool ∈ L) (hlink : Block.link ∈ L) :
    unchangedBut L s₀ (State.performAction s₁ k levels y0) := by
  unfold State.performAction
  repeat (first | with_reducible assumption | with_reducible apply frame_askModes | with_reducible apply frame_startEvacuation | with_reducible apply frame_watchBell | dsimp only | split)

theorem frame_fireWatch {L : List Block} {s₀ s₁ : State} (k : WatchId) (hf : unchangedBut L s₀ s₁)
    (hroster : Block.roster ∈ L) (hrecords : Block.records ∈ L) (hpunch : Block.punch ∈ L) (hlanes : Block.lanes ∈ L) (hbells : Block.bells ∈ L) (hinputs : Block.inputs ∈ L) (hspool : Block.spool ∈ L) (hlink : Block.link ∈ L) :
    unchangedBut L s₀ (State.fireWatch s₁ k) := by
  unfold State.fireWatch
  repeat (first | with_reducible assumption | with_reducible apply frame_setInputs | with_reducible apply frame_systemEvent | with_reducible apply frame_performAction | dsimp only | split)

/-! ## Banks -/

theorem frame_carryOutSwitch {L : List Block} {s₀ s₁ : State} (stamp : Option Stamp) (timed : Bool) (hf : unchangedBut L s₀ s₁)
    (hbanks : Block.banks ∈ L) (hspool : Block.spool ∈ L) (hlink : Block.link ∈ L) :
    unchangedBut L s₀ (State.carryOutSwitch s₁ stamp timed) := by
  unfold State.carryOutSwitch
  repeat (first | with_reducible assumption | with_reducible apply frame_setBanks | with_reducible apply frame_systemEvent | dsimp only | split)

theorem frame_keepOldBank {L : List Block} {s₀ s₁ : State} (later : Nat) (hf : unchangedBut L s₀ s₁)
    (hnotices : Block.notices ∈ L) :
    unchangedBut L s₀ (State.keepOldBank s₁ later) := by
  unfold State.keepOldBank
  repeat (first | with_reducible assumption | with_reducible apply frame_setNotices | dsimp only | split)

theorem frame_switchAtNotice {L : List Block} {s₀ s₁ : State} (stamp : Option Stamp) (timed : Bool) (hf : unchangedBut L s₀ s₁)
    (hbanks : Block.banks ∈ L) (hspool : Block.spool ∈ L) (hlink : Block.link ∈ L) (hnotices : Block.notices ∈ L) :
    unchangedBut L s₀ (State.switchAtNotice s₁ stamp timed) := by
  unfold State.switchAtNotice
  repeat (first | with_reducible assumption | with_reducible apply frame_keepOldBank | with_reducible apply frame_carryOutSwitch | dsimp only | split)

theorem frame_switchIfReached {L : List Block} {s₀ s₁ : State} (t : Stamp) (hf : unchangedBut L s₀ s₁)
    (hbanks : Block.banks ∈ L) (hspool : Block.spool ∈ L) (hlink : Block.link ∈ L) (hnotices : Block.notices ∈ L) :
    unchangedBut L s₀ (State.switchIfReached s₁ t) := by
  unfold State.switchIfReached
  repeat (first | with_reducible assumption | with_reducible apply frame_switchAtNotice | dsimp only | split)

/-! ## Clock and notices -/

theorem frame_giveStep {L : List Block} {s₀ s₁ : State} (old : Option Stamp) (new : Stamp) (hf : unchangedBut L s₀ s₁)
    (hnotices : Block.notices ∈ L) :
    unchangedBut L s₀ (State.giveStep s₁ old new) := by
  unfold State.giveStep
  repeat (first | with_reducible assumption | with_reducible apply frame_giveNotice | dsimp only | split)

theorem frame_dropNotice {L : List Block} {s₀ s₁ : State} (r : Receiver) (hf : unchangedBut L s₀ s₁)
    (hnotices : Block.notices ∈ L) :
    unchangedBut L s₀ (State.dropNotice s₁ r) := by
  unfold State.dropNotice
  repeat (first | with_reducible assumption | with_reducible apply frame_setNotices | dsimp only | split)

theorem frame_fireEntry {L : List Block} {s₀ s₁ : State} (b : Bank) (t : Stamp) (e : ScheduleEntry) (hf : unchangedBut L s₀ s₁)
    (hlanes : Block.lanes ∈ L) (hbells : Block.bells ∈ L) :
    unchangedBut L s₀ (State.fireEntry b t s₁ e) := by
  unfold State.fireEntry
  repeat (first | with_reducible assumption | with_reducible apply frame_askModes | with_reducible apply frame_requestRings | dsimp only | split)

theorem frame_fireSchedule {L : List Block} {s₀ s₁ : State} (b : Bank) (t : Stamp) (hf : unchangedBut L s₀ s₁)
    (hlanes : Block.lanes ∈ L) (hbells : Block.bells ∈ L) :
    unchangedBut L s₀ (State.fireSchedule s₁ b t) := by
  unfold State.fireSchedule
  repeat (first | with_reducible assumption | (with_reducible intro _ _ _) | with_reducible apply frame_foldl | with_reducible apply frame_fireEntry | dsimp only | split)

theorem frame_takeBoundary {L : List Block} {s₀ s₁ : State} (r : Receiver) (t : Stamp) (hf : unchangedBut L s₀ s₁)
    (hroster : Block.roster ∈ L) (hrecords : Block.records ∈ L) (hpunch : Block.punch ∈ L) (hlanes : Block.lanes ∈ L) (hbells : Block.bells ∈ L) (hinputs : Block.inputs ∈ L) (hbanks : Block.banks ∈ L) (hspool : Block.spool ∈ L) (hlink : Block.link ∈ L) (hnotices : Block.notices ∈ L) :
    unchangedBut L s₀ (State.takeBoundary s₁ r t) := by
  unfold State.takeBoundary
  repeat (first | with_reducible assumption | with_reducible apply frame_dropNotice | with_reducible apply frame_closeDue | with_reducible apply frame_settle | with_reducible apply frame_switchIfReached | with_reducible apply frame_fireSchedule | dsimp only | split)

theorem frame_catchUpLane {L : List Block} {s₀ s₁ : State} (b : Bank) (first : Stamp) (last : Stamp) (l : LaneId) (hf : unchangedBut L s₀ s₁)
    (hlanes : Block.lanes ∈ L) :
    unchangedBut L s₀ (State.catchUpLane b first last s₁ l) := by
  unfold State.catchUpLane
  repeat (first | with_reducible assumption | with_reducible apply frame_askMode | dsimp only | split)

theorem frame_catchUp {L : List Block} {s₀ s₁ : State} (b : Bank) (first : Stamp) (last : Stamp) (hf : unchangedBut L s₀ s₁)
    (hpunch : Block.punch ∈ L) (hlanes : Block.lanes ∈ L) (hinputs : Block.inputs ∈ L) :
    unchangedBut L s₀ (State.catchUp s₁ b first last) := by
  unfold State.catchUp
  repeat (first | with_reducible assumption | (with_reducible intro _ _ _) | with_reducible apply frame_foldl | with_reducible apply frame_settle | with_reducible apply frame_catchUpLane | dsimp only | split)

theorem frame_takeSpan {L : List Block} {s₀ s₁ : State} (r : Receiver) (first : Stamp) (last : Stamp) (hf : unchangedBut L s₀ s₁)
    (hroster : Block.roster ∈ L) (hrecords : Block.records ∈ L) (hpunch : Block.punch ∈ L) (hlanes : Block.lanes ∈ L) (hinputs : Block.inputs ∈ L) (hbanks : Block.banks ∈ L) (hspool : Block.spool ∈ L) (hlink : Block.link ∈ L) (hnotices : Block.notices ∈ L) :
    unchangedBut L s₀ (State.takeSpan s₁ r first last) := by
  unfold State.takeSpan
  repeat (first | with_reducible assumption | with_reducible apply frame_dropNotice | with_reducible apply frame_closeDue | with_reducible apply frame_switchIfReached | with_reducible apply frame_catchUp | dsimp only | split)

/-! ## Roster orders -/

theorem frame_answerEnrol {L : List Block} {s₀ s₁ : State} (order : Instr) (y0 : EnrolAnswer) (hf : unchangedBut L s₀ s₁)
    (hlink : Block.link ∈ L) :
    unchangedBut L s₀ (State.answerEnrol s₁ order y0) := by
  unfold State.answerEnrol
  repeat (first | with_reducible assumption | with_reducible apply frame_answer | with_reducible apply frame_refuse | dsimp only | split)

theorem frame_markWithdrawn {L : List Block} {s₀ s₁ : State} (a : Nat) (hf : unchangedBut L s₀ s₁)
    (hroster : Block.roster ∈ L) :
    unchangedBut L s₀ (State.markWithdrawn s₁ a) := by
  unfold State.markWithdrawn
  repeat (first | with_reducible assumption | with_reducible apply frame_setSlot | dsimp only | split)

theorem frame_forceClosure {L : List Block} {s₀ s₁ : State} (order : Instr) (a : Nat) (now : Stamp) (hf : unchangedBut L s₀ s₁)
    (hroster : Block.roster ∈ L) (hrecords : Block.records ∈ L) (hspool : Block.spool ∈ L) (hlink : Block.link ∈ L) :
    unchangedBut L s₀ (State.forceClosure s₁ order a now) := by
  unfold State.forceClosure
  repeat (first | with_reducible assumption | with_reducible apply frame_answer | with_reducible apply frame_refuse | with_reducible apply frame_freeSlotAt | with_reducible apply frame_closeRecord | with_reducible apply frame_markWithdrawn | dsimp only | split)

theorem frame_withdraw {L : List Block} {s₀ s₁ : State} (order : Instr) (a : Nat) (force : Bool) (hf : unchangedBut L s₀ s₁)
    (hroster : Block.roster ∈ L) (hrecords : Block.records ∈ L) (hspool : Block.spool ∈ L) (hlink : Block.link ∈ L) :
    unchangedBut L s₀ (State.withdraw s₁ order a force) := by
  unfold State.withdraw
  repeat (first | with_reducible assumption | with_reducible apply frame_answer | with_reducible apply frame_refuse | with_reducible apply frame_freeSlotAt | with_reducible apply frame_openRecord | with_reducible apply frame_markWithdrawn | with_reducible apply frame_forceClosure | dsimp only | split)

theorem frame_reportSlots {L : List Block} {s t : State} (l : List Nat) (h : unchangedBut L s t)
    (hroster : Block.roster ∈ L) (hrecords : Block.records ∈ L) (hspool : Block.spool ∈ L) (hlink : Block.link ∈ L) : unchangedBut L s (t.reportSlots l).1 := by
  induction l generalizing t with
  | nil => exact h
  | cons a rest ih => exact ih (frame_checkedRead a h hroster hrecords hspool hlink)

theorem frame_purge {L : List Block} {s₀ s₁ : State} (a : Nat) (hf : unchangedBut L s₀ s₁)
    (hroster : Block.roster ∈ L) :
    unchangedBut L s₀ (State.purge s₁ a) := by
  unfold State.purge
  repeat (first | with_reducible assumption | with_reducible apply frame_setRoster | dsimp only | split)

/-! ## Gate line -/

theorem frame_sendVerdict {L : List Block} {s₀ s₁ : State}  (hf : unchangedBut L s₀ s₁)
    (hpunch : Block.punch ∈ L) :
    unchangedBut L s₀ (State.sendVerdict s₁) := by
  unfold State.sendVerdict
  repeat (first | with_reducible assumption | with_reducible apply frame_setPunch | dsimp only | split)

theorem frame_setHead {L : List Block} {s₀ s₁ : State} (h : Head) (x : HeadState) (hf : unchangedBut L s₀ s₁)
    (hpunch : Block.punch ∈ L) :
    unchangedBut L s₀ (State.setHead s₁ h x) := by
  unfold State.setHead
  repeat (first | with_reducible assumption | with_reducible apply frame_setPunch | dsimp only | split)

theorem frame_countMiss {L : List Block} {s₀ s₁ : State} (h : Head) (hf : unchangedBut L s₀ s₁)
    (hpunch : Block.punch ∈ L) (hspool : Block.spool ∈ L) (hlink : Block.link ∈ L) :
    unchangedBut L s₀ (State.countMiss s₁ h) := by
  unfold State.countMiss
  repeat (first | with_reducible assumption | with_reducible apply frame_laneAlarm | with_reducible apply frame_setHead | dsimp only | split)

theorem frame_countAnswer {L : List Block} {s₀ s₁ : State} (h : Head) (hf : unchangedBut L s₀ s₁)
    (hpunch : Block.punch ∈ L) (hspool : Block.spool ∈ L) (hlink : Block.link ∈ L) :
    unchangedBut L s₀ (State.countAnswer s₁ h) := by
  unfold State.countAnswer
  repeat (first | with_reducible assumption | with_reducible apply frame_laneAlarm | with_reducible apply frame_setHead | dsimp only | split)

theorem frame_endPoll {L : List Block} {s₀ s₁ : State}  (hf : unchangedBut L s₀ s₁)
    (hpunch : Block.punch ∈ L) :
    unchangedBut L s₀ (State.endPoll s₁) := by
  unfold State.endPoll
  repeat (first | with_reducible assumption | with_reducible apply frame_setPunch | dsimp only | split)

theorem frame_lineError {L : List Block} {s₀ s₁ : State}  (hf : unchangedBut L s₀ s₁)
    (hpunch : Block.punch ∈ L) :
    unchangedBut L s₀ (State.lineError s₁) := by
  unfold State.lineError
  repeat (first | with_reducible assumption | with_reducible apply frame_setPunch | dsimp only | split)

theorem frame_noAnswer {L : List Block} {s₀ s₁ : State}  (hf : unchangedBut L s₀ s₁)
    (hpunch : Block.punch ∈ L) (hspool : Block.spool ∈ L) (hlink : Block.link ∈ L) :
    unchangedBut L s₀ (State.noAnswer s₁) := by
  unfold State.noAnswer
  repeat (first | with_reducible assumption | with_reducible apply frame_countMiss | with_reducible apply frame_endPoll | with_reducible apply frame_lineError | dsimp only | split)

theorem frame_ruleOn {L : List Block} {s t : State} (w : ReferralWait) (d : Decision) (fields : Option EnrolFields)
    (h : unchangedBut L s t) (hroster : Block.roster ∈ L) (hrecords : Block.records ∈ L) (hpunch : Block.punch ∈ L) (hlanes : Block.lanes ∈ L) (_hinputs : Block.inputs ∈ L) (hspool : Block.spool ∈ L) (hlink : Block.link ∈ L) :
    unchangedBut L s (t.ruleOn w d fields).1.1 := by
  unfold State.ruleOn
  repeat (first | with_reducible assumption | with_reducible apply frame_endPunch | with_reducible apply frame_judgeSlot | with_reducible apply frame_grantPunch | with_reducible apply frame_enrol | with_reducible apply frame_lookup | split | dsimp only)

theorem frame_carryRuling {L : List Block} {s₀ s₁ : State} (order : Instr) (l : LaneId) (w : ReferralWait) (d : Decision) (fields : Option EnrolFields) (hf : unchangedBut L s₀ s₁)
    (hroster : Block.roster ∈ L) (hrecords : Block.records ∈ L) (hpunch : Block.punch ∈ L) (hlanes : Block.lanes ∈ L) (hinputs : Block.inputs ∈ L) (hspool : Block.spool ∈ L) (hlink : Block.link ∈ L) :
    unchangedBut L s₀ (State.carryRuling s₁ order l w d fields) := by
  unfold State.carryRuling
  repeat (first | with_reducible assumption | with_reducible apply frame_answer | with_reducible apply frame_settle | with_reducible apply frame_leaveWait | with_reducible apply frame_settleIdle | with_reducible apply frame_ruleOn | dsimp only | split)

/-! ## Lane events -/

theorem frame_dropDelivery {L : List Block} {s₀ s₁ : State} (d : Delivery) (hf : unchangedBut L s₀ s₁)
    (hinputs : Block.inputs ∈ L) :
    unchangedBut L s₀ (State.dropDelivery s₁ d) := by
  unfold State.dropDelivery
  repeat (first | with_reducible assumption | with_reducible apply frame_setInputs | dsimp only | split)

theorem frame_takeChange {L : List Block} {s₀ s₁ : State} (y0 : Delivery) (hf : unchangedBut L s₀ s₁)
    (hinputs : Block.inputs ∈ L) :
    unchangedBut L s₀ (State.takeChange s₁ y0) := by
  unfold State.takeChange
  repeat (first | with_reducible assumption | with_reducible apply frame_setInputs | with_reducible apply frame_dropDelivery | dsimp only | split)

theorem frame_unexpectedOpening {L : List Block} {s₀ s₁ : State} (l : LaneId) (hf : unchangedBut L s₀ s₁)
    (hspool : Block.spool ∈ L) (hlink : Block.link ∈ L) :
    unchangedBut L s₀ (State.unexpectedOpening s₁ l) := by
  unfold State.unexpectedOpening
  repeat (first | with_reducible assumption | with_reducible apply frame_laneAlarm | dsimp only | split)

theorem frame_doorPassage {L : List Block} {s₀ s₁ : State} (l : LaneId) (g : Grant) (hf : unchangedBut L s₀ s₁)
    (hroster : Block.roster ∈ L) (hrecords : Block.records ∈ L) (hlanes : Block.lanes ∈ L) (hspool : Block.spool ∈ L) (hlink : Block.link ∈ L) :
    unchangedBut L s₀ (State.doorPassage s₁ l g) := by
  unfold State.doorPassage
  repeat (first | with_reducible assumption | with_reducible apply frame_setLane | with_reducible apply frame_passageNotice | dsimp only | split)

theorem frame_takeOpening {L : List Block} {s₀ s₁ : State} (l : LaneId) (hf : unchangedBut L s₀ s₁)
    (hroster : Block.roster ∈ L) (hrecords : Block.records ∈ L) (hlanes : Block.lanes ∈ L) (hspool : Block.spool ∈ L) (hlink : Block.link ∈ L) :
    unchangedBut L s₀ (State.takeOpening s₁ l) := by
  unfold State.takeOpening
  repeat (first | with_reducible assumption | with_reducible apply frame_laneAlarm | with_reducible apply frame_unexpectedOpening | with_reducible apply frame_doorPassage | dsimp only | split)

theorem frame_doorOpens {L : List Block} {s₀ s₁ : State} (l : LaneId) (hf : unchangedBut L s₀ s₁)
    (hroster : Block.roster ∈ L) (hrecords : Block.records ∈ L) (hlanes : Block.lanes ∈ L) (hspool : Block.spool ∈ L) (hlink : Block.link ∈ L) :
    unchangedBut L s₀ (State.doorOpens s₁ l) := by
  unfold State.doorOpens
  repeat (first | with_reducible assumption | with_reducible apply frame_setLane | with_reducible apply frame_takeOpening | dsimp only | split)

theorem frame_endHeld {L : List Block} {s₀ s₁ : State} (l : LaneId) (hf : unchangedBut L s₀ s₁)
    (hlanes : Block.lanes ∈ L) (hspool : Block.spool ∈ L) (hlink : Block.link ∈ L) :
    unchangedBut L s₀ (State.endHeld s₁ l) := by
  unfold State.endHeld
  repeat (first | with_reducible assumption | with_reducible apply frame_setLane | with_reducible apply frame_laneAlarm | dsimp only | split)

theorem frame_finishUntilOpen {L : List Block} {s₀ s₁ : State} (l : LaneId) (hf : unchangedBut L s₀ s₁)
    (hroster : Block.roster ∈ L) (hrecords : Block.records ∈ L) (hpunch : Block.punch ∈ L) (hlanes : Block.lanes ∈ L) (hinputs : Block.inputs ∈ L) (hspool : Block.spool ∈ L) (hlink : Block.link ∈ L) :
    unchangedBut L s₀ (State.finishUntilOpen s₁ l) := by
  unfold State.finishUntilOpen
  repeat (first | with_reducible assumption | with_reducible apply frame_endGrant | dsimp only | split)

theorem frame_recordClosing {L : List Block} {s₀ s₁ : State} (l : LaneId) (t : Option Elapsed) (hf : unchangedBut L s₀ s₁)
    (hlanes : Block.lanes ∈ L) :
    unchangedBut L s₀ (State.recordClosing s₁ l t) := by
  unfold State.recordClosing
  repeat (first | with_reducible assumption | with_reducible apply frame_setLane | with_reducible apply frame_startPartnerDead | dsimp only | split)

theorem frame_doorCloses {L : List Block} {s₀ s₁ : State} (l : LaneId) (hf : unchangedBut L s₀ s₁)
    (hroster : Block.roster ∈ L) (hrecords : Block.records ∈ L) (hpunch : Block.punch ∈ L) (hlanes : Block.lanes ∈ L) (hinputs : Block.inputs ∈ L) (hspool : Block.spool ∈ L) (hlink : Block.link ∈ L) :
    unchangedBut L s₀ (State.doorCloses s₁ l) := by
  unfold State.doorCloses
  repeat (first | with_reducible assumption | with_reducible apply frame_recordClosing | with_reducible apply frame_look | with_reducible apply frame_endHeld | with_reducible apply frame_finishUntilOpen | dsimp only | split)

theorem frame_releaseRunsOut {L : List Block} {s₀ s₁ : State} (l : LaneId) (g : Grant) (hf : unchangedBut L s₀ s₁)
    (hroster : Block.roster ∈ L) (hrecords : Block.records ∈ L) (hpunch : Block.punch ∈ L) (hlanes : Block.lanes ∈ L) (hinputs : Block.inputs ∈ L) (hspool : Block.spool ∈ L) (hlink : Block.link ∈ L) :
    unchangedBut L s₀ (State.releaseRunsOut s₁ l g) := by
  unfold State.releaseRunsOut
  repeat (first | with_reducible assumption | with_reducible apply frame_look | with_reducible apply frame_endGrant | with_reducible apply frame_zeroEncoder | dsimp only | split)

theorem frame_heldRunsOut {L : List Block} {s₀ s₁ : State} (l : LaneId) (hf : unchangedBut L s₀ s₁)
    (hlanes : Block.lanes ∈ L) (hspool : Block.spool ∈ L) (hlink : Block.link ∈ L) :
    unchangedBut L s₀ (State.heldRunsOut s₁ l) := by
  unfold State.heldRunsOut
  repeat (first | with_reducible assumption | with_reducible apply frame_setLane | with_reducible apply frame_laneAlarm | dsimp only | split)

theorem frame_exitRequested {L : List Block} {s₀ s₁ : State} (l : LaneId) (hf : unchangedBut L s₀ s₁)
    (hpunch : Block.punch ∈ L) (hlanes : Block.lanes ∈ L) :
    unchangedBut L s₀ (State.exitRequested s₁ l) := by
  unfold State.exitRequested
  repeat (first | with_reducible assumption | with_reducible apply frame_setLane | with_reducible apply frame_takeGrant | dsimp only | split)

theorem frame_stepGranted {L : List Block} {s₀ s₁ : State} (l : LaneId) (g : Grant) (dir : Dir) (hf : unchangedBut L s₀ s₁)
    (hroster : Block.roster ∈ L) (hrecords : Block.records ∈ L) (hpunch : Block.punch ∈ L) (hlanes : Block.lanes ∈ L) (hinputs : Block.inputs ∈ L) (hspool : Block.spool ∈ L) (hlink : Block.link ∈ L) :
    unchangedBut L s₀ (State.stepGranted s₁ l g dir) := by
  unfold State.stepGranted
  repeat (first | with_reducible assumption | with_reducible apply frame_look | with_reducible apply frame_setLane | with_reducible apply frame_laneAlarm | with_reducible apply frame_endGrant | with_reducible apply frame_zeroEncoder | with_reducible apply frame_passageNotice | dsimp only | split)

theorem frame_stepUngranted {L : List Block} {s₀ s₁ : State} (l : LaneId) (dir : Dir) (hf : unchangedBut L s₀ s₁)
    (hlanes : Block.lanes ∈ L) (hspool : Block.spool ∈ L) (hlink : Block.link ∈ L) :
    unchangedBut L s₀ (State.stepUngranted s₁ l dir) := by
  unfold State.stepUngranted
  repeat (first | with_reducible assumption | with_reducible apply frame_laneAlarm | with_reducible apply frame_zeroEncoder | dsimp only | split)

theorem frame_stepReached {L : List Block} {s₀ s₁ : State} (l : LaneId) (dir : Dir) (hf : unchangedBut L s₀ s₁)
    (hroster : Block.roster ∈ L) (hrecords : Block.records ∈ L) (hpunch : Block.punch ∈ L) (hlanes : Block.lanes ∈ L) (hinputs : Block.inputs ∈ L) (hspool : Block.spool ∈ L) (hlink : Block.link ∈ L) :
    unchangedBut L s₀ (State.stepReached s₁ l dir) := by
  unfold State.stepReached
  repeat (first | with_reducible assumption | with_reducible apply frame_stepGranted | with_reducible apply frame_stepUngranted | dsimp only | split)

theorem frame_countStep {L : List Block} {s₀ s₁ : State} (l : LaneId) (d : Int) (hf : unchangedBut L s₀ s₁)
    (hroster : Block.roster ∈ L) (hrecords : Block.records ∈ L) (hpunch : Block.punch ∈ L) (hlanes : Block.lanes ∈ L) (hinputs : Block.inputs ∈ L) (hspool : Block.spool ∈ L) (hlink : Block.link ∈ L) :
    unchangedBut L s₀ (State.countStep s₁ l d) := by
  unfold State.countStep
  repeat (first | with_reducible assumption | with_reducible apply frame_setLane | with_reducible apply frame_stepReached | dsimp only | split)

theorem frame_encoderMoves {L : List Block} {s₀ s₁ : State} (l : LaneId) (a : Bool) (b : Bool) (hf : unchangedBut L s₀ s₁)
    (hroster : Block.roster ∈ L) (hrecords : Block.records ∈ L) (hpunch : Block.punch ∈ L) (hlanes : Block.lanes ∈ L) (hinputs : Block.inputs ∈ L) (hspool : Block.spool ∈ L) (hlink : Block.link ∈ L) :
    unchangedBut L s₀ (State.encoderMoves s₁ l a b) := by
  unfold State.encoderMoves
  repeat (first | with_reducible assumption | with_reducible apply frame_setLane | with_reducible apply frame_laneAlarm | with_reducible apply frame_countStep | dsimp only | split)

theorem frame_releaseRemote {L : List Block} {s₀ s₁ : State} (order : Instr) (l : LaneId) (d : Dir) (hf : unchangedBut L s₀ s₁)
    (hpunch : Block.punch ∈ L) (hlanes : Block.lanes ∈ L) (hinputs : Block.inputs ∈ L) (hlink : Block.link ∈ L) :
    unchangedBut L s₀ (State.releaseRemote s₁ order l d) := by
  unfold State.releaseRemote
  repeat (first | with_reducible assumption | with_reducible apply frame_answer | with_reducible apply frame_takeGrant | with_reducible apply frame_settle | dsimp only | split)

/-! ## Bell orders -/

theorem frame_stopRing {L : List Block} {s₀ s₁ : State} (set : BellSet) (b : BellId) (hf : unchangedBut L s₀ s₁)
    (hbells : Block.bells ∈ L) :
    unchangedBut L s₀ (State.stopRing set s₁ b) := by
  unfold State.stopRing
  repeat (first | with_reducible assumption | with_reducible apply frame_endRing | dsimp only | split)

/-! ## Sampling and holds -/

theorem frame_tellWatch {L : List Block} {s₀ s₁ : State} (changed : InputSet) (k : WatchId) (hf : unchangedBut L s₀ s₁)
    (hinputs : Block.inputs ∈ L) :
    unchangedBut L s₀ (State.tellWatch changed s₁ k) := by
  unfold State.tellWatch
  repeat (first | with_reducible assumption | with_reducible apply frame_deliver | with_reducible apply frame_evaluate | dsimp only | split)

theorem frame_sampleGeneral {L : List Block} {s₀ s₁ : State} (levels : InputSet) (hf : unchangedBut L s₀ s₁)
    (htime : Block.time ∈ L) (hinputs : Block.inputs ∈ L) (hspool : Block.spool ∈ L)
    (hlink : Block.link ∈ L) (hnotices : Block.notices ∈ L) :
    unchangedBut L s₀ (State.sampleGeneral s₁ levels) := by
  unfold State.sampleGeneral
  repeat (first | with_reducible assumption | (with_reducible intro _ _ _) | with_reducible apply frame_foldl | with_reducible apply frame_setInputs | with_reducible apply frame_reach | with_reducible apply frame_tellWatch | dsimp only | split)

theorem frame_takeDoorStatus {L : List Block} {s₀ s₁ : State} (l : LaneId) (isOpen : Bool) (hf : unchangedBut L s₀ s₁)
    (hpunch : Block.punch ∈ L) (hlanes : Block.lanes ∈ L) :
    unchangedBut L s₀ (State.takeDoorStatus s₁ l isOpen) := by
  unfold State.takeDoorStatus
  repeat (first | with_reducible assumption | with_reducible apply frame_setLane | with_reducible apply frame_look | with_reducible apply frame_recordClosing | dsimp only | split)

theorem frame_deliverDoor {L : List Block} {s₀ s₁ : State} (l : LaneId) (isOpen : Bool) (y0 : LineEvent) (hf : unchangedBut L s₀ s₁)
    (hpunch : Block.punch ∈ L) (hlanes : Block.lanes ∈ L) (hinputs : Block.inputs ∈ L) :
    unchangedBut L s₀ (State.deliverDoor s₁ l isOpen y0) := by
  unfold State.deliverDoor
  repeat (first | with_reducible assumption | with_reducible apply frame_deliver | with_reducible apply frame_takeDoorStatus | dsimp only | split)

theorem frame_deliverExit {L : List Block} {s₀ s₁ : State} (l : LaneId) (active : Bool) (y0 : LineEvent) (hf : unchangedBut L s₀ s₁)
    (hinputs : Block.inputs ∈ L) :
    unchangedBut L s₀ (State.deliverExit s₁ l active y0) := by
  unfold State.deliverExit
  repeat (first | with_reducible assumption | with_reducible apply frame_deliver | dsimp only | split)

theorem frame_sampleContact {L : List Block} {s₀ s₁ : State} (count : Nat) (doors : LaneSet) (exits : LaneSet) (l : LaneId) (hf : unchangedBut L s₀ s₁)
    (hpunch : Block.punch ∈ L) (hlanes : Block.lanes ∈ L) (hinputs : Block.inputs ∈ L) :
    unchangedBut L s₀ (State.sampleContact count doors exits s₁ l) := by
  unfold State.sampleContact
  repeat (first | with_reducible assumption | with_reducible apply frame_setInputs | with_reducible apply frame_deliverDoor | with_reducible apply frame_deliverExit | dsimp only | split)

theorem frame_sampleContacts {L : List Block} {s₀ s₁ : State} (doors : LaneSet) (exits : LaneSet) (hf : unchangedBut L s₀ s₁)
    (htime : Block.time ∈ L) (hpunch : Block.punch ∈ L) (hlanes : Block.lanes ∈ L) (hinputs : Block.inputs ∈ L) (hspool : Block.spool ∈ L)
    (hlink : Block.link ∈ L) (hnotices : Block.notices ∈ L) :
    unchangedBut L s₀ (State.sampleContacts s₁ doors exits) := by
  unfold State.sampleContacts
  repeat (first | with_reducible assumption | (with_reducible intro _ _ _) | with_reducible apply frame_foldl | with_reducible apply frame_setInputs | with_reducible apply frame_reach | with_reducible apply frame_settle | with_reducible apply frame_sampleContact | dsimp only | split)

theorem frame_takeEncoderStatus {L : List Block} {s₀ s₁ : State} (l : LaneId) (a : Bool) (b : Bool) (onA : LineEvent) (onB : LineEvent) (hf : unchangedBut L s₀ s₁)
    (hlanes : Block.lanes ∈ L) (hinputs : Block.inputs ∈ L) :
    unchangedBut L s₀ (State.takeEncoderStatus s₁ l a b onA onB) := by
  unfold State.takeEncoderStatus
  repeat (first | with_reducible assumption | with_reducible apply frame_setLane | with_reducible apply frame_fitDeliveries | dsimp only | split)

theorem frame_sampleEncoder {L : List Block} {s₀ s₁ : State} (count : Nat) (as : LaneSet) (bs : LaneSet) (l : LaneId) (hf : unchangedBut L s₀ s₁)
    (hlanes : Block.lanes ∈ L) (hinputs : Block.inputs ∈ L) :
    unchangedBut L s₀ (State.sampleEncoder count as bs s₁ l) := by
  unfold State.sampleEncoder
  repeat (first | with_reducible assumption | with_reducible apply frame_setInputs | with_reducible apply frame_deliver | with_reducible apply frame_takeEncoderStatus | dsimp only | split)

theorem frame_sampleEncoders {L : List Block} {s₀ s₁ : State} (as : LaneSet) (bs : LaneSet) (hf : unchangedBut L s₀ s₁)
    (htime : Block.time ∈ L) (hlanes : Block.lanes ∈ L) (hinputs : Block.inputs ∈ L) (hspool : Block.spool ∈ L)
    (hlink : Block.link ∈ L) (hnotices : Block.notices ∈ L) :
    unchangedBut L s₀ (State.sampleEncoders s₁ as bs) := by
  unfold State.sampleEncoders
  repeat (first | with_reducible assumption | (with_reducible intro _ _ _) | with_reducible apply frame_foldl | with_reducible apply frame_setInputs | with_reducible apply frame_reach | with_reducible apply frame_sampleEncoder | dsimp only | split)

theorem frame_writeHolds {L : List Block} {s₀ s₁ : State} (releases : LaneSet) (bells : BellSet) (v : Option Bool) (hf : unchangedBut L s₀ s₁)
    (hinputs : Block.inputs ∈ L) :
    unchangedBut L s₀ (State.writeHolds s₁ releases bells v) := by
  unfold State.writeHolds
  repeat (first | with_reducible assumption | (with_reducible intro _ _ _) | with_reducible apply frame_foldl | with_reducible apply frame_setInputs | dsimp only | split)

theorem frame_answerRows {L : List Block} {s₀ s₁ : State} (order : Instr) (code : ReplyCode) (rows : List Row)
    (hf : unchangedBut L s₀ s₁) (hlink : Block.link ∈ L) :
    unchangedBut L s₀ (State.answerRows s₁ order code rows) := by
  unfold State.answerRows
  repeat (first | with_reducible assumption | with_reducible apply frame_answer | dsimp only | split)

/-! ## Spool orders -/

theorem frame_notHeld {L : List Block} {s₀ s₁ : State} (order : Instr) (hf : unchangedBut L s₀ s₁)
    (hlink : Block.link ∈ L) :
    unchangedBut L s₀ (State.notHeld s₁ order) := by
  unfold State.notHeld
  repeat (first | with_reducible assumption | with_reducible apply frame_answer | dsimp only | split)

theorem frame_clearThrough {L : List Block} {s₀ s₁ : State} (i : Nat) (hf : unchangedBut L s₀ s₁)
    (hrecords : Block.records ∈ L) (hspool : Block.spool ∈ L) :
    unchangedBut L s₀ (State.clearThrough s₁ i) := by
  unfold State.clearThrough
  repeat (first | with_reducible assumption | with_reducible apply frame_setRecords | with_reducible apply frame_setSpool | dsimp only | split)

/-! ## Link -/

theorem frame_writeGeneral {L : List Block} {s₀ s₁ : State} (g : GeneralSetup) (hf : unchangedBut L s₀ s₁)
    (hinputs : Block.inputs ∈ L) (hlink : Block.link ∈ L) (hsetup : Block.setup ∈ L) :
    unchangedBut L s₀ (State.writeGeneral s₁ g) := by
  unfold State.writeGeneral
  repeat (first | with_reducible assumption | with_reducible apply frame_setInputs | with_reducible apply frame_setLink | with_reducible apply frame_setSetup | dsimp only | split)

theorem frame_writeBells {L : List Block} {s₀ s₁ : State} (x : BellSetup) (hf : unchangedBut L s₀ s₁)
    (hpunch : Block.punch ∈ L) (hlanes : Block.lanes ∈ L) (hbells : Block.bells ∈ L) (hinputs : Block.inputs ∈ L) (hsetup : Block.setup ∈ L) :
    unchangedBut L s₀ (State.writeBells s₁ x) := by
  unfold State.writeBells
  repeat (first | with_reducible assumption | (with_reducible intro _ _ _) | with_reducible apply frame_foldl | with_reducible apply frame_setSetup | with_reducible apply frame_settle | with_reducible apply frame_followKind | dsimp only | split)

theorem frame_writeLane {L : List Block} {s₀ s₁ : State} (l : LaneId) (x : LaneSetup) (hf : unchangedBut L s₀ s₁)
    (hpunch : Block.punch ∈ L) (hlanes : Block.lanes ∈ L) (hinputs : Block.inputs ∈ L) :
    unchangedBut L s₀ (State.writeLane s₁ l x).1 := by
  unfold State.writeLane
  repeat (first | with_reducible assumption | with_reducible apply frame_setLane | with_reducible apply frame_applySetup | with_reducible apply frame_settle | dsimp only | split)

theorem frame_writeWatch {L : List Block} {s₀ s₁ : State} (k : WatchId) (w : WatchSettings) (hf : unchangedBut L s₀ s₁)
    (hroster : Block.roster ∈ L) (hrecords : Block.records ∈ L) (hpunch : Block.punch ∈ L) (hlanes : Block.lanes ∈ L) (hbells : Block.bells ∈ L) (hinputs : Block.inputs ∈ L) (hspool : Block.spool ∈ L) (hlink : Block.link ∈ L) (hsetup : Block.setup ∈ L) :
    unchangedBut L s₀ (State.writeWatch s₁ k w) := by
  unfold State.writeWatch
  repeat (first | with_reducible assumption | with_reducible apply frame_setSetup | with_reducible apply frame_settle | with_reducible apply frame_setEqual | with_reducible apply frame_fireWatch | dsimp only | split)

theorem frame_restartGateLine {L : List Block} {s₀ s₁ : State}  (hf : unchangedBut L s₀ s₁)
    (hpunch : Block.punch ∈ L) :
    unchangedBut L s₀ (State.restartGateLine s₁) := by
  unfold State.restartGateLine
  repeat (first | with_reducible assumption | with_reducible apply frame_setPunch | dsimp only | split)

theorem frame_restartLane {L : List Block} {s₀ s₁ : State} (l : LaneId) (hf : unchangedBut L s₀ s₁)
    (hlanes : Block.lanes ∈ L) :
    unchangedBut L s₀ (State.restartLane s₁ l) := by
  unfold State.restartLane
  repeat (first | with_reducible assumption | with_reducible apply frame_setLane | dsimp only | split)

theorem frame_resumeEvacRing {L : List Block} {s₀ s₁ : State}  (hf : unchangedBut L s₀ s₁)
    (hbells : Block.bells ∈ L) :
    unchangedBut L s₀ (State.resumeEvacRing s₁) := by
  unfold State.resumeEvacRing
  repeat (first | with_reducible assumption | with_reducible apply frame_startEvacRings | dsimp only | split)

theorem frame_warmRestart {L : List Block} {s₀ s₁ : State}  (hf : unchangedBut L s₀ s₁)
    (hroster : Block.roster ∈ L) (hrecords : Block.records ∈ L) (hpunch : Block.punch ∈ L) (hlanes : Block.lanes ∈ L) (hbells : Block.bells ∈ L) (hinputs : Block.inputs ∈ L) (hspool : Block.spool ∈ L) (hlink : Block.link ∈ L) (hsupply : Block.supply ∈ L) :
    unchangedBut L s₀ (State.warmRestart s₁) := by
  unfold State.warmRestart
  repeat (first | with_reducible assumption | (with_reducible intro _ _ _) | with_reducible apply frame_foldl | with_reducible apply frame_setLink | with_reducible apply frame_setSupply | with_reducible apply frame_settle | with_reducible apply frame_voidGrant | with_reducible apply frame_cancelWait | with_reducible apply frame_endAllRings | with_reducible apply frame_restartGateLine | with_reducible apply frame_restartLane | with_reducible apply frame_resumeEvacRing | dsimp only | split)

theorem frame_linkError {L : List Block} {s₀ s₁ : State}  (hf : unchangedBut L s₀ s₁)
    (hlink : Block.link ∈ L) :
    unchangedBut L s₀ (State.linkError s₁) := by
  unfold State.linkError
  repeat (first | with_reducible assumption | with_reducible apply frame_setLink | dsimp only | split)

theorem frame_takeFrame {L : List Block} {s₀ s₁ : State} (f : Frame) (hf : unchangedBut L s₀ s₁)
    (hlink : Block.link ∈ L) :
    unchangedBut L s₀ (State.takeFrame s₁ f) := by
  unfold State.takeFrame
  repeat (first | with_reducible assumption | with_reducible apply frame_setLink | with_reducible apply frame_linkError | dsimp only | split)

theorem frame_takeReceipt {L : List Block} {s₀ s₁ : State} (x : Receipt) (hf : unchangedBut L s₀ s₁)
    (hlink : Block.link ∈ L) :
    unchangedBut L s₀ (State.takeReceipt s₁ x) := by
  unfold State.takeReceipt
  repeat (first | with_reducible assumption | with_reducible apply frame_linkError | with_reducible apply frame_takeFrame | dsimp only | split)

theorem frame_frameBad {L : List Block} {s₀ s₁ : State}  (hf : unchangedBut L s₀ s₁)
    (hlink : Block.link ∈ L) :
    unchangedBut L s₀ (State.frameBad s₁) := by
  unfold State.frameBad
  repeat (first | with_reducible assumption | with_reducible apply frame_linkError | with_reducible apply frame_setLink | dsimp only | split)

theorem frame_receiveBytes {L : List Block} {s₀ s₁ : State} (bytes : List Byte) (hf : unchangedBut L s₀ s₁)
    (hlink : Block.link ∈ L) :
    unchangedBut L s₀ (State.receiveBytes s₁ bytes) := by
  unfold State.receiveBytes
  repeat (first | with_reducible assumption | (with_reducible intro _ _ _) | with_reducible apply frame_foldl | with_reducible apply frame_setLink | with_reducible apply frame_takeReceipt | dsimp only | split)

theorem frame_queueReply {L : List Block} {s₀ s₁ : State} (r : OrderRef) (x : Reply) (hf : unchangedBut L s₀ s₁)
    (hlink : Block.link ∈ L) :
    unchangedBut L s₀ (State.queueReply s₁ r x) := by
  unfold State.queueReply
  repeat (first | with_reducible assumption | with_reducible apply frame_setLink | dsimp only | split)

theorem frame_dispatch {L : List Block} {s₀ s₁ : State} (f : Frame) (rest : List Frame) (hf : unchangedBut L s₀ s₁)
    (hlink : Block.link ∈ L) :
    unchangedBut L s₀ (State.dispatch s₁ f rest) := by
  unfold State.dispatch
  repeat (first | with_reducible assumption | with_reducible apply frame_setLink | with_reducible apply frame_queueReply | dsimp only | split)

/-! ## Supply -/

theorem frame_noteHold {L : List Block} {s₀ s₁ : State}  (hf : unchangedBut L s₀ s₁)
    (htime : Block.time ∈ L) :
    unchangedBut L s₀ (State.noteHold s₁) := by
  unfold State.noteHold
  repeat (first | with_reducible assumption | with_reducible apply frame_setTime | dsimp only | split)

theorem frame_holdLane {L : List Block} {s₀ s₁ : State} (l : LaneId) (hf : unchangedBut L s₀ s₁)
    (hlanes : Block.lanes ∈ L) :
    unchangedBut L s₀ (State.holdLane s₁ l) := by
  unfold State.holdLane
  repeat (first | with_reducible assumption | with_reducible apply frame_setLane | dsimp only | split)

theorem frame_stopGateLine {L : List Block} {s₀ s₁ : State}  (hf : unchangedBut L s₀ s₁)
    (hpunch : Block.punch ∈ L) :
    unchangedBut L s₀ (State.stopGateLine s₁) := by
  unfold State.stopGateLine
  repeat (first | with_reducible assumption | with_reducible apply frame_setPunch | dsimp only | split)

theorem frame_stopRings {L : List Block} {s₀ s₁ : State}  (hf : unchangedBut L s₀ s₁)
    (hbells : Block.bells ∈ L) :
    unchangedBut L s₀ (State.stopRings s₁) := by
  unfold State.stopRings
  repeat (first | with_reducible assumption | with_reducible apply frame_setBells | with_reducible apply frame_endAllRings | dsimp only | split)

theorem frame_heldNotices {L : List Block} {s₀ s₁ : State}  (hf : unchangedBut L s₀ s₁)
    (hnotices : Block.notices ∈ L) :
    unchangedBut L s₀ (State.heldNotices s₁) := by
  unfold State.heldNotices
  repeat (first | with_reducible assumption | with_reducible apply frame_setNotices | dsimp only | split)

theorem frame_beginHold {L : List Block} {s₀ s₁ : State}  (hf : unchangedBut L s₀ s₁)
    (htime : Block.time ∈ L) (hspool : Block.spool ∈ L) (hlink : Block.link ∈ L) (hsupply : Block.supply ∈ L) :
    unchangedBut L s₀ (State.beginHold s₁) := by
  unfold State.beginHold
  repeat (first | with_reducible assumption | with_reducible apply frame_setLink | with_reducible apply frame_setSupply | with_reducible apply frame_systemEvent | with_reducible apply frame_noteHold | dsimp only | split)

theorem frame_enterHold {L : List Block} {s₀ s₁ : State}  (hf : unchangedBut L s₀ s₁)
    (htime : Block.time ∈ L) (hroster : Block.roster ∈ L) (hrecords : Block.records ∈ L) (hpunch : Block.punch ∈ L) (hlanes : Block.lanes ∈ L) (hbells : Block.bells ∈ L) (hinputs : Block.inputs ∈ L) (hspool : Block.spool ∈ L) (hlink : Block.link ∈ L) (hsupply : Block.supply ∈ L) (hnotices : Block.notices ∈ L) :
    unchangedBut L s₀ (State.enterHold s₁) := by
  unfold State.enterHold
  repeat (first | with_reducible assumption | with_reducible apply frame_heldNotices | (with_reducible intro _ _ _) | with_reducible apply frame_foldl | with_reducible apply frame_setInputs | with_reducible apply frame_settle | with_reducible apply frame_voidGrant | with_reducible apply frame_cancelWait | with_reducible apply frame_holdLane | with_reducible apply frame_stopGateLine | with_reducible apply frame_stopRings | with_reducible apply frame_beginHold | dsimp only | split)

theorem frame_endHold {L : List Block} {s₀ s₁ : State}  (hf : unchangedBut L s₀ s₁)
    (hspool : Block.spool ∈ L) (hlink : Block.link ∈ L) (hsupply : Block.supply ∈ L) :
    unchangedBut L s₀ (State.endHold s₁) := by
  unfold State.endHold
  repeat (first | with_reducible assumption | with_reducible apply frame_setSupply | with_reducible apply frame_systemEvent | dsimp only | split)

theorem frame_resumeTime {L : List Block} {s₀ s₁ : State}  (hf : unchangedBut L s₀ s₁)
    (htime : Block.time ∈ L) (hspool : Block.spool ∈ L) (hlink : Block.link ∈ L) (hnotices : Block.notices ∈ L) :
    unchangedBut L s₀ (State.resumeTime s₁) := by
  unfold State.resumeTime
  repeat (first | with_reducible assumption | with_reducible apply frame_setTime | with_reducible apply frame_systemEvent | with_reducible apply frame_giveNotice | dsimp only | split)

theorem frame_endCutShort {L : List Block} {s₀ s₁ : State}  (hf : unchangedBut L s₀ s₁)
    (hroster : Block.roster ∈ L) (hlanes : Block.lanes ∈ L) (hinputs : Block.inputs ∈ L) (hspool : Block.spool ∈ L) (hlink : Block.link ∈ L) :
    unchangedBut L s₀ (State.endCutShort s₁) := by
  unfold State.endCutShort
  repeat (first | with_reducible assumption | with_reducible apply frame_systemEvent | with_reducible apply frame_endEvacuation | dsimp only | split)

theorem frame_resumeSampling {L : List Block} {s₀ s₁ : State}  (hf : unchangedBut L s₀ s₁)
    (hinputs : Block.inputs ∈ L) :
    unchangedBut L s₀ (State.resumeSampling s₁) := by
  unfold State.resumeSampling
  repeat (first | with_reducible assumption | with_reducible apply frame_setInputs | dsimp only | split)

theorem frame_leaveHold {L : List Block} {s₀ s₁ : State}  (hf : unchangedBut L s₀ s₁)
    (htime : Block.time ∈ L) (hroster : Block.roster ∈ L) (hpunch : Block.punch ∈ L) (hlanes : Block.lanes ∈ L) (hinputs : Block.inputs ∈ L) (hspool : Block.spool ∈ L) (hlink : Block.link ∈ L) (hsupply : Block.supply ∈ L) (hnotices : Block.notices ∈ L) :
    unchangedBut L s₀ (State.leaveHold s₁) := by
  unfold State.leaveHold
  repeat (first | with_reducible assumption | (with_reducible intro _ _ _) | with_reducible apply frame_foldl | with_reducible apply frame_settle | with_reducible apply frame_zeroEncoder | with_reducible apply frame_restartGateLine | with_reducible apply frame_endHold | with_reducible apply frame_resumeTime | with_reducible apply frame_endCutShort | with_reducible apply frame_resumeSampling | dsimp only | split)

end Sys2Proof.Machine
end

