-- ==== Sys2Proof/Laws/PerInstr.lean ====
section
/-!
SUPPORT. A statement for every command, made per constructor: a command is an order, with a name a frame's code can have, exactly
when a station brings it about (R188).
-/
namespace Sys2Proof.Laws.Agents

open Sys2Proof.Machine

/-- A command has an order's name exactly when it is a station's. -/
def Statement (i : Instr) : Prop := (orderName i).isSome = decide (i.agent = .station)

theorem clockSet (day second offset : Nat) : Statement (.clockSet day second offset) := rfl

theorem clockSlew (seconds : Int) : Statement (.clockSlew seconds) := rfl

theorem clockTrim (trim : Int) : Statement (.clockTrim trim) := rfl

theorem clockRead : Statement (.clockRead) := rfl

theorem secondEnd : Statement (.secondEnd) := rfl

theorem secondBoundary (receiver : Receiver) : Statement (.secondBoundary receiver) := rfl

theorem deadlineExpiry : Statement (.deadlineExpiry) := rfl

theorem stepNotice (receiver : Receiver) : Statement (.stepNotice receiver) := rfl

theorem resumptionNotice (receiver : Receiver) : Statement (.resumptionNotice receiver) := rfl

theorem pendingSwitchDue : Statement (.pendingSwitchDue) := rfl

theorem rosterEnrol (badge payClass pattern : Nat) (lanes : LaneSet) : Statement (.rosterEnrol badge payClass pattern lanes) := rfl

theorem rosterAmend (badge : Nat) (payClass pattern : Option Nat) (lanes : Option LaneSet) (resetUnrecorded : Bool) : Statement (.rosterAmend badge payClass pattern lanes resetUnrecorded) := rfl

theorem rosterWithdraw (badge : Nat) (force : Bool) : Statement (.rosterWithdraw badge force) := rfl

theorem rosterRead (key : RosterKey) : Statement (.rosterRead key) := rfl

theorem rosterPurge (address : Nat) : Statement (.rosterPurge address) := rfl

theorem presenceSet (badge : Nat) (value : Choice PresenceRead) : Statement (.presenceSet badge value) := rfl

theorem presenceClear : Statement (.presenceClear) := rfl

theorem poll : Statement (.poll) := rfl

theorem pollTimeout : Statement (.pollTimeout) := rfl

theorem idle (head : Head) : Statement (.idle head) := rfl

theorem garbledAnswer : Statement (.garbledAnswer) := rfl

theorem strayCharacters : Statement (.strayCharacters) := rfl

theorem punch (head : Head) (badge : BitVec 32) (intent : Intent) : Statement (.punch head badge intent) := rfl

theorem referralTimeout (lane : LaneId) : Statement (.referralTimeout lane) := rfl

theorem ruling (lane badge : Nat) (decision : Choice Decision) (fields : Option EnrolFields) : Statement (.ruling lane badge decision fields) := rfl

theorem doorOpening (lane : LaneId) : Statement (.doorOpening lane) := rfl

theorem doorClosing (lane : LaneId) : Statement (.doorClosing lane) := rfl

theorem releaseExpiry (lane : LaneId) : Statement (.releaseExpiry lane) := rfl

theorem heldOpenExpiry (lane : LaneId) : Statement (.heldOpenExpiry lane) := rfl

theorem requestToExit (lane : LaneId) : Statement (.requestToExit lane) := rfl

theorem exitAllowanceExpiry (lane : LaneId) : Statement (.exitAllowanceExpiry lane) := rfl

theorem encoderChange (lane : LaneId) (a b : Bool) : Statement (.encoderChange lane a b) := rfl

theorem interlockWaitExpiry (lane : LaneId) : Statement (.interlockWaitExpiry lane) := rfl

theorem deadTimeEnd (lane : LaneId) : Statement (.deadTimeEnd lane) := rfl

theorem laneMode (lanes : LaneSet) (mode : Choice LaneMode) : Statement (.laneMode lanes mode) := rfl

theorem laneRelease (lane : Nat) (dir : Choice Dir) : Statement (.laneRelease lane dir) := rfl

theorem laneRead (lane : Nat) : Statement (.laneRead lane) := rfl

theorem bellRing (outputs : BellSet) (tone duration : Nat) : Statement (.bellRing outputs tone duration) := rfl

theorem bellStop (outputs : BellSet) : Statement (.bellStop outputs) := rfl

theorem ringEnd (bell : BellId) : Statement (.ringEnd bell) := rfl

theorem cadencePhaseChange (bell : BellId) : Statement (.cadencePhaseChange bell) := rfl

theorem debounceSample (sample : Sample) : Statement (.debounceSample sample) := rfl

theorem watchFire (watch : WatchId) : Statement (.watchFire watch) := rfl

theorem outputHold (releases : LaneSet) (bells : BellSet) (hold : HoldRequest) : Statement (.outputHold releases bells hold) := rfl

theorem egressEnd : Statement (.egressEnd) := rfl

theorem loadBegin (kind : Choice LoadKind) : Statement (.loadBegin kind) := rfl

theorem loadRows (table : Choice TableName) (first : Nat) (rows : List Row) : Statement (.loadRows table first rows) := rfl

theorem loadEnd : Statement (.loadEnd) := rfl

theorem bankSwitch (time : SwitchTime) : Statement (.bankSwitch time) := rfl

theorem tableRead (bank : Choice BankSelector) (table : Choice TableName) (first count : Nat) : Statement (.tableRead bank table first count) := rfl

theorem spoolTake (start count : Nat) : Statement (.spoolTake start count) := rfl

theorem spoolClear (through : Nat) : Statement (.spoolClear through) := rfl

theorem moveWaitingTotals : Statement (.moveWaitingTotals) := rfl

theorem status : Statement (.status) := rfl

theorem setupWrite (part : SetupPart) : Statement (.setupWrite part) := rfl

theorem setupRead (name : SetupName) : Statement (.setupRead name) := rfl

theorem restart : Statement (.restart) := rfl

theorem warmRestart : Statement (.warmRestart) := rfl

theorem frameReceipt (bytes : List Byte) : Statement (.frameReceipt bytes) := rfl

theorem receiveTimeout : Statement (.receiveTimeout) := rfl

theorem frameDispatch : Statement (.frameDispatch) := rfl

theorem frameSent : Statement (.frameSent) := rfl

theorem silenceTimeout : Statement (.silenceTimeout) := rfl

theorem supplyHold : Statement (.supplyHold) := rfl

theorem supplyReturn : Statement (.supplyReturn) := rfl

theorem backupLoss : Statement (.backupLoss) := rfl

theorem powerOn : Statement (.powerOn) := rfl

theorem frameLengthBad (length : Nat) : Statement (.frameLengthBad length) := rfl

end Sys2Proof.Laws.Agents
end

