-- ==== Sys2Proof/Laws/Tables.lean ====
section
/-!
SUPPORT. The laws of a sparse table in canonical form: a value read after it is written, the others left alone, and the form
kept by every operation on tables.
-/
namespace Sys2Proof

variable {α : Type}

/-- The canonical form of a table's cells. -/
def cellsForm (d : α) (l : List (Nat × α)) : Prop := l.Pairwise (fun a b => a.1 < b.1) ∧ ∀ c ∈ l, c.2 ≠ d

theorem Tab.wf_iff [DecidableEq α] (d : α) (t : Tab α) : t.wf d = true ↔ cellsForm d t.cells := by
  simp [Tab.wf, cellsForm]

theorem cellsGet_of_below (d : α) (l : List (Nat × α)) (k : Nat) (h : ∀ c ∈ l, k < c.1) : cellsGet d l k = d := by
  induction l with
  | nil => rfl
  | cons c rest ih =>
    have hc := h c (by simp)
    simp only [cellsGet]
    rw [if_neg (by omega)]
    exact ih fun x hx => h x (by simp [hx])

theorem cellsGet_put_same [DecidableEq α] (d : α) (l : List (Nat × α)) (k : Nat) (v : α) (h : cellsForm d l) :
    cellsGet d (cellsPut d l k v) k = v := by
  induction l with
  | nil => by_cases hv : v = d <;> simp [cellsPut, cellsGet, hv]
  | cons c rest ih =>
    obtain ⟨j, w⟩ := c
    have hp := h.1
    rw [List.pairwise_cons] at hp
    have hrest : cellsForm d rest := ⟨hp.2, fun x hx => h.2 x (by simp [hx])⟩
    simp only [cellsPut]
    split
    · split
      · rename_i hk hv
        rw [cellsGet_of_below d _ k, hv]
        intro x hx
        rcases List.mem_cons.1 hx with rfl | hx
        · exact hk
        · exact lt_trans hk (hp.1 x hx)
      · simp [cellsGet]
    · split
      · split
        · rename_i hk hv
          subst hk
          rw [cellsGet_of_below d _ _ hp.1, hv]
        · simp [cellsGet]
      · rename_i h1 h2
        simp only [cellsGet]
        rw [if_neg (fun e => h2 e.symm)]
        exact ih hrest

theorem cellsGet_put_other [DecidableEq α] (d : α) (l : List (Nat × α)) (k j : Nat) (v : α) (hne : k ≠ j) :
    cellsGet d (cellsPut d l k v) j = cellsGet d l j := by
  induction l with
  | nil => by_cases hv : v = d <;> simp [cellsPut, cellsGet, hv, hne]
  | cons c rest ih =>
    obtain ⟨i, w⟩ := c
    simp only [cellsPut]
    split
    · split
      · rfl
      · simp [cellsGet, hne]
    · split
      · rename_i hk
        subst hk
        split <;> simp [cellsGet, hne]
      · simp only [cellsGet]
        split
        · rfl
        · exact ih

theorem cellsPut_below [DecidableEq α] (d : α) (l : List (Nat × α)) (k b : Nat) (v : α) (hk : b < k)
    (h : ∀ c ∈ l, b < c.1) : ∀ c ∈ cellsPut d l k v, b < c.1 := by
  induction l with
  | nil => by_cases hv : v = d <;> simp [cellsPut, hv, hk]
  | cons c rest ih =>
    obtain ⟨i, w⟩ := c
    have hi : b < i := h (i, w) (by simp)
    have hr : ∀ c ∈ rest, b < c.1 := fun x hx => h x (by simp [hx])
    intro x hx
    simp only [cellsPut] at hx
    split at hx
    · split at hx
      · exact h x hx
      · rcases List.mem_cons.1 hx with rfl | hx
        · exact hk
        · exact h x hx
    · split at hx
      · split at hx
        · exact hr x hx
        · rcases List.mem_cons.1 hx with rfl | hx
          · exact hk
          · exact hr x hx
      · rcases List.mem_cons.1 hx with rfl | hx
        · exact hi
        · exact ih hr x hx

theorem cellsPut_form [DecidableEq α] (d : α) (l : List (Nat × α)) (k : Nat) (v : α) (h : cellsForm d l) :
    cellsForm d (cellsPut d l k v) := by
  induction l with
  | nil => by_cases hv : v = d <;> simp [cellsPut, cellsForm, hv]
  | cons c rest ih =>
    obtain ⟨i, w⟩ := c
    have hp := h.1
    rw [List.pairwise_cons] at hp
    have hw : w ≠ d := h.2 (i, w) (by simp)
    have hrest : cellsForm d rest := ⟨hp.2, fun x hx => h.2 x (by simp [hx])⟩
    simp only [cellsPut]
    split
    · split
      · exact h
      · rename_i hk hv
        refine ⟨List.pairwise_cons.2 ⟨?_, h.1⟩, ?_⟩
        · intro x hx
          rcases List.mem_cons.1 hx with rfl | hx
          · exact hk
          · exact lt_trans hk (hp.1 x hx)
        · intro x hx
          rcases List.mem_cons.1 hx with rfl | hx
          · exact hv
          · exact h.2 x hx
    · split
      · split
        · exact hrest
        · rename_i hk hv
          subst hk
          refine ⟨List.pairwise_cons.2 ⟨hp.1, hp.2⟩, ?_⟩
          intro x hx
          rcases List.mem_cons.1 hx with rfl | hx
          · exact hv
          · exact hrest.2 x hx
      · rename_i h1 h2
        refine ⟨List.pairwise_cons.2 ⟨?_, (ih hrest).1⟩, ?_⟩
        · exact cellsPut_below d rest k i v (by omega) hp.1
        · intro x hx
          rcases List.mem_cons.1 hx with rfl | hx
          · exact hw
          · exact (ih hrest).2 x hx

theorem cells_map_filter_form [DecidableEq α] (d : α) (f : α → α) (l : List (Nat × α)) (h : cellsForm d l) :
    cellsForm d ((l.map fun c => (c.1, f c.2)).filter fun c => decide (c.2 ≠ d)) := by
  refine ⟨?_, ?_⟩
  · exact List.Pairwise.filter _ (List.pairwise_map.2 h.1)
  · intro c hc
    simpa using (List.mem_filter.1 hc).2

/-! ## Tables -/

/-- A value written is read back. -/
theorem Tab.get_put_same [DecidableEq α] (d : α) (t : Tab α) (k : Nat) (v : α) (h : t.wf d = true) :
    (t.put d k v).get d k = v := cellsGet_put_same d t.cells k v ((Tab.wf_iff d t).1 h)

/-- A write leaves every other key as it was. -/
theorem Tab.get_put_other [DecidableEq α] (d : α) (t : Tab α) (k j : Nat) (v : α) (h : k ≠ j) :
    (t.put d k v).get d j = t.get d j := cellsGet_put_other d t.cells k j v h

/-- A write keeps the canonical form. -/
theorem Tab.put_wf [DecidableEq α] (d : α) (t : Tab α) (k : Nat) (v : α) (h : t.wf d = true) :
    (t.put d k v).wf d = true := (Tab.wf_iff d _).2 (cellsPut_form d t.cells k v ((Tab.wf_iff d t).1 h))

/-- Changing every value keeps the canonical form. -/
theorem Tab.mapValues_wf [DecidableEq α] (d : α) (f : α → α) (t : Tab α) (h : t.wf d = true) :
    (t.mapValues d f).wf d = true := (Tab.wf_iff d _).2 (cells_map_filter_form d f t.cells ((Tab.wf_iff d t).1 h))

/-- The empty table is in canonical form. -/
theorem Tab.empty_wf [DecidableEq α] (d : α) : (Tab.mk ([] : List (Nat × α))).wf d = true := by simp [Tab.wf]

end Sys2Proof
end

