-- ==== Sys2Proof/Laws/Sound.lean ====
section
/-!
SUPPORT. How the laws of a state follow from the cells its roster lists and from what its lanes hold: what a slot can be, and
the laws of a state whose roster lists given cells or whose lanes all rest; when a lane's grant waits; and the ring an evacuation starts.
-/
namespace Sys2Proof.Machine

/-- A value read from a table's cells is the default, or stands in a cell at its key. -/
theorem cellsGet_mem {α : Type} (d : α) (l : List (Nat × α)) (k : Nat) : cellsGet d l k = d ∨ (k, cellsGet d l k) ∈ l := by
  induction l with
  | nil => exact .inl rfl
  | cons c rest ih =>
    obtain ⟨j, v⟩ := c
    simp only [cellsGet]
    split
    · rename_i h; subst h; exact .inr (by simp)
    · rcases ih with h | h
      · exact .inl h
      · exact .inr (List.mem_cons_of_mem _ h)

/-- A slot is FREE at its FREE values, or stands in a cell of the roster. -/
theorem State.slot_mem (s : State) (a : Nat) : s.slot a = Slot.freeSlot ∨ (a, s.slot a) ∈ s.roster.slots.cells :=
  cellsGet_mem _ _ _

/-- With no damage marked, no slot is DAMAGED. -/
theorem State.isDamaged_of_none {s : State} (h : s.roster.damage.cells = []) (a : Nat) : s.isDamaged a = false := by
  simp [State.isDamaged, Tab.get, h, cellsGet]

/-- Every word is sound where the cells' words are. -/
theorem State.soundWords_of_cells {s : State} (h : ∀ c ∈ s.roster.slots.cells, c.2.errors = ⟨0, false⟩) : s.soundWords := by
  intro a _
  rcases s.slot_mem a with hs | hs
  · rw [hs]; rfl
  · exact h _ hs

/-- The law of the empty slots, where no listed cell is FREE and no slot is DAMAGED. -/
theorem State.emptyLaw_of_cells {s : State} (h : ∀ c ∈ s.roster.slots.cells, c.2.status ≠ .free)
    (hd : s.roster.damage.cells = []) : s.emptyLaw := by
  refine ⟨fun a ha => ?_, fun a ha => ?_⟩
  · rcases s.slot_mem a with hs | hs
    · rw [hs]
    · exact absurd ha (h _ hs)
  · rw [isDamaged_of_none hd] at ha; cases ha

/-- Whether a slot holds a badge, where no slot is DAMAGED. -/
theorem State.holdsBadge_iff {s : State} (hd : s.roster.damage.cells = []) (b a : Nat) :
    s.holdsBadge b a = true ↔ (s.slot a).status = .active ∧ (s.slot a).badge = some b := by
  have := isDamaged_of_none hd a
  cases hs : (s.slot a).status <;> simp [State.holdsBadge, State.statusOf, this, hs]

/-- A badge that no listed cell holds is held by no slot. -/
theorem State.holdsBadge_of_cells {s : State} (hd : s.roster.damage.cells = []) (b : Nat)
    (h : ∀ c ∈ s.roster.slots.cells, c.2.badge ≠ some b) (a : Nat) : s.holdsBadge b a = false := by
  cases hb : s.holdsBadge b a
  · rfl
  · obtain ⟨h1, h2⟩ := (holdsBadge_iff hd b a).1 hb
    rcases s.slot_mem a with hs | hs
    · rw [hs] at h2; cases h2
    · exact absurd h2 (h _ hs)

/-- The law of the roster, where each listed cell stands in its badge's bucket and no two hold one badge. -/
theorem State.badgeLaw_of_cells {s : State} (hd : s.roster.damage.cells = [])
    (h : ∀ c ∈ s.roster.slots.cells,
      c.1 < 6144 ∧ c.2.badge.any (fun b => validBadge b && decide (c.1 / 4 = bucketOf b)) = true)
    (hn : ∀ c ∈ s.roster.slots.cells, ∀ d ∈ s.roster.slots.cells, c.2.badge = d.2.badge → c.1 = d.1) : s.badgeLaw := by
  refine ⟨fun a ha => ?_, fun a c b h1 h2 => ?_⟩
  · rcases s.slot_mem a with hs | hs
    · rw [hs] at ha; exact absurd rfl ha
    · obtain ⟨h3, h4⟩ := h _ hs
      obtain ⟨b, hb, h5⟩ := (Option.any_eq_true _ _).1 h4
      simp only [Bool.and_eq_true, decide_eq_true_eq] at h5
      exact ⟨h3, b, hb, h5.1, h5.2⟩
  · obtain ⟨a1, a2⟩ := (holdsBadge_iff hd b a).1 h1
    obtain ⟨c1, c2⟩ := (holdsBadge_iff hd b c).1 h2
    rcases s.slot_mem a with hs | hs
    · rw [hs] at a2; cases a2
    · rcases s.slot_mem c with ht | ht
      · rw [ht] at c2; cases c2
      · exact hn _ hs _ ht (a2.trans c2.symm)

/-- The law of the marks, where no listed cell is marked. -/
theorem State.markLaw_of_cells {s : State} (h : ∀ c ∈ s.roster.slots.cells, c.2.mark = none) : s.markLaw := by
  intro a l hm
  rcases s.slot_mem a with hs | hs
  · rw [hs] at hm; cases hm
  · have := h _ hs
    rw [this] at hm; cases hm

/-- The law of the lists, where they are empty and no listed cell holds a record. -/
theorem State.listLaw_of_off {s : State} (h : ∀ c ∈ s.roster.slots.cells, c.2.record = .off)
    (hd : s.records.deadlines = []) (hq : s.records.closureQueue = []) : s.listLaw := by
  have hoff : ∀ a, (s.slot a).record = .off := by
    intro a
    rcases s.slot_mem a with hs | hs
    · rw [hs]; rfl
    · exact h _ hs
  simp [State.listLaw, hd, hq, hoff, ShiftRecord.openData]

/-- The law of the lanes, where every lane rests: IDLE, with no grant, no wait, no handed punch and no pending setup. -/
theorem State.laneLaw_of_rest {s : State}
    (h : ∀ l : LaneId, (s.lane l).activity = .idle ∧ (s.lane l).grant = none ∧ (s.lane l).pendingSetup = none ∧
      s.punch.waits[l] = none ∧ s.handedAt l = none) : s.laneLaw := by
  intro l
  obtain ⟨h1, h2, h3, h4, h5⟩ := h l
  simp [h1, h2, h3, h4, h5]

/-! ## Which grants wait -/

/-- A lane that takes a grant releases it at once exactly where it need not wait (R72, R85). -/
theorem State.mustWait_eq_false_iff (s : State) (l : LaneId) : s.mustWait l = false ↔ s.takesAtOnce l := by
  unfold State.mustWait State.takesAtOnce
  cases s.partnerOf l <;> simp

/-- What taking a grant does where nothing waits: the grant is released. -/
theorem State.takeGrant_of_takesAtOnce {s : State} {l : LaneId} (h : s.takesAtOnce l) (g : Grant) :
    s.takeGrant l g = s.releaseGrant l g := by
  simp [State.takeGrant, (s.mustWait_eq_false_iff l).2 h]

/-- A look at a partner that stays does nothing. -/
theorem State.lookAtEntry_of_partnerStays {s : State} {l : LaneId} (h : s.partnerStays l) : s.lookAtEntry l = s := by
  unfold State.lookAtEntry
  split
  · rfl
  · next m hm =>
    unfold State.lookAtPartner State.waitingGrant
    cases hg : (s.lane m).grant with
    | none => rfl
    | some g => cases hp : g.phase <;> simp [hp, h m g hm hg]

/-! ## The evacuation ring -/

/-- The ring an evacuation output takes is the EVACUATION ring of the pattern, started now (R146). -/
theorem State.newRing_evacuation (s : State) (p : TonePattern) : s.newRing .evacuation p none = evacRingOf p s.elapsed := rfl

end Sys2Proof.Machine
end

