-- ==== Sys2Proof/Tests/Slice0.lean ====
section
/-!
SUPPORT. Small checks of the model: an ill-formed command for each well-formedness check, single steps and figures with the
results the spec's worked examples give, and for each statement with premises a state and operands that meet them.
-/
namespace Sys2Proof.Tests

open Sys2Proof.Machine

/-! ## Well-formedness -/

theorem test_wf_rows_named : (Instr.loadRows (.listed .tones) 0 []).wellFormed = false := by decide

theorem test_wf_eight_kinds : (Instr.setupWrite (.bells ⟨[.listed .tone], 0, 0⟩)).wellFormed = false := by decide

theorem test_wf_four_stations : (Instr.setupWrite (.stations [none, none, none])).wellFormed = false := by decide

theorem test_wf_frame_bytes : (Instr.frameReceipt []).wellFormed = false := by decide

theorem test_wf_length_bad : (Instr.frameLengthBad 1024).wellFormed = false ∧ (Instr.frameLengthBad 1025).wellFormed = true := by
  decide

/-! ## States the tests run on -/

/-- The stamp of a day number and a time of day. -/
def stampAt (day hour minute second : Nat) : Stamp := day * 86400 + hour * 3600 + minute * 60 + second

/-- A lane in use with a setup of its own. -/
def used (x : LaneSetup) : Lane := { Lane.initial with setup := x }

/-- A DOOR lane's setup, PULSE, with the default times. -/
def doorSetup : LaneSetup := { LaneSetup.default with kind := .door }

/-- A TURNSTILE lane's setup. -/
def turnstileSetup : LaneSetup := { LaneSetup.default with kind := .turnstile }

/-- A plant at rest: lane 0 a DOOR, lane 1 a TURNSTILE, lanes 4 and 5 an interlock pair, the clock VALID at day 20,012 05:50:00,
100 s of elapsed time. -/
def plant : State :=
  ((((State.reset.setTime { TimeBase.initial with
    valid := true, day := 20012, second := 21000, weekdayOffset := 1, elapsed := 100000 }).setLane 0 (used doorSetup)).setLane
    1 (used turnstileSetup)).setLane 4 (used { doorSetup with partner := some 5 })).setLane
    5 (used { doorSetup with partner := some 4 })

/-- The plant with one command waiting. -/
def loaded : State := plant.setPending [.strayCharacters]

/-- A worker's slot as enrolled. -/
def workerSlot (badge : Nat) : Slot := { Slot.freeSlot with status := .active, badge := some badge, lanes := 0xFF }

/-- The state with a roster of one slot. -/
def withSlot (s : State) (a : Nat) (x : Slot) : State :=
  s.setRoster { s.roster with slots := ⟨[(a, x)]⟩, occupiedCount := 1 }

/-- The state with a grant at a lane, in the activity state of its phase. -/
def withGrant (s : State) (l : LaneId) (g : Grant) : State :=
  s.setLane l { s.lane l with
    grant := some g
    activity := match g.phase with
      | .waiting => .interlockWait
      | .released => .released
    requested := ({ s.lane l with grant := some g } : Lane).wantsRelease }

/-- A REMOTE grant released until 5 s from the plant's present, or waiting until then. -/
def remoteGrant (phase : GrantPhase) : Grant :=
  { newGrant .remote .inward none none with
    phase := phase, waitEntry := 99000, waitExpiry := 100000
    releaseExpiry := match phase with
      | .waiting => none
      | .released => some 105000 }

/-- The state with one change delivered by the Input Sampler and not yet taken. -/
def delivering (s : State) (d : Delivery) : State := s.setInputs { s.inputs with deliveries := [d] }

/-- Every level taken again. -/
def settled (s : State) : State := s.retakeLevels

/-! ## Single steps and figures, with the spec's results -/

/-- 01, Working a slew and two steps: CLOCK SLEW +3 makes the remainder 192. -/
theorem test_slew :
    (match exec (.clockSlew 3) plant with | .next t => t.time.slew | _ => 0) = 192 := by decide

/-- 01, Working a slew and two steps: with trim +12 and the slew acting, a minute's last second is 32,244 periods long. -/
theorem test_second_length :
    (match exec .secondEnd (plant.setTime { plant.time with second := 58, trim := 12, slew := 192, slewing := true }) with
      | .next t => (t.time.length, t.time.slew)
      | _ => (0, 0)) = (32244, 191) := by decide

/-- 06, Working case A: the class of the day shift. -/
def classA : PayClass :=
  { unit := 15, rounding := .listed .plant, inEarly := 7, inLate := 3, outEarly := 3, outLate := 7, earlyPaid := false,
    latePaid := true, paidBreak := 15, mealThreshold := 360, mealLength := 30, dailyThreshold := 480,
    weeklyThreshold := 2400, overtimeRate := 150, nightPremium := 25, holidayRate := 200, nightStart := 1320,
    nightEnd := 360, autoClose := 240, admitEarly := 30, admitLate := 15, anyTime := false }

/-- 06, Working case A: what its closure hands the Pay Calculator. -/
def caseA : PayInput :=
  { cls := classA, classIndex := 3, slot := 0, badge := 1, generation := 7, slotWeek := 2859, slotTotal := 1980,
    holiday := false, outStamp := stampAt 20012 15 20 5
    data := { inStamp := stampAt 20012 5 51 20, pattern := 6, schedStart := stampAt 20012 6 0 0,
              schedEnd := stampAt 20012 14 0 0, anchorDay := 20012, anchorWeek := 2859,
              breaks := [⟨stampAt 20012 10 2 10, some (stampAt 20012 10 31 40)⟩], generation := 7, stepCount := 0,
              holdCount := 0, flags := .none } }

/-- 06, Working case A: gross 555, worked 525, regular 420, overtimes 45 and 60, pay value 57,750, the week's total 2,400. -/
theorem test_pay_case_a :
    (fun t : ShiftTotal =>
        [t.gross, t.breaks, t.meal, t.worked, t.dailyOver, t.weeklyOver, t.regular, t.pay])
      (shiftTotal caseA) = [555, 30, 15, 525, 45, 60, 420, 57750] ∧ weekAfter caseA = (2859, 2400) := by decide

/-- 06, Working case B: a night shift has 480 minutes of night overlap, 450 of them paid, and pay value 56,250. -/
theorem test_pay_case_b :
    (fun t : ShiftTotal => (nightOverlap classA t.effIn t.effOut, t.night, t.worked, t.pay))
      (shiftTotal { caseA with
        slotWeek := 2858, outStamp := stampAt 20015 6 4 50
        data := { caseA.data with
          inStamp := stampAt 20014 21 58 30, schedStart := stampAt 20014 22 0 0, schedEnd := stampAt 20015 6 0 0
          breaks := [] } }) = (480, 450, 450, 56250) := by decide

/-- 06, Working the grace edges: 450 s past a quarter hour rounds up under NEAREST, and down under WORKER. -/
theorem test_rounding_half :
    roundIn { classA with rounding := .listed .nearest } (stampAt 0 7 37 30) = stampAt 0 7 45 0 ∧
      roundIn { classA with rounding := .listed .worker } (stampAt 0 7 37 30) = stampAt 0 7 30 0 := by decide

/-- 05, Working the anchor: halfway between two starts the earlier is taken; a holiday is kept only by a mask that names it. -/
theorem test_anchor_tie :
    nearestOf (stampAt 20015 18 0 0) [stampAt 20014 6 0 0, stampAt 20015 6 0 0, stampAt 20016 6 0 0] =
      some (stampAt 20015 6 0 0) := by decide

/-- 05, Working a night shift: the anchor week of day 20,013 22:00 with week start 9,960 and offset 1 is 2,859. -/
theorem test_week_index : weekIndex 1 9960 (stampAt 20013 22 0 0) = 2859 := by decide

/-- 02, Working a crowded bucket: badge 301,000 lies in bucket 1,480, slots 5,920–5,923. -/
theorem test_bucket : bucketSlots (bucketOf 301000) = [5920, 5921, 5922, 5923] := by decide

/-- ROSTER ENROL takes position 0 of an empty bucket (R21). -/
theorem test_enrol :
    (match exec (.rosterEnrol 301000 3 12 0x0F) plant with
      | .next t => (t.link.lastReply, t.roster.occupiedCount)
      | _ => (none, 0)) = (some ⟨.ok, .slot 5920⟩, 1) := by decide

/-- 04, Working an interlocked vestibule: while lane 4's output is on, a grant at lane 5 waits, and its reply says so. -/
theorem test_interlock_waits :
    (match exec (.laneRelease 5 (.listed .outward)) (settled (withGrant plant 4 (remoteGrant .released))) with
      | .next t => ((t.lane 5).activity, t.link.lastReply)
      | _ => (.idle, none)) = (.interlockWait, some ⟨.ok, .grant false⟩) := by decide

/-- A pulse door's grant is released for 5 s, and its output driven on (R71, R72). -/
theorem test_release :
    (match exec (.laneRelease 0 (.listed .inward)) plant with
      | .next t => (t.inputs.drivenRelease[0], (t.lane 0).grant.bind Grant.releaseExpiry)
      | _ => (false, none)) = (true, some 105000) := by decide

/-- An opening that nothing excuses is FORCED (R75). -/
theorem test_forced :
    (match exec (.doorOpening 0) (delivering plant (.door 0 true)) with
      | .next t => (t.lane 0).doorOpen && decide ((t.spool.entries.map SpoolEntry.entry) = [.laneAlarm plant.now 0 .forced])
      | _ => false) = true := by decide

/-- The inward cycle of the encoder is 00, 01, 11, 10 (R81). -/
theorem test_encoder_cycle :
    encoderStep false false false true = .inward ∧ encoderStep true true false true = .outward ∧
      encoderStep false true true false = .error := by decide

/-- Three differing samples change a line with K = 3 (R154). -/
theorem test_debounce :
    (⟨some false, 2, true⟩ : Line).sample 3 true = (⟨some true, 0, true⟩, .change) ∧
      (⟨some false, 2, true⟩ : Line).sample 3 false = (⟨some false, 0, false⟩, .quiet) := by decide

/-- 09, Working a new holiday and a bell change: a ring entry with tone pattern 9 is a TONE_INDEX fault. -/
theorem test_load_fault : checkEntry Bank.initial { entryInitial with tone := 9 } = some (.tone, .toneIndex) := by decide

/-- 11, Layouts: an IDLE's check byte is 00h, and a PUNCH's brings the sum to 00h. -/
theorem test_head_answer :
    idleBytes = [0x00, 0x00] ∧ readAnswer [0x01, 0, 0, 0, 5, 0x01, 0xF9] = .punch 5 .breakKey := by decide

/-- The CRC-16 of the nine digits under the polynomial and starting value of 11, Layouts, is the 29B1h of its common table. -/
theorem test_crc : crc16 [0x31, 0x32, 0x33, 0x34, 0x35, 0x36, 0x37, 0x38, 0x39] = 0x29B1#16 := by decide +kernel

/-- With no command spelled by a word, the state stays as it is. -/
theorem test_no_word : State.reset.withFetchWord 16 0x1234 = State.reset := rfl

/-! ## For each statement with premises, states and operands that meet them -/

/-- The hypotheses of the laws that every step keeps: a step of the loaded plant. -/
theorem witness_step : ∃ t, step loaded = .next t := ⟨_, rfl⟩

theorem witness_StepTakesFrontCommand : loaded.pending = .strayCharacters :: [] := rfl

/-- A second has reached its length. -/
def secondDue : State := plant.setTime { plant.time with prescaler := 32768 }

theorem witness_EmptyQueueStep :
    (secondDue.pending = [] ∧ secondDue.dueEvent = some .secondEnd) ∧
      plant.pending = [] ∧ plant.dueEvent = none ∧ plant.supply.state ≠ .dark ∧ plant.elapsedLaw ∧
      plant.time.elapsed < elapsedTop := by
  unfold State.elapsedLaw; decide

/-- The plant in supply hold. -/
def held : State := plant.setSupply { plant.supply with state := .hold }

theorem witness_CommandsTouchOnlyTheirParts :
    held.supply.state ≠ .run ∧ Instr.poll.agent ≠ .supplies ∧ Instr.poll ≠ .secondEnd := by decide

/-- The plant with slot 5,920 holding badge 301,000. -/
def staffed : State := withSlot plant 5920 (workerSlot 301000)

theorem plant_levels : plant.levelLaw := by unfold State.levelLaw; decide

theorem plant_rest (l : LaneId) :
    (plant.lane l).activity = .idle ∧ (plant.lane l).grant = none ∧ (plant.lane l).pendingSetup = none ∧
      plant.punch.waits[l] = none ∧ plant.handedAt l = none := by
  revert l; decide

theorem witness_StepKeepsQueuesAndRanges :
    loaded.spoolLaw ∧ loaded.verdictLaw ∧ loaded.linkLaw ∧ loaded.timeLaw ∧ loaded.elapsedLaw ∧ loaded.generationLaw ∧
      loaded.epochLaw := by
  refine ⟨⟨by decide, trivial⟩, ?_, ?_, ?_, ?_, ?_, ?_⟩
  · unfold State.verdictLaw; decide
  · unfold State.linkLaw; decide
  · unfold State.timeLaw; decide
  · unfold State.elapsedLaw; decide
  · unfold State.generationLaw; decide
  · unfold State.epochLaw; decide

theorem witness_StepKeepsLevelsAndModes : loaded.levelLaw ∧ loaded.modeLaw := by
  refine ⟨?_, ?_⟩
  · unfold State.levelLaw; decide
  · unfold State.modeLaw; decide

theorem witness_StepKeepsListLaw : loaded.rosterForm ∧ loaded.emptyLaw ∧ loaded.listLaw :=
  ⟨by unfold State.rosterForm; decide, State.emptyLaw_of_cells (by decide) (by decide),
    State.listLaw_of_off (by decide) (by decide) (by decide)⟩

/-- The staffed plant with one command waiting. -/
def manned : State := staffed.setPending [.strayCharacters]

theorem witness_StepKeepsRosterLaws :
    manned.rosterForm ∧ manned.soundWords ∧ manned.badgeLaw ∧ manned.addressLaw ∧ manned.countLaw ∧
      ∃ t, step manned = .next t := by
  refine ⟨by unfold State.rosterForm; decide, State.soundWords_of_cells (by decide), State.badgeLaw_of_cells (by decide) (by decide) (by decide), fun a ha => ⟨?_, ?_⟩,
    by unfold State.countLaw; decide +kernel, ⟨_, rfl⟩⟩
  · rcases manned.slot_mem a with h | h
    · exact h
    · have : ∀ c ∈ manned.roster.slots.cells, c.1 ≤ 6143 := by decide
      exact absurd (this _ h) (by simpa using ha)
  · exact State.isDamaged_of_none rfl a

/-- Lane 0's entry and exit heads. -/
def headIn : Head := ⟨0, .inward⟩
def headOut : Head := ⟨0, .outward⟩

/-- Lane 0 waits for a ruling on badge 5 at its entry head, its timeout reached. -/
def referring : State :=
  (plant.setPunch { plant.punch with
    waits := putAt plant.punch.waits 0 (some ⟨headIn, 5, .normal, plant.now, 100000⟩) }).setLane
      0 { plant.lane 0 with activity := .referralWait }

theorem referring_lanes : referring.laneLaw := by
  intro l
  have h : l = 0 ∨ (referring.lane l).activity = .idle ∧ (referring.lane l).grant = none ∧
      (referring.lane l).pendingSetup = none ∧ referring.punch.waits[l] = none ∧ referring.handedAt l = none := by
    revert l; decide
  rcases h with rfl | ⟨h1, h2, h3, h4, h5⟩
  · have hg : (referring.lane 0).grant = none := rfl
    have ha : (referring.lane 0).activity = .referralWait := rfl
    have hh : referring.handedAt 0 = none := rfl
    have hp : (referring.lane 0).pendingSetup = none := rfl
    have hw : referring.punch.waits[(0 : LaneId)].isSome = true := rfl
    refine ⟨?_, ?_, ⟨fun _ => hw, fun _ => ha⟩, ?_, ?_⟩
    · simp [ha, hg]
    · simp [ha, hg]
    · simp [hh, hg]
    · simp [hp]
  · simp [h1, h2, h3, h4, h5]

theorem referring_waits : referring.waitLaw := by
  intro l w h
  have : ∀ l : LaneId, ∀ w ∈ referring.punch.waits[l], w.head.lane = l := by decide
  exact this l w h

theorem witness_StepKeepsLaneLaw :
    referring.laneLaw ∧ referring.waitLaw ∧ loaded.rosterForm ∧ loaded.emptyLaw ∧ loaded.laneLaw ∧ loaded.waitLaw ∧
      loaded.markLaw :=
  ⟨referring_lanes, referring_waits, by unfold State.rosterForm; decide, State.emptyLaw_of_cells (by decide) (by decide),
    State.laneLaw_of_rest plant_rest, fun l w h => absurd h (by simp [loaded, (plant_rest l).2.2.2.1, State.setPending]),
    State.markLaw_of_cells (by decide)⟩

/-- An order in hand that came in a frame. -/
def framed (order : Instr) : State := plant.setLink { plant.link with handed := some ⟨⟨7, 1, 9⟩, order⟩ }

theorem witness_ReplyCarriesTheFrameBack :
    (framed .status).link.handed = some ⟨⟨7, 1, 9⟩, .status⟩ ∧ plant.link.handed = none := ⟨rfl, rfl⟩

/-- The spool with so many entries held. -/
def filled (n : Nat) : State :=
  plant.setSpool { plant.spool with entries := List.replicate n ⟨1, .laneAlarm none 0 .forced⟩ }

theorem filled_length (n : Nat) : (filled n).spool.entries.length = n := by simp [filled, State.setSpool]

theorem witness_EntriesAdmittedOrDropped :
    (filled 3839).spool.entries.length < 3840 ∧ 3840 ≤ (filled 3840).spool.entries.length ∧
      (filled 4095).spool.entries.length < 4096 ∧ 4096 ≤ (filled 4096).spool.entries.length := by
  simp [filled_length]

/-- The plant with words of slot 5,920 in a condition. -/
def flipped (e : WordErrors) : State := withSlot plant 5920 { workerSlot 301000 with errors := e }

/-- The plant with slot 6,143 DAMAGED. -/
def damaged : State :=
  plant.setRoster { plant.roster with damage := ⟨[(6143, true)]⟩, damagedCount := 1, occupiedCount := 1 }

theorem witness_CheckedReadCorrectsOrDamages :
    damaged.isDamaged 6143 = true ∧ (staffed.slot 5920).errors = ⟨0, false⟩ ∧
    ((flipped ⟨1, false⟩).rosterForm ∧ (flipped ⟨1, false⟩).isDamaged 5920 = false ∧
      ((flipped ⟨1, false⟩).slot 5920).errors = ⟨1, false⟩) ∧
    (flipped ⟨0, true⟩).rosterForm ∧ (flipped ⟨0, true⟩).isDamaged 5920 = false ∧
      ((flipped ⟨0, true⟩).slot 5920).errors = ⟨0, true⟩ ∧ (flipped ⟨1, true⟩).rosterForm ∧
      ((flipped ⟨1, true⟩).slot 5920).errors = ⟨1, true⟩ := by
  unfold State.rosterForm; decide

theorem staffed_sound : staffed.soundWords := State.soundWords_of_cells (by decide)

theorem staffed_badges : staffed.badgeLaw := State.badgeLaw_of_cells (by decide) (by decide) (by decide)

/-- Bucket 1 with four ACTIVE slots. -/
def crowded : State :=
  plant.setRoster { plant.roster with
    slots := ⟨[(4, workerSlot 1537), (5, workerSlot 3073), (6, workerSlot 4609), (7, workerSlot 6145)]⟩
    occupiedCount := 4 }

theorem witness_RosterEnrolTakesTheLowestFreeSlot :
    (staffed.supply.state = .run ∧ staffed.soundWords ∧ ¬ (1 ≤ 0 ∧ 0 ≤ 4294967294) ∧ ¬ (4294967295 ≤ 4294967294)) ∧
    (∃ a ∈ bucketSlots (301000 % 1536), staffed.holdsBadge 301000 a = true) ∧
    (crowded.soundWords ∧ ∀ a ∈ bucketSlots (1 % 1536), crowded.holdsBadge 1 a = false ∧ crowded.statusOf a ≠ .free) ∧
    (∀ c ∈ bucketSlots (302536 % 1536), staffed.holdsBadge 302536 c = false) ∧ 5921 ∈ bucketSlots (302536 % 1536) ∧
      staffed.statusOf 5921 = .free ∧ (∀ c ∈ bucketSlots (302536 % 1536), c < 5921 → staffed.statusOf c ≠ .free) := by
  refine ⟨⟨rfl, staffed_sound, by decide, by decide⟩, by decide, ⟨State.soundWords_of_cells (by decide), by decide⟩,
    by decide, by decide, by decide, by decide⟩

theorem witness_RosterAmendWritesTheFieldsPresent :
    staffed.supply.state = .run ∧ staffed.soundWords ∧ staffed.badgeLaw ∧
    ¬ (∀ c ∈ some 16, c ≤ 15) ∧ (∀ c ∈ some 15, c ≤ 15) ∧ (∀ p ∈ some 63, p ≤ 63) ∧
    (∀ a, staffed.holdsBadge 302536 a = false) ∧ staffed.holdsBadge 301000 5920 = true :=
  ⟨rfl, staffed_sound, staffed_badges, by decide, by decide, by decide,
    State.holdsBadge_of_cells (by decide) _ (by decide), by decide⟩

/-- The presence epoch at its top. -/
def lastEpoch : State := staffed.setRoster { staffed.roster with epoch := 65535 }

theorem witness_PresenceOrdersWriteAndClear :
    (staffed.supply.state = .run ∧ staffed.soundWords ∧ staffed.badgeLaw ∧ staffed.epochLaw ∧ staffed.rosterForm ∧
      ¬ (1 ≤ 0 ∧ 0 ≤ 4294967294) ∧ (∀ a, staffed.holdsBadge 302536 a = false) ∧ staffed.holdsBadge 301000 5920 = true) ∧
    lastEpoch.supply.state = .run ∧ lastEpoch.rosterForm ∧ lastEpoch.epochLaw ∧ lastEpoch.roster.epoch = 65535 ∧
      staffed.roster.epoch ≠ 65535 ∧ ∀ a, (staffed.slot a).presenceStamp ≤ staffed.roster.epoch := by
  refine ⟨⟨rfl, staffed_sound, staffed_badges, ?_, ?_, by decide, State.holdsBadge_of_cells (by decide) _ (by decide),
    by decide⟩, rfl, ?_, ?_, rfl, by decide, fun a => ?_⟩
  · unfold State.epochLaw; decide
  · unfold State.rosterForm; decide
  · unfold State.rosterForm; decide
  · unfold State.epochLaw; decide
  · rcases staffed.slot_mem a with h | h
    · rw [h]; decide
    · have : ∀ c ∈ staffed.roster.slots.cells, c.2.presenceStamp ≤ staffed.roster.epoch := by decide
      exact this _ h

/-- What an open record holds, its deadline at the plant's present. -/
def openData : RecordData :=
  { inStamp := stampAt 20011 22 0 0, pattern := 0, schedStart := stampAt 20011 22 0 0, schedEnd := stampAt 20012 5 0 0,
    anchorDay := 20011, anchorWeek := 2859, breaks := [], generation := 0, stepCount := 0, holdCount := 0, flags := .none }

/-- Slot 5,920 of badge 301,000 with a record and a mark. -/
def recorded (s : State) (r : ShiftRecord) (m : Option LaneId) : State :=
  withSlot s 5920 { workerSlot 301000 with record := r, mark := m }

/-- A record that is open until the plant's present. -/
def openRecord : ShiftRecord := .onShift openData (stampAt 20012 5 50 0)

/-- A record that waits with its total. -/
def waitingRecord : ShiftRecord := .closedWaiting openData (stampAt 20012 5 0 0) (shiftTotal { caseA with slot := 5920 })

theorem witness_RosterWithdrawChecksInOrder :
    (∀ s : State, s.roster.damage.cells = [] → ∀ r m, (recorded s r m).soundWords ∧ (recorded s r m).badgeLaw) ∧
    plant.roster.damage.cells = [] ∧ plant.supply.state = .run ∧ (recorded plant .off (some 0)).holdsBadge 301000 5920 = true ∧
    ((recorded plant .off (some 0)).slot 5920).mark.isSome = true ∧ ((recorded plant openRecord none).slot 5920).mark = none ∧
    ((recorded plant openRecord none).slot 5920).record.openData = some openData ∧
    (recorded State.reset openRecord none).now = none ∧ (recorded plant openRecord none).now = some (stampAt 20012 5 50 0) ∧
    ((recorded plant .off none).slot 5920).record = .off ∧ (recorded plant openRecord none).rosterForm ∧
    (∃ d out total, ((recorded plant waitingRecord none).slot 5920).record = .closedWaiting d out total) ∧
    (0 < 1 ∧ 4294967294 < 4294967295 ∧ plant.soundWords ∧ ∀ a, plant.holdsBadge 1 a = false) ∧
    (recorded (filled 4095) openRecord none).records.closureQueue = [] ∧
    (recorded (filled 4095) openRecord none).spool.entries.length < 4096 ∧
    4096 ≤ (recorded (filled 4096) openRecord none).spool.entries.length := by
  refine ⟨fun s hd r m => ⟨State.soundWords_of_cells ?_, State.badgeLaw_of_cells hd ?_ ?_⟩, rfl, rfl, by decide, by decide,
    by decide, by decide, by decide, by decide, by decide, by unfold State.rosterForm; decide, ⟨_, _, _, rfl⟩,
    ⟨by decide, by decide, State.soundWords_of_cells (by decide), fun a => rfl⟩, rfl, ?_, ?_⟩
  · simp [recorded, withSlot, State.setRoster, workerSlot, Slot.freeSlot]
  · simp [recorded, withSlot, State.setRoster, workerSlot, validBadge, bucketOf]
  · simp [recorded, withSlot, State.setRoster]
  · simp [recorded, withSlot, State.setRoster, filled_length]
  · simp [recorded, withSlot, State.setRoster, filled_length]

theorem witness_RosterReadAndPurge :
    (staffed.supply.state = .run ∧ staffed.soundWords ∧ staffed.badgeLaw ∧ staffed.holdsBadge 301000 5920 = true ∧
      6143 < 6144 ∧ 8 < 9 ∧ 1 ≤ 1 ∧ 8 ≤ 8) ∧
    damaged.isDamaged 6143 = true ∧ damaged.isDamaged 6142 = false ∧ damaged.rosterForm := by
  refine ⟨⟨rfl, staffed_sound, staffed_badges, by decide, by decide, by decide, by decide, by decide⟩, by decide, by decide, ?_⟩
  unfold State.rosterForm; decide

theorem witness_ClockSetWritesTheClock :
    State.reset.supply.state = .run ∧ State.reset.now = none ∧ plant.now = some (20012 * 86400 + 21000) ∧
      20012 * 86400 + 21000 ≠ 65535 * 86400 + 86399 ∧ 65535 < 65536 ∧ 86399 < 86400 ∧ 6 < 7 := by decide

theorem witness_ClockTrimAndSlewReplaceTheirValues :
    plant.supply.state = .run ∧ plant.time.valid = true ∧ State.reset.time.valid = false ∧ (-255 : Int) ≤ -255 ∧
      (255 : Int) < 256 ∧ (3600 : Int) < 3601 ∧ (-3600 : Int) ≤ -3600 := by decide

/-- The last second the clock can count, a boundary and a step not yet taken. -/
def lastSecond : State :=
  ((plant.setTime { plant.time with day := 65535, second := 86399 }).giveNotice (.boundary 7)).giveNotice (.step 7 9)

/-- Its end withdraws the boundary; the step stays (log entry 44). -/
theorem test_boundary_withdrawn :
    (match exec .secondEnd lastSecond with
      | .next t => (t.time.valid, t.notices.recordUnit)
      | _ => (true, [])) = (false, [.step 7 9]) := by decide

theorem witness_SecondEndAdvancesTheClock :
    (plant.timeLaw ∧ plant.time.valid = true ∧ plant.supply.state ≠ .dark ∧
      ¬ (plant.time.day = 65535 ∧ plant.time.second = 86399) ∧ plant.supply.state = .run ∧ held.supply.state = .hold) ∧
    (lastSecond.timeLaw ∧ lastSecond.time.valid = true ∧ lastSecond.time.day = 65535 ∧ lastSecond.time.second = 86399 ∧
      lastSecond.supply.state = .run ∧ lastSecond.notices.scheduleUnit = [.boundary 7, .step 7 9] ∧
      lastSecond.notices.oldBanks = []) ∧
    (lastSecond.setSupply { lastSecond.supply with state := .hold }).timeLaw ∧
    secondDue.timeLaw ∧ secondDue.time.prescaler ≤ secondDue.time.length ∧
      secondDue.time.length < secondDue.time.prescaler + 1 ∧
      secondDue.time.prescaler + 32001 - secondDue.time.length ≤ 32001 := by
  unfold State.timeLaw; decide

/-- Slot 5,920's record open and referenced, and a notice given to each block. -/
def noticed (x : Notice) : State :=
  let s := recorded plant openRecord none
  (s.setRecords { s.records with deadlines := [5920] }).giveNotice x

theorem noticed_lists (x : Notice) : (noticed x).listLaw := by
  have hs : ∀ a, (noticed x).slot a = if 5920 = a then { workerSlot 301000 with record := openRecord, mark := none }
      else Slot.freeSlot := fun a => rfl
  refine ⟨by simp [noticed, State.giveNotice, State.setNotices, State.setRecords], List.nodup_nil, fun a => ?_, fun a => ?_, ?_⟩
  · have hd : (noticed x).records.deadlines = [5920] := rfl
    rw [hs, hd]
    by_cases h : 5920 = a
    · subst h; simp [openRecord, ShiftRecord.openData]
    · simp [h, Slot.freeSlot, ShiftRecord.openData, Ne.symm h]
  · have hq : (noticed x).records.closureQueue = [] := rfl
    rw [hs, hq]
    by_cases h : 5920 = a
    · subst h; simp [openRecord]
    · simp [h, Slot.freeSlot]
  · exact List.pairwise_singleton _ _

theorem witness_DueDeadlinesClose :
    (∀ x, (noticed x).supply.state = .run ∧ (noticed x).rosterForm ∧ (noticed x).soundWords ∧ (noticed x).emptyLaw ∧
      (noticed x).listLaw ∧
      (noticed x).notices.recordUnit = x :: []) ∧
    (noticed (.boundary (stampAt 20012 5 50 0))).headDue (stampAt 20012 5 50 0) = true ∧
    stampAt 20012 5 49 0 < stampAt 20012 5 50 0 ∧
    (∃ d, ((noticed (.boundary 0)).slot 5920).record.openData = some d) ∧
    (noticed (.boundary 0)).deadlineOf 5920 = some (stampAt 20012 5 50 0) := by
  refine ⟨fun x => ⟨rfl, ?_, State.soundWords_of_cells ?_, State.emptyLaw_of_cells ?_ rfl, noticed_lists x, rfl⟩, by decide,
    by decide, ⟨_, rfl⟩, by decide⟩
  · have h : (recorded plant openRecord none).rosterForm := by unfold State.rosterForm; decide
    exact h
  · intro c hc
    have : c = (5920, { workerSlot 301000 with record := openRecord, mark := none }) := by
      simpa [noticed, recorded, withSlot, State.giveNotice, State.setNotices, State.setRecords, State.setRoster] using hc
    subst this; decide
  · intro c hc
    have : c = (5920, { workerSlot 301000 with record := openRecord, mark := none }) := by
      simpa [noticed, recorded, withSlot, State.giveNotice, State.setNotices, State.setRecords, State.setRoster] using hc
    subst this; decide

/-- A pending switch to the plant's present minute. -/
def switching (x : Notice) : State :=
  (plant.setBanks { plant.banks with standby := .ready, pending := some ⟨stampAt 20012 5 50 0, true⟩ }).giveNotice x

theorem witness_PendingSwitchIsCarriedOut :
    (∀ x, (switching x).supply.state = .run ∧ (switching x).notices.bankStore = x :: [] ∧
      (switching x).banks.pending = some ⟨stampAt 20012 5 50 0, true⟩) ∧
    stampAt 20012 5 50 0 % 60 = 0 ∧ stampAt 20012 5 50 0 ≤ stampAt 20012 5 50 0 ∧ stampAt 20012 5 50 1 % 60 ≠ 0 ∧
    stampAt 20012 5 49 0 < stampAt 20012 5 50 0 :=
  ⟨fun x => ⟨rfl, rfl, rfl⟩, by decide, by decide, by decide, by decide⟩

theorem witness_ScheduleFiresAndCatchesUp :
    (∀ x, (switching x).supply.state = .run ∧ (switching x).notices.scheduleUnit = x :: []) ∧
    entryDue Bank.initial 1 { entryInitial with second := 21000, mask := 0xFF } (stampAt 20012 5 50 0) = true ∧
    entryDue Bank.initial 1 entryInitial (stampAt 20012 5 50 0) = false ∧ entryInitial.kind = .listed .ring ∧
    entryInitial.basis = .listed .fixed ∧ askOf (.listed .free) = some .free ∧
    (∀ x, ∃ p ∈ (switching x).banks.pending, p.target ≤ stampAt 20012 5 50 59 - stampAt 20012 5 50 59 % 60) :=
  ⟨fun x => ⟨rfl, rfl⟩, by decide +kernel, by decide +kernel, rfl, rfl, rfl, fun x => ⟨_, rfl, by decide⟩⟩

/-- Second 59 before the minute that switches comes from the old bank, though the Bank Store has switched (R138). -/
theorem test_old_bank_second_59 :
    (let s := (switching (.boundary (stampAt 20012 5 49 59))).giveNotice (.boundary (stampAt 20012 5 50 0))
     match exec (.secondBoundary .bankStore) s with
      | .next t => match exec (.secondBoundary .bankStore) t with
        | .next u => (t.notices.oldBanks, u.notices.oldBanks, u.banks.active)
        | _ => ([], [], .bankA)
      | _ => ([], [], .bankA)) = ([], [Bank.initial], .bankB) := by decide +kernel

theorem witness_CatchUpFindsTheLatestMode : 604800 ≤ 0 + 604800 ∧ 0 ≤ 0 := by decide

/-- A poll of a head outstanding, its reply window at its end, the head in a state. -/
def polled (h : Head) (x : HeadState) : State :=
  plant.setPunch { plant.punch with
    position := some h, outstanding := some ⟨h, 100000⟩, heads := putAt plant.punch.heads h.index x }

theorem witness_PollsAreSentAnsweredAndMissed :
    (plant.supply.state = .run ∧ plant.punch.outstanding = none ∧ plant.inPollSet headIn = true ∧
      (∀ p ∈ plant.punch.position, p.address ≤ 0) ∧ ∀ l d, plant.inPollSet ⟨l, d⟩ = true → headIn.address ≤ (Head.mk l d).address) ∧
    (∀ l d, State.reset.inPollSet ⟨l, d⟩ = false) ∧
    (polled headIn ⟨false, 1⟩).punch.outstanding = some ⟨headIn, 100000⟩ ∧
    100000 ≤ (polled headIn ⟨false, 1⟩).time.elapsed ∧ (polled headIn ⟨false, 1⟩).time.elapsed ≤ 100000 ∧
    (polled headIn ⟨false, 1⟩).inPollSet headIn = true ∧ headOut ≠ headIn ∧ 99999 < (polled headIn ⟨false, 1⟩).time.elapsed ∧
    (polled headIn ⟨false, 1⟩).headAt headIn = ⟨false, 1⟩ ∧ (polled headIn ⟨false, 2⟩).headAt headIn = ⟨false, 2⟩ ∧
    (polled headIn ⟨true, 3⟩).headAt headIn = ⟨true, 3⟩ ∧ ((polled headIn ⟨true, 3⟩).lane 0).setup.kind ≠ .unused := by
  refine ⟨⟨rfl, rfl, by decide, by decide, ?_⟩, ?_, rfl, by decide, by decide, by decide, by decide, by decide, by decide,
    by decide, by decide, by decide⟩
  · intro l d; cases d <;> revert l <;> decide
  · intro l d; cases d <;> revert l <;> decide

/-- Lane 0 in a mode, with a poll of its entry head outstanding. -/
def moded (m : LaneMode) : State :=
  let s := polled headIn ⟨false, 0⟩
  settled (s.setLane 0 { s.lane 0 with mode := m })

/-- Lane 0 with a setup and slot 5,920 as given, a poll of a head outstanding, the first shift pattern of the active bank a
06:00 start of 480 minutes every day. -/
def asked (h : Head) (x : Slot) (setup : LaneSetup) : State :=
  let s := polled h ⟨false, 0⟩
  let t := s.setLane 0 { s.lane 0 with setup := setup }
  withSlot (t.setBanks { t.banks with
    bankA := { t.banks.bankA with patterns := putAt t.banks.bankA.patterns 0 ⟨360, 480, 0xFF⟩ } }) 5920 x

/-- The laws the punches' statements ask of a state are those of the slot and the lanes put there. -/
theorem asked_laws (h : Head) {x : Slot} (setup : LaneSetup) (hb : x.badge = some 301000) (he : x.errors = ⟨0, false⟩) :
    (asked h x setup).soundWords ∧ (asked h x setup).badgeLaw := by
  refine ⟨State.soundWords_of_cells ?_, State.badgeLaw_of_cells rfl ?_ ?_⟩
  · simpa [asked, withSlot, State.setRoster] using he
  · simp [asked, withSlot, State.setRoster, hb, validBadge, bucketOf]
  · simp [asked, withSlot, State.setRoster]

/-- Slots the checks of a punch end at: marked for lane 3; punched 9 s ago at the head; barred from lane 0; present. -/
def inUseSlot : Slot := { workerSlot 301000 with mark := some 3 }
def repeatSlot (h : Head) : Slot := { workerSlot 301000 with lastPunch := some (stampAt 20012 5 49 51, h) }
def barredSlot : Slot := { workerSlot 301000 with lanes := 0xFE }
def presentSlot (inside : Bool) : Slot := { workerSlot 301000 with inside := inside, presenceStamp := 1 }

theorem witness_PunchTurnedAwayEarly :
    ((moded .egress).supply.state = .run ∧ (moded .egress).levelLaw ∧ (moded .egress).verdictLaw ∧
      (moded .egress).punch.outstanding = some ⟨headIn, 100000⟩ ∧ ((moded .egress).headAt headIn).silent = false ∧
      (moded .egress).inPollSet headIn = true ∧ ((moded .egress).lane 0).mode = .egress) ∧
    ((moded .locked).levelLaw ∧ ((moded .locked).lane 0).mode = .locked) ∧
    ((moded .secure).levelLaw ∧ ((moded .secure).lane 0).mode = .secure ∧ ((moded .secure).lane 0).activity = .idle) ∧
    ((withGrant (moded .free) 0 (remoteGrant .released)).lane 0).mode = .free ∧
      ((withGrant (moded .free) 0 (remoteGrant .released)).lane 0).activity ≠ .idle ∧
      (withGrant (moded .free) 0 (remoteGrant .released)).levelLaw := by
  unfold State.levelLaw State.verdictLaw
  decide

theorem witness_PunchTurnedAwayAtASlot :
    ((∀ h, ∀ x ∈ [workerSlot 301000, inUseSlot, repeatSlot h, barredSlot, presentSlot true], ∀ setup,
      (asked h x setup).soundWords ∧ (asked h x setup).badgeLaw) ∧
    (asked headIn inUseSlot doorSetup).rosterForm ∧ (asked headIn inUseSlot doorSetup).levelLaw ∧
      (asked headIn inUseSlot doorSetup).verdictLaw ∧ (asked headIn inUseSlot doorSetup).holdsBadge 301000 5920 = true) ∧
    (asked headIn (workerSlot 301000) doorSetup).holdsBadge 1 5920 = false ∧
    ((asked headIn (repeatSlot headIn) doorSetup).now = some (stampAt 20012 5 50 0) ∧
      stampAt 20012 5 50 0 - stampAt 20012 5 49 51 < (asked headIn (repeatSlot headIn) doorSetup).setup.general.repeatGuard) ∧
    inSet barredSlot.lanes 0 = false ∧
    (asked headIn (presentSlot true) doorSetup).presenceOf (presentSlot true) = .inside ∧
    (asked headOut (presentSlot false) doorSetup).presenceOf (presentSlot false) = .outside ∧
    (let s := asked headIn (workerSlot 301000) doorSetup
     nearestStart s.activeBank s.time.weekdayOffset (s.activeBank.shiftPattern 0) (stampAt 20012 5 50 0) =
      some (stampAt 20012 6 0 0) ∧ (s.activeBank.payClass 0).anyTime = false ∧
      stampAt 20012 5 50 0 + 60 * (s.activeBank.payClass 0).admitEarly < stampAt 20012 6 0 0) := by
  refine ⟨⟨fun h x hx setup => ?_, by unfold State.rosterForm; decide, by unfold State.levelLaw; decide,
    by unfold State.verdictLaw; decide, by decide⟩, by decide, by decide, by decide, by decide, by decide, by decide +kernel⟩
  have hb : x.badge = some 301000 ∧ x.errors = ⟨0, false⟩ := by
    simp only [List.mem_cons, List.not_mem_nil, or_false] at hx
    rcases hx with rfl | rfl | rfl | rfl | rfl <;> exact ⟨rfl, rfl⟩
  exact asked_laws h setup hb.1 hb.2

/-- A worker at lane 0's exit head. -/
def leaving : State := withSlot (polled headOut ⟨false, 0⟩) 5920 (workerSlot 301000)

/-- A punch at lane 4's exit head, its partner's door OPEN or CLOSED; a miss there is ADMIT_NOTED. -/
def pairLeaving (isOpen : Bool) : State :=
  let s := polled ⟨4, .outward⟩ ⟨false, 0⟩
  let t := s.setLane 4 { s.lane 4 with setup := { doorSetup with partner := some 5, miss := .admitNoted } }
  withSlot (t.setLane 5 { t.lane 5 with doorOpen := isOpen }) 5920 (workerSlot 301000)

theorem pairLeaving_lanes (isOpen : Bool) : (pairLeaving isOpen).laneLaw := by
  refine State.laneLaw_of_rest ?_
  revert isOpen; decide

/-- A lane whose partner holds no grant has no partner waiting. -/
theorem partnerStays_of_free {s : State} {l m : LaneId} (h : s.partnerOf l = some m) (hg : (s.lane m).grant = none) :
    s.partnerStays l := by
  intro m' g hm hgr
  obtain rfl : m = m' := by simpa [h] using hm
  simp [hg] at hgr

/-- What a punch's grant in an interlock pair asks of the state, by whether the partner's door is OPEN. -/
theorem witness_PunchAtAPair (isOpen : Bool) :
    ((pairLeaving isOpen).supply.state = .run ∧ (pairLeaving isOpen).rosterForm ∧ (pairLeaving isOpen).soundWords ∧
      (pairLeaving isOpen).badgeLaw ∧ (pairLeaving isOpen).levelLaw ∧ (pairLeaving isOpen).laneLaw) ∧
    ((pairLeaving isOpen).inPollSet ⟨4, .outward⟩ = true ∧ ((pairLeaving isOpen).lane 4).mode = .secure ∧
      ((pairLeaving isOpen).lane 4).activity = .idle ∧ (pairLeaving isOpen).punch.verdicts = [] ∧
      (pairLeaving isOpen).passes ⟨⟨4, .outward⟩, 301000, .normal, plant.now⟩ 5920 ∧
      (pairLeaving isOpen).holdsBadge 301000 5920 = true ∧ (pairLeaving isOpen).holdsBadge 1 5920 = false) ∧
    ((pairLeaving isOpen).takesAtOnce 4 ↔ isOpen = false) ∧ (pairLeaving isOpen).partnerStays 4 := by
  refine ⟨⟨by cases isOpen <;> rfl, ?_, State.soundWords_of_cells ?_, State.badgeLaw_of_cells ?_ ?_ ?_, ?_,
    pairLeaving_lanes isOpen⟩, ?_, ?_, partnerStays_of_free (m := 5) ?_ ?_⟩ <;> revert isOpen
  · unfold State.rosterForm; decide
  · decide
  · decide
  · decide
  · decide
  · unfold State.levelLaw; decide
  · unfold State.passes; decide
  · unfold State.takesAtOnce; decide
  · decide
  · decide

/-- 04, Working an interlocked vestibule: a punch at a lane whose interlock condition fails waits, and its head is told WAIT (R53,
R85). -/
theorem test_pair_waits :
    (match exec (.punch ⟨4, .outward⟩ 301000 .normal) (pairLeaving true) with
      | .next t => ((t.lane 4).activity, t.punch.verdicts.map QueuedVerdict.verdict)
      | _ => (.idle, [])) = (.interlockWait, [⟨.wait, .none, false⟩]) := by decide +kernel

theorem witness_PunchReleasesAWorker :
    (leaving.supply.state = .run ∧ leaving.rosterForm ∧ leaving.soundWords ∧ leaving.badgeLaw ∧ leaving.levelLaw) ∧
    leaving.punch.outstanding = some ⟨headOut, 100000⟩ ∧ (leaving.headAt headOut).silent = false ∧
    leaving.inPollSet headOut = true ∧ (leaving.lane 0).mode = .secure ∧ (leaving.lane 0).activity = .idle ∧
    leaving.takesAtOnce 0 ∧ (∀ q ∈ leaving.punch.verdicts, q.head ≠ headOut) ∧ (301000#32).toNat = 301000 ∧
    leaving.holdsBadge 301000 5920 = true ∧ leaving.now = some (stampAt 20012 5 50 0) ∧ (leaving.slot 5920).mark = none ∧
    leaving.passes ⟨headOut, 301000, .normal, leaving.now⟩ 5920 ∧
    (let s := leaving.setLane 0 { leaving.lane 0 with mode := .free }
     (settled s).levelLaw ∧ ((settled s).lane 0).mode = .free ∧ (settled s).passes ⟨headOut, 301000, .normal, s.now⟩ 5920) ∧
    (let s := asked headIn (workerSlot 301000) { doorSetup with miss := .admitNoted }
     s.levelLaw ∧ (s.lane 0).setup.miss = .admitNoted ∧ (s.lane 0).setup.referral = false) ∧
    (let s := asked headIn (workerSlot 301000) { doorSetup with referral := true }
     (s.setLink { s.link with online := true }).link.online = true ∧ (s.lane 0).setup.referral = true ∧
      s.holdsBadge 1 5920 = false) := by
  refine ⟨⟨rfl, ?_, State.soundWords_of_cells (by decide), State.badgeLaw_of_cells (by decide) (by decide) (by decide), ?_⟩, ?_⟩
  · unfold State.rosterForm; decide
  · unfold State.levelLaw; decide
  · unfold State.levelLaw State.passes State.takesAtOnce; decide

/-- The state with a worker of badge 5 in each of the slots given. -/
def withWorkers (s : State) (l : List Nat) : State :=
  s.setRoster { s.roster with slots := ⟨l.map fun a => (a, workerSlot (5 + 1536 * (a - 20)))⟩, occupiedCount := l.length }

/-- Lane 4 waits for a ruling on badge 5 of slot 20, its partner's door OPEN. -/
def pairReferring : State :=
  let s := plant.setPunch { plant.punch with
    waits := putAt plant.punch.waits 4 (some ⟨⟨4, .inward⟩, 5, .normal, plant.now, 100000⟩) }
  let t := (s.setLane 4 { s.lane 4 with activity := .referralWait }).setLane 5 { s.lane 5 with doorOpen := true }
  withWorkers t [20]

theorem pairReferring_lanes : pairReferring.laneLaw := by
  intro l
  have h : l = 4 ∨ (pairReferring.lane l).activity = .idle ∧ (pairReferring.lane l).grant = none ∧
      (pairReferring.lane l).pendingSetup = none ∧ pairReferring.punch.waits[l] = none ∧
      pairReferring.handedAt l = none := by
    revert l; decide
  rcases h with rfl | ⟨h1, h2, h3, h4, h5⟩
  · have hg : (pairReferring.lane 4).grant = none := rfl
    have ha : (pairReferring.lane 4).activity = .referralWait := rfl
    have hh : pairReferring.handedAt 4 = none := rfl
    have hp : (pairReferring.lane 4).pendingSetup = none := rfl
    have hw : pairReferring.punch.waits[(4 : LaneId)].isSome = true := rfl
    refine ⟨?_, ?_, ⟨fun _ => hw, fun _ => ha⟩, ?_, ?_⟩
    · simp [ha, hg]
    · simp [ha, hg]
    · simp [hh, hg]
    · simp [hp]
  · simp [h1, h2, h3, h4, h5]

/-- What a ruling at a lane that cannot release at once asks of the state. -/
theorem witness_RulingAtAPair :
    (pairReferring.supply.state = .run ∧ pairReferring.levelLaw ∧ pairReferring.laneLaw ∧ pairReferring.rosterForm ∧
      pairReferring.soundWords ∧ pairReferring.badgeLaw) ∧
    (pairReferring.inPollSet ⟨4, .inward⟩ = true ∧ pairReferring.punch.verdicts = [] ∧
      (pairReferring.lane 4).pendingSetup = none ∧ (pairReferring.lane 4).mode = .secure ∧
      pairReferring.holdsBadge 5 20 = true ∧ pairReferring.passes ⟨⟨4, .inward⟩, 5, .normal, plant.now⟩ 20) ∧
    ¬ pairReferring.takesAtOnce 4 ∧ pairReferring.partnerStays 4 := by
  refine ⟨⟨rfl, ?_, pairReferring_lanes, ?_, State.soundWords_of_cells (by decide),
    State.badgeLaw_of_cells (by decide) (by decide) (by decide)⟩, ?_, ?_,
    partnerStays_of_free (m := 5) (by decide) (by decide)⟩
  · unfold State.levelLaw; decide
  · unfold State.rosterForm; decide
  · unfold State.passes; decide
  · unfold State.takesAtOnce; decide

theorem witness_ReferralWaitEnds :
    (referring.supply.state = .run ∧ referring.levelLaw ∧ referring.laneLaw) ∧
    (referring.punch.waits[(0 : LaneId)] = some ⟨headIn, 5, .normal, plant.now, 100000⟩ ∧ headIn.lane = 0 ∧
      100000 ≤ referring.time.elapsed ∧ referring.inPollSet headIn = true ∧
      (∀ q ∈ referring.punch.verdicts, q.head ≠ headIn) ∧ (referring.lane 0).pendingSetup = none ∧
      (referring.lane 0).setup.miss = .deny ∧ (referring.lane 0).mode = .secure ∧ referring.takesAtOnce 0) ∧
    (let s := referring.setLane 0 { referring.lane 0 with setup := { doorSetup with miss := .admitNoted } }
     s.levelLaw ∧ (s.lane 0).setup.miss = .admitNoted) ∧
    (validBadge 5 = true ∧ validBadge 0 = false ∧ 7 < 8 ∧ fieldsInRange (some ⟨16, 0, 0⟩) = false ∧
      fieldsInRange (some ⟨15, 63, 0⟩) = true ∧ fieldsInRange none = true ∧
      (∀ l : LaneId, l.val = 7 → referring.punch.waits[l] = none)) ∧
    ((withWorkers referring [20]).holdsBadge 5 20 = true ∧
      (withWorkers referring [20]).passes ⟨headIn, 5, .normal, plant.now⟩ 20) ∧
    ((withWorkers referring [21, 22]).holdsBadge 5 21 = false ∧ (withWorkers referring [21, 22]).statusOf 20 = .free) ∧
    (∀ a ∈ bucketSlots (1541 % 1536), (withWorkers referring [20, 21, 22, 23]).statusOf a ≠ .free) ∧
    (∀ l ∈ [[20], [21, 22], [20, 21, 22, 23]], (withWorkers referring l).soundWords ∧ (withWorkers referring l).badgeLaw) := by
  refine ⟨⟨rfl, ?_, referring_lanes⟩, ?_, ?_, by decide, ⟨by decide, ?_⟩, by decide, by decide, ?_⟩
  · unfold State.levelLaw; decide
  · unfold State.takesAtOnce; decide
  · unfold State.levelLaw; decide
  · unfold State.passes; decide
  · intro l hl
    simp only [List.mem_cons, List.not_mem_nil, or_false] at hl
    rcases hl with rfl | rfl | rfl <;>
      exact ⟨State.soundWords_of_cells (by decide), State.badgeLaw_of_cells (by decide) (by decide) (by decide)⟩

/-- A door opening at lane 0, delivered. -/
def opening (s : State) : State := delivering s (.door 0 true)

/-- A used PULSE grant at lane 0. -/
def usedGrant : State := withGrant plant 0 { remoteGrant .released with passageSeen := true }

/-- A handed punch of slot 5,920 at lane 0. -/
def handedPunch : HandedPunch := ⟨headOut, 301000, plant.now, some 5920, some .passOut, none, [], false, false⟩

/-- The grant of that punch, released. -/
def workerGrant : Grant :=
  { remoteGrant .released with
    kind := .worker, dir := .outward, slot := some 5920, punch := some (plant.now, some .passOut) }

/-- Lane 0 in a release mode, RELEASED for that punch, whose slot it has marked. -/
def granting (mode : ReleaseMode) (g : Grant) : State :=
  let s := withSlot plant 5920 { workerSlot 301000 with mark := some 0 }
  settled ((withGrant (s.setLane 0 (used { doorSetup with releaseMode := mode })) 0 g).setHanded 0 (some handedPunch))

/-- The same with its expiry reached. -/
def expiring (seen : Bool) : State :=
  granting .pulse { workerGrant with releaseExpiry := some 100000, passageSeen := seen }

theorem granting_sound (mode : ReleaseMode) (g : Grant) : (granting mode g).soundWords := by
  have h : (granting mode g).roster.slots.cells = [(5920, { workerSlot 301000 with mark := some 0 })] := rfl
  refine State.soundWords_of_cells fun c hc => ?_
  rw [h] at hc
  simp only [List.mem_singleton] at hc
  subst hc; rfl

theorem witness_DoorOpeningIsTakenInOrder :
    ((opening plant).supply.state = .run ∧ (opening plant).levelLaw ∧ ((opening plant).lane 0).setup.kind = .door ∧
      ((opening plant).lane 0).doorOpen = false ∧ (opening plant).inputs.deliveries = [.door 0 true] ∧
      ((opening plant).lane 0).grant = none ∧ (opening plant).driveRelease 0 = false ∧
      ((opening plant).lane 0).exitAllowance = none ∧ (opening plant).exitActive 0 = false ∧
      ((opening plant).lane 0).mode = .secure) ∧
    ((settled (opening (moded .free))).levelLaw ∧ (settled (opening (moded .free))).driveRelease 0 = true) ∧
    ((opening (withGrant plant 0 (remoteGrant .waiting))).levelLaw ∧
      ((opening (withGrant plant 0 (remoteGrant .waiting))).lane 0).grant = some (remoteGrant .waiting)) ∧
    ((settled (opening usedGrant)).levelLaw ∧ ((settled (opening usedGrant)).lane 0).setup.releaseMode = .pulse) ∧
    ((settled (opening (withGrant plant 0 (remoteGrant .released)))).levelLaw ∧
      (opening (withGrant plant 0 (remoteGrant .released))).handedAt 0 = none) ∧
    (∀ mode ∈ [ReleaseMode.pulse, .untilOpen], (opening (granting mode workerGrant)).levelLaw ∧
      (opening (granting mode workerGrant)).handedAt 0 = some handedPunch ∧
      ((opening (granting mode workerGrant)).lane 0).setup.releaseMode = mode) ∧
    (opening (granting .untilOpen { workerGrant with passageSeen := true })).levelLaw ∧
      (opening (granting .untilOpen { workerGrant with passageSeen := true })).driveRelease 0 = false := by
  unfold State.levelLaw; decide

/-- The plant with slot 5,920's record as given and a handed punch of the classification at lane 0. -/
def passing (r : ShiftRecord) (k : Option Classification) : State :=
  (recorded plant r (some 0)).setHanded 0 (some { handedPunch with cls := k })

/-- A record that is on a break since 05:00. -/
def breakRecord : ShiftRecord :=
  .onBreak { openData with breaks := [⟨stampAt 20012 5 0 0, none⟩] } (stampAt 20012 5 50 0)

/-- A record with four breaks. -/
def fullRecord : ShiftRecord :=
  .onShift { openData with breaks := List.replicate 4 ⟨stampAt 20012 4 0 0, some (stampAt 20012 4 1 0)⟩ }
    (stampAt 20012 5 50 0)

theorem witness_PassageCommitsThePunch :
    (∀ r k, (passing r k).soundWords ∧ (passing r k).isDamaged 5920 = false ∧
      (passing r k).handedAt 0 = some { handedPunch with cls := k } ∧ ((passing r k).slot 5920).status = .active ∧
      ((passing r k).slot 5920).record = r) ∧
    (∀ r ∈ [.off, openRecord, breakRecord, fullRecord, waitingRecord], (recorded plant r (some 0)).rosterForm) ∧
    handedPunch.slot = some 5920 ∧ handedPunch.stamp = some (stampAt 20012 5 50 0) ∧ handedPunch.notRecorded = false ∧
    openData.breaks.length < 4 ∧ openRecord.openData = some openData ∧ ShiftRecord.off.openData = none ∧
    (∃ d u pairs o, breakRecord = .onBreak d u ∧ d.breaks = pairs ++ [⟨o, none⟩]) ∧
    (∀ d u, fullRecord = .onShift d u → 4 ≤ d.breaks.length) ∧ (∀ d u, openRecord ≠ .onBreak d u) ∧
    ((passing openRecord (some .clockOut)).records.closureQueue = [] ∧
      (passing openRecord (some .clockOut)).spool.entries.length < 4096) := by
  refine ⟨fun r k => ⟨State.soundWords_of_cells ?_, rfl, rfl, rfl, rfl⟩, ?_, rfl, rfl, rfl, by decide, rfl, rfl,
    ⟨_, _, [], _, rfl, rfl⟩, ?_, ?_, rfl, by decide⟩
  · simp [passing, recorded, withSlot, State.setRoster, State.setHanded, State.setPunch, workerSlot, Slot.freeSlot]
  · unfold State.rosterForm; decide
  · intro d u h; cases h; decide
  · intro d u h; cases h

/-- Lane 0's door stands OPEN and its closing is delivered. -/
def closing (isHeld : Bool) : State :=
  delivering (plant.setLane 0 { plant.lane 0 with doorOpen := true, held := isHeld }) (.door 0 false)

/-- Lane 0's used UNTIL_OPEN grant, its door OPEN and the closing delivered. -/
def closingUsed : State :=
  let s := granting .untilOpen { workerGrant with passageSeen := true }
  settled (delivering (s.setLane 0 { s.lane 0 with doorOpen := true }) (.door 0 false))

theorem witness_DoorClosingRecordsTheClosing :
    (∀ b, (closing b).supply.state = .run ∧ (closing b).levelLaw ∧ ((closing b).lane 0).setup.kind = .door ∧
      ((closing b).lane 0).doorOpen = true ∧ (closing b).inputs.deliveries = [.door 0 false] ∧
      (closing b).inPair 0 = false ∧ ((closing b).lane 0).grant = none ∧ ((closing b).lane 0).held = b) ∧
    (closingUsed.levelLaw ∧ closingUsed.rosterForm ∧ (closingUsed.lane 0).doorOpen = true ∧
      (closingUsed.lane 0).grant = some { workerGrant with passageSeen := true } ∧
      (closingUsed.lane 0).setup.releaseMode = .untilOpen ∧ (closingUsed.lane 0).pendingSetup = none ∧
      closingUsed.handedAt 0 = some handedPunch ∧ (closingUsed.slot 5920).mark = some 0) := by
  unfold State.levelLaw State.rosterForm; decide

/-- Lane 0's timers reached: a released grant's expiry, the held-open timer, the exit allowance. -/
def timed : State :=
  let s := withGrant plant 0 { remoteGrant .released with releaseExpiry := some 100000 }
  s.setLane 0 { s.lane 0 with heldTimer := some 100000, exitAllowance := some 100000, doorOpen := true }

/-- Lane 4's grant of a handed punch waits, its wait limit reached, the dead time after lane 5's closing ending now; slot 5,920 is
marked for it. -/
def waitingWorker : State :=
  let g : Grant := { remoteGrant .waiting with
    kind := .worker, dir := .outward, slot := some 5920, punch := some (plant.now, some .passOut) }
  let s := withGrant (withSlot plant 5920 { workerSlot 301000 with mark := some 4 }) 4 g
  let t := (s.setLane 5 { s.lane 5 with lastClosing := some 98000 }).setHanded 4 (some { handedPunch with head := ⟨4, .outward⟩ })
  t.setLane 4 { t.lane 4 with deadRuns := true }

/-- Both lanes of the pair wait, neither output driven and both doors CLOSED. -/
def bothWaiting : State := withGrant (withGrant plant 4 (remoteGrant .waiting)) 5 (remoteGrant .waiting)

/-- What the wait limit's end asks of a state with a handed punch, and of one whose partner waits. -/
theorem witness_InterlockWaitEnds :
    (waitingWorker.supply.state = .run ∧ waitingWorker.levelLaw ∧ waitingWorker.rosterForm ∧ waitingWorker.soundWords ∧
      waitingWorker.partnerStays 4 ∧ (waitingWorker.lane 4).pendingSetup = none) ∧
    ((∃ g, (waitingWorker.lane 4).grant = some g ∧ g.phase = .waiting ∧ g.waitExpiry ≤ waitingWorker.time.elapsed) ∧
      waitingWorker.handedAt 4 = some { handedPunch with head := ⟨4, .outward⟩ } ∧
      waitingWorker.inPollSet ⟨4, .outward⟩ = true ∧ waitingWorker.punch.verdicts = [] ∧
      waitingWorker.isDamaged 5920 = false ∧ (waitingWorker.slot 5920).status ≠ .free ∧
      (waitingWorker.slot 5920).mark = some 4) ∧
    (bothWaiting.supply.state = .run ∧ bothWaiting.levelLaw ∧ (bothWaiting.lane 4).grant = some (remoteGrant .waiting) ∧
      (bothWaiting.lane 4).pendingSetup = none ∧ (bothWaiting.lane 5).grant = some (remoteGrant .waiting) ∧
      bothWaiting.handedAt 4 = none ∧ bothWaiting.handedAt 5 = none ∧ bothWaiting.partnerOf 4 = some 5 ∧
      bothWaiting.interlockClear 5 4 = true ∧ bothWaiting.inputs.evacuating = false ∧
      bothWaiting.inputs.releaseHolds[(5 : LaneId)] = none) := by
  refine ⟨⟨rfl, ?_, ?_, State.soundWords_of_cells (by decide), partnerStays_of_free (m := 5) (by decide) (by decide),
    by decide⟩, ⟨⟨_, rfl, rfl, by decide⟩, by decide⟩, ?_⟩
  · unfold State.levelLaw; decide
  · unfold State.rosterForm; decide
  · unfold State.levelLaw; decide

/-- The wait limit's end queues DENY_INTERLOCK and drops the handed punch (R53, R87). -/
theorem test_interlock_denied :
    (match exec (.interlockWaitExpiry 4) waitingWorker with
      | .next t => ((t.lane 4).activity, t.punch.verdicts.map QueuedVerdict.verdict, t.handedAt 4)
      | _ => (.released, [], none)) = (.idle, [⟨.denyInterlock, .none, false⟩], none) := by decide +kernel

theorem witness_LaneTimersRunOut :
    (timed.supply.state = .run ∧ (timed.lane 0).grant = some { remoteGrant .released with releaseExpiry := some 100000 } ∧
      100000 ≤ timed.time.elapsed ∧ timed.handedAt 0 = none ∧ timed.inPair 0 = false ∧ (timed.lane 0).pendingSetup = none) ∧
    ((timed.lane 0).heldTimer = some 100000 ∧ (timed.lane 0).doorOpen = true ∧ (timed.lane 0).mode = .secure ∧
      (timed.lane 0).setup.kind = .door ∧ (timed.lane 0).exitAllowance = some 100000) ∧
    ¬ ((plant.lane 0).doorOpen = true) ∧
    (withGrant plant 4 (remoteGrant .waiting)).levelLaw ∧
      ((withGrant plant 4 (remoteGrant .waiting)).lane 4).grant = some (remoteGrant .waiting) ∧
      (remoteGrant .waiting).waitExpiry ≤ plant.time.elapsed ∧
      (withGrant plant 4 (remoteGrant .waiting)).partnerOf 4 = some 5 ∧
      ((withGrant plant 4 (remoteGrant .waiting)).lane 5).grant = none ∧
    (∀ seen, (expiring seen).levelLaw ∧ (expiring seen).rosterForm ∧ (expiring seen).handedAt 0 = some handedPunch ∧
      (expiring seen).inPollSet headOut = true ∧ (expiring seen).punch.verdicts = [] ∧
      ((expiring seen).slot 5920).mark = some 0) := by
  unfold State.levelLaw State.rosterForm; decide

/-- Lane 4's grant waits, and its dead time after lane 5's closing ends now. -/
def deadTime : State :=
  let s := withGrant plant 4 (remoteGrant .waiting)
  let t := s.setLane 5 { s.lane 5 with lastClosing := some 98000 }
  t.setLane 4 { t.lane 4 with deadRuns := true }

/-- A dead time ends once: the end taken again, with the condition standing, releases nothing (R86; log entry 16). -/
theorem test_dead_time_ends_once :
    (match exec (.deadTimeEnd 4) (deadTime.setLane 4 { deadTime.lane 4 with deadRuns := false }) with
      | .next t => (t.lane 4).activity
      | _ => .idle) = .interlockWait := by decide

theorem witness_DeadTimeEndReleasesAWaitingGrant :
    deadTime.supply.state = .run ∧ deadTime.levelLaw ∧ deadTime.inputs.evacuating = false ∧ deadTime.partnerOf 4 = some 5 ∧
      (deadTime.lane 4).grant = some (remoteGrant .waiting) ∧ (remoteGrant .waiting).phase = .waiting ∧
      deadTime.handedAt 4 = none ∧ (deadTime.lane 5).grant = none ∧ (deadTime.lane 5).lastClosing = some 98000 ∧
      98000 + 100 * (deadTime.lane 4).setup.deadTime ≤ deadTime.time.elapsed ∧ deadTime.driveRelease 5 = false ∧
      (deadTime.lane 5).doorOpen = false ∧ (remoteGrant .waiting).passageSeen = false ∧
      deadTime.inputs.releaseHolds[(4 : LaneId)] = none ∧ (deadTime.lane 4).deadRuns = true ∧
    (waitingWorker.levelLaw ∧ (waitingWorker.lane 4).deadRuns = true ∧ (waitingWorker.lane 5).grant = none ∧
      waitingWorker.driveRelease 5 = false ∧ (waitingWorker.lane 5).doorOpen = false ∧
      (waitingWorker.lane 5).lastClosing = some 98000 ∧ waitingWorker.inputs.evacuating = false ∧
      waitingWorker.inPollSet ⟨4, .outward⟩ = true ∧ waitingWorker.punch.verdicts = []) ∧
    (plant.lane 4).deadRuns = false ∧ plant.partnerOf 0 = none := by
  unfold State.levelLaw; decide

/-- A request to exit at lane 0, delivered. -/
def exiting (s : State) : State := delivering s (.exitRequest 0)

theorem plant_lanes : plant.laneLaw := State.laneLaw_of_rest plant_rest

/-- Lane 5's grant waits though its condition holds, and lane 4 is IDLE. -/
def partnerWaits : State := withGrant plant 5 (remoteGrant .waiting)

theorem partnerWaits_lanes : partnerWaits.laneLaw := by
  intro l
  have h : l = 5 ∨ (partnerWaits.lane l).activity = .idle ∧ (partnerWaits.lane l).grant = none ∧
      (partnerWaits.lane l).pendingSetup = none ∧ partnerWaits.punch.waits[l] = none ∧ partnerWaits.handedAt l = none := by
    revert l; decide
  rcases h with rfl | ⟨h1, h2, h3, h4, h5⟩
  · have hg : (partnerWaits.lane 5).grant = some (remoteGrant .waiting) := rfl
    have ha : (partnerWaits.lane 5).activity = .interlockWait := rfl
    have hh : partnerWaits.handedAt 5 = none := rfl
    have hp : (partnerWaits.lane 5).pendingSetup = none := rfl
    have hw : partnerWaits.punch.waits[(5 : LaneId)] = none := rfl
    simp [hg, ha, hh, hp, hw, remoteGrant, newGrant]
  · simp [h1, h2, h3, h4, h5]

/-- Lane 5's door stands OPEN. -/
def partnerOpen : State := plant.setLane 5 { plant.lane 5 with doorOpen := true }

theorem partnerOpen_lanes : partnerOpen.laneLaw := State.laneLaw_of_rest (by decide)

theorem witness_ExitAndRemoteGrantsAreReleased :
    ((exiting plant).supply.state = .run ∧ (exiting plant).levelLaw ∧ (exiting plant).laneLaw ∧
      ((exiting plant).lane 0).setup.kind ≠ .unused ∧ (exiting plant).takesAtOnce 0 ∧
      (exiting plant).inputs.deliveries = [.exitRequest 0] ∧ ((exiting plant).lane 0).mode = .secure ∧
      ((exiting plant).lane 0).activity = .idle) ∧
    (plant.takesAtOnce 0 ∧ (exiting plant).takesAtOnce 4 ∧ partnerOpen.partnerStays 4 ∧ ¬ partnerOpen.takesAtOnce 4 ∧
      partnerOpen.levelLaw ∧ partnerOpen.laneLaw ∧ (partnerOpen.lane 4).mode = .secure ∧
      (partnerOpen.lane 4).activity = .idle ∧ ¬ partnerWaits.takesAtOnce 4) ∧
    ((exiting (settled (moded .locked))).lane 0).mode ≠ .secure ∧ 7 < 8 ∧
    (plant.levelLaw ∧ plant.laneLaw ∧ (plant.lane 2).setup.kind = .unused ∧ (plant.lane 0).setup.kind ≠ .unused ∧
      plant.partnerOf 4 = some 5) ∧
    (referring.levelLaw ∧ referring.laneLaw ∧ (referring.lane 0).activity ≠ .idle) ∧
    partnerOpen.interlockClear 4 5 = false ∧
    (partnerWaits.levelLaw ∧ partnerWaits.laneLaw ∧ (partnerWaits.lane 4).activity = .idle ∧
      partnerWaits.partnerOf 4 = some 5 ∧ (partnerWaits.lane 5).grant = some (remoteGrant .waiting) ∧
      partnerWaits.interlockClear 5 4 = true ∧ partnerWaits.inputs.releaseHolds[(5 : LaneId)] = none) := by
  refine ⟨⟨rfl, ?_, State.laneLaw_of_rest plant_rest, by decide, ?_, by decide, by decide, by decide⟩,
    ⟨?_, ?_, partnerStays_of_free (m := 5) (by decide) (by decide), ?_, ?_, partnerOpen_lanes, by decide, by decide, ?_⟩,
    by decide, by decide, ⟨plant_levels, plant_lanes, by decide, by decide, by decide⟩, ⟨?_, referring_lanes, by decide⟩,
    by decide, ⟨?_, partnerWaits_lanes, by decide⟩⟩ <;>
  first
  | unfold State.levelLaw; decide
  | unfold State.takesAtOnce; decide

/-- A change of lane 1's encoder pair to (a, b), delivered, with the count at n. -/
def turning (a b : Bool) (n : Int) : State :=
  delivering (plant.setLane 1 { plant.lane 1 with encoder := n }) (.encoder 1 a b)

/-- Lane 1 one inward state from its step, RELEASED in a direction, with that grant's handed punch or without. -/
def rotating (d : Dir) (handed : Bool) : State :=
  let s := withGrant (turning false true 23) 1 { workerGrant with dir := d }
  settled ((withSlot s 5920 { workerSlot 301000 with mark := some 1 }).setHanded 1
    (if handed then some { handedPunch with head := ⟨1, d⟩ } else none))

theorem witness_EncoderChangeMovesTheCount :
    ((turning false true 22).supply.state = .run ∧ (turning false true 22).levelLaw ∧
      ((turning false true 22).lane 1).setup.kind = .turnstile ∧
      (turning false true 22).inputs.deliveries = [.encoder 1 false true] ∧
      ((turning false true 22).lane 1).decoderA = false ∧ ((turning false true 22).lane 1).decoderB = false ∧
      (22 : Int) + 1 < ((turning false true 22).lane 1).setup.passageStep) ∧
    ((turning true false (-22)).levelLaw ∧ -(((turning true false (-22)).lane 1).setup.passageStep : Int) < -22 - 1) ∧
    (turning true true 0).levelLaw ∧
    ((turning false true 23).levelLaw ∧ (23 : Int) + 1 = ((turning false true 23).lane 1).setup.passageStep ∧
      ((turning false true 23).lane 1).grant = none ∧ ((turning false true 23).lane 1).mode = .secure ∧
      (turning false true 23).driveRelease 1 = false) ∧
    ((turning true false (-23)).levelLaw ∧ -23 - 1 = -(((turning true false (-23)).lane 1).setup.passageStep : Int) ∧
      (((turning true false (-23)).setLane 1 { (turning true false (-23)).lane 1 with
        exitAllowance := some 105000 }).lane 1).exitAllowance.isSome = true) ∧
    ∀ d ∈ [Dir.inward, .outward], ∀ handed, (rotating d handed).levelLaw ∧ (rotating d handed).rosterForm ∧
      (rotating d handed).inputs.deliveries = [.encoder 1 false true] ∧ ((rotating d handed).lane 1).encoder = 23 ∧
      (rotating d handed).handedAt 1 = (if handed then some { handedPunch with head := ⟨1, d⟩ } else none) ∧
      ((rotating d handed).lane 1).grant = some { workerGrant with dir := d } ∧
      ((rotating d handed).lane 1).pendingSetup = none ∧ (rotating d handed).inPollSet ⟨1, d⟩ = true ∧
      (rotating d handed).punch.verdicts = [] := by
  unfold State.levelLaw State.rosterForm; decide

/-- The plant in an evacuation. -/
def evacuated : State :=
  let s := allLanes.foldl (fun u l => if (u.lane l).setup.kind ≠ .unused then u.enterEgress l else u) plant
  settled (s.setInputs { s.inputs with evacuating := true })

theorem witness_LaneModeIsWrittenOrRemembered :
    (plant.supply.state = .run ∧ plant.modeLaw ∧ inSet (0x10 : LaneSet) 4 = true ∧ plant.inPair 4 = true ∧
      (∀ l : LaneId, inSet (0x01 : LaneSet) l.val = true → plant.inPair l = false) ∧ plant.inputs.evacuating = false) ∧
    evacuated.supply.state = .run ∧ evacuated.modeLaw ∧ evacuated.inputs.evacuating = true ∧
      (evacuated.lane 0).setup.kind ≠ .unused := by
  unfold State.modeLaw; decide

/-- A ring at output B0 that ends, or passes between its phases, now. -/
def ringing (kind : RingKind) (finish : Option Elapsed) : State :=
  settled (plant.setBell 0 (some ⟨kind, 1000, 5, 5, 99500, finish, true, some 100000⟩) .steady)

theorem witness_BellOrdersRingAndStop :
    plant.supply.state = .run ∧ 7 < 8 ∧ 120 < 121 ∧ plant.bells.rings[(0 : BellId)] = none ∧ inSet (0x01 : BellSet) 0 = true ∧
      (∃ r, (ringing .ordinary (some 100000)).bells.rings[(0 : BellId)] = some r ∧ r.kind = .ordinary) ∧
      ∃ r, (ringing .evacuation none).bells.rings[(0 : BellId)] = some r ∧ r.kind = .evacuation :=
  ⟨rfl, by decide, by decide, rfl, by decide, ⟨_, rfl, rfl⟩, ⟨_, rfl, rfl⟩⟩

theorem witness_RingsEndAndChangePhase :
    (ringing .ordinary (some 100000)).supply.state = .run ∧ (ringing .ordinary (some 100000)).levelLaw ∧
      (∃ r, (ringing .ordinary (some 100000)).bells.rings[(0 : BellId)] = some r ∧ r.finish = some 100000 ∧
        r.nextPhase = some 100000) ∧
      100000 ≤ (ringing .ordinary (some 100000)).time.elapsed ∧
      (ringing .ordinary (some 100000)).inputs.bellHolds[(0 : BellId)] = none := by
  refine ⟨rfl, ?_, ⟨_, rfl, rfl, rfl⟩, by decide, rfl⟩
  unfold State.levelLaw; decide

/-- A changed period leaves the moment of the group's next sample and takes effect at it (R154). -/
theorem test_period_at_next_sample :
    (let s := plant.setInputs { plant.inputs with nextGeneral := 100003 }
     match exec (.setupWrite (.general { s.setup.general with generalDebounce := ⟨10, 3⟩ })) s with
      | .next t => match exec (.debounceSample (.general 0)) t with
        | .next u => (t.inputs.nextGeneral, u.time.elapsed, u.inputs.nextGeneral)
        | _ => (0, 0, 0)
      | _ => (0, 0, 0)) = (100003, 100003, 100013) := by decide +kernel

/-- A status of one encoder line is not taken as a change while a change of the other waits: the change taken then moves one line
only (R155). -/
theorem test_status_beside_a_change :
    (let s := turning true false 0
     let u := s.setInputs { s.inputs with encodersB := putAt s.inputs.encodersB 1 ⟨none, 2, true⟩ }
     match exec (.debounceSample (.encoders 0x00 0x02)) u with
      | .next t => (t.inputs.deliveries, (t.lane 1).decoderB)
      | _ => ([], false)) = ([.encoder 1 true true], true) := by decide +kernel

theorem witness_SamplesDebounceTheLines :
    (⟨some false, 1, true⟩ : Line).level = some false ∧ 2 ≤ 3 ∧ 1 + 1 < 3 ∧ 3 ≤ 2 + 1 ∧ Line.absent.level = none ∧
      Line.absent.run = 0 ∧ (⟨none, 2, true⟩ : Line).run + 1 = 3 ∧ plant.supply.state = .run ∧
      plant.inputs.nextEncoders ≤ plant.time.elapsed ∧ plant.inputs.nextGeneral ≤ plant.time.elapsed ∧
      plant.inputs.nextContacts ≤ plant.time.elapsed ∧
      (∀ l, plant.inPair l = true → (plant.inputs.doors[l].sample 3 true).2 ≠ .status) := by decide

/-- Watch 0 with settings of its own, its firing delivered. -/
def watching (s : State) (w : WatchSettings) : State :=
  delivering (s.setSetup { s.setup with watches := putAt s.setup.watches 0 w }) (.watch 0)

/-- A live watch with an action. -/
def liveWatch (action : WatchAction) : WatchSettings := ⟨true, 1, 0, .equals, action⟩

theorem witness_WatchFiresAndPerformsItsAction :
    ((watching plant .initial).supply.state = .run ∧ (watching plant .initial).levelLaw ∧
      (watching plant .initial).inputs.deliveries = [.watch 0] ∧ (watching plant .initial).watchLive 0 = false) ∧
    ((watching plant (liveWatch .alarm)).levelLaw ∧ (watching plant (liveWatch .alarm)).watchLive 0 = true ∧
      ((watching plant (liveWatch .alarm)).watch 0).action = .alarm) ∧
    ((watching evacuated (liveWatch .evacuate)).levelLaw ∧ (watching evacuated (liveWatch .evacuate)).watchLive 0 = true ∧
      (watching evacuated (liveWatch .evacuate)).inputs.evacuating = true) ∧
    (watching plant (liveWatch .evacuate)).levelLaw ∧ (watching plant (liveWatch .evacuate)).laneLaw ∧
      (watching plant (liveWatch .evacuate)).modeLaw ∧ (watching plant (liveWatch .evacuate)).watchLive 0 = true ∧
      (watching plant (liveWatch .evacuate)).inputs.evacuating = false ∧
    (watching plant (liveWatch .evacuate)).rosterForm ∧ (watching plant (liveWatch .evacuate)).soundWords ∧
    (∀ l : LaneId, ((watching plant (liveWatch .evacuate)).lane l).pendingSetup = none) ∧
    (∀ i, (watching plant (liveWatch (.bell i))).watchLive 0 = true) ∧ Bank.initial.entry 127 = entryInitial ∧
    (watching plant (liveWatch (.lanes 0x11 .free))).watchLive 0 = true ∧
    (watching evacuated (liveWatch (.lanes 0x01 .free))).watchLive 0 = true ∧ inSet (0x11 : LaneSet) 0 = true ∧
    inSet (0x11 : LaneSet) 1 = false := by
  refine ⟨⟨rfl, ?_, rfl, by decide⟩, ⟨?_, by decide, rfl⟩, ⟨?_, by decide, by decide⟩, ?_, State.laneLaw_of_rest plant_rest, ?_,
    by decide, rfl, ?_, State.soundWords_of_cells (by decide), by decide, fun i => rfl, by decide, by decide, by decide,
    by decide, by decide⟩
  · unfold State.levelLaw; decide
  · unfold State.levelLaw; decide
  · unfold State.levelLaw; decide
  · unfold State.levelLaw; decide
  · unfold State.modeLaw; decide
  · unfold State.rosterForm; decide

/-- An evacuation that watches 0 and 1 hold back. -/
def heldBack (starting : Option WatchId) : State :=
  let s := evacuated.setSetup { evacuated.setup with watches := #v[liveWatch .evacuate, liveWatch .evacuate, .initial, .initial] }
  s.setInputs { s.inputs with equal := #v[true, true, false, false], startingWatch := starting }

theorem witness_HoldsAreWrittenAndEvacuationsEnd :
    (plant.supply.state = .run ∧ inSet (0x10 : LaneSet) 4 = true ∧ plant.inPair 4 = true ∧
      ∀ l : LaneId, ¬ (inSet (0x01 : LaneSet) l.val = true ∧ plant.inPair l = true)) ∧
    plant.inputs.evacuating = false ∧
    ((heldBack none).supply.state = .run ∧ (heldBack none).inputs.evacuating = true ∧ (heldBack none).holdsBack 0 = true ∧
      (∀ j : WatchId, j < 0 → (heldBack none).holdsBack j = false)) ∧
    ((heldBack (some 3)).holdsBack 0 = true ∧ (heldBack (some 3)).holdsBack 3 = false) ∧
    (heldBack (some 1)).holdsBack 1 = true ∧
    evacuated.supply.state = .run ∧ evacuated.inputs.evacuating = true ∧ (∀ k, evacuated.holdsBack k = false) ∧
      evacuated.modeLaw ∧ (evacuated.lane 0).remembered = some .secure ∧ (evacuated.lane 4).remembered = some .secure ∧
      evacuated.inPair 4 = true ∧ (evacuated.lane 2).remembered = none := by
  unfold State.modeLaw; decide

/-- The plant with the standby bank in a state, and a bank in it. -/
def standing (x : StandbyState) (b : Bank) : State := plant.setBanks { plant.banks with standby := x, bankB := b }

theorem witness_LoadBeginWritesTheStandby :
    plant.supply.state = .run ∧ plant.banks.pending = none ∧
      (switching (.boundary 0)).supply.state = .run ∧ (switching (.boundary 0)).banks.pending.isSome = true := by decide

theorem witness_LoadRowsReplacesTheRowsNamed :
    (standing .loading .initial).supply.state = .run ∧ [Row.tone toneInitial] ≠ [] ∧ plant.banks.standby ≠ .loading ∧
      (standing .loading .initial).banks.standby = .loading ∧ ¬ (8 + 1 ≤ tableSize .tones) ∧ 7 + 1 ≤ tableSize .tones ∧
      rowFits .tones (.holiday none) = false ∧ rowFits .tones (.tone toneInitial) = true ∧ TableName.patterns ≠ .tones := by
  decide

/-- A bank whose last tone pattern is out of range. -/
def faultyBank : Bank := { Bank.initial with tones := putAt Bank.initial.tones 7 ⟨5, 10, 0⟩ }

theorem initial_payClass (i : Nat) : Bank.initial.payClass i = payClassInitial := by
  simp [Bank.payClass, rowAt, Bank.initial]

theorem initial_rows (t : TableName) (i : Nat) : checkRow Bank.initial t i = none := by
  cases t
  · show checkPayClass (Bank.initial.payClass i) = none
    rw [initial_payClass]; decide
  · have : Bank.initial.shiftPattern i = patternInitial := by simp [Bank.shiftPattern, rowAt, Bank.initial]
    show checkPattern (Bank.initial.shiftPattern i) = none
    rw [this]; decide
  · have : Bank.initial.entry i = entryInitial := by simp [Bank.entry, rowAt, Bank.initial]
    show checkEntry Bank.initial (Bank.initial.entry i) = none
    rw [this]; decide
  · have : Bank.initial.tone i = toneInitial := by simp [Bank.tone, rowAt, Bank.initial]
    show checkTone (Bank.initial.tone i) = none
    rw [this]; decide
  · have : rowAt Bank.initial.holidays i none = none := by simp [rowAt, Bank.initial]
    show checkHoliday Bank.initial i = none
    simp [checkHoliday, this]

theorem witness_LoadEndJudgesTheStandby :
    ((standing .loading .initial).supply.state = .run ∧ plant.banks.standby ≠ .loading ∧
      (standing .loading .initial).banks.standby = .loading ∧
      ∀ t i, ¬ (i < tableSize t ∧ (checkRow (standing .loading .initial).standbyBank t i).isSome = true)) ∧
    (standing .loading faultyBank).banks.standby = .loading ∧
      7 < tableSize .tones ∧ (checkRow (standing .loading faultyBank).standbyBank .tones 7).isSome = true := by
  refine ⟨⟨rfl, by decide, rfl, fun t i h => ?_⟩, rfl, by decide, by decide⟩
  have : (standing .loading .initial).standbyBank = Bank.initial := rfl
  rw [this, initial_rows] at h
  exact absurd h.2 (by decide)

/-- The clock INVALID and the standby READY. -/
def readyWithoutClock : State := State.reset.setBanks { State.reset.banks with standby := .ready }

theorem witness_BankSwitchSetsTheTarget :
    (plant.supply.state = .run ∧ 65535 < 65536 ∧ 1439 < 1440 ∧ State.reset.now = none ∧
      plant.now = some (20012 * 86400 + 21000) ∧ plant.banks.standby ≠ .ready) ∧
    ((standing .ready .initial).banks.standby = .ready ∧ (standing .ready .initial).now = some (20012 * 86400 + 21000) ∧
      20012 * 86400 + 60 * 350 ≤ 20012 * 86400 + 21000 ∧ 20012 * 86400 + 21000 < 20012 * 86400 + 60 * 351) ∧
    readyWithoutClock.supply.state = .run ∧ readyWithoutClock.banks.standby = .ready ∧ readyWithoutClock.now = none := by
  decide

/-- Three entries held. -/
def threeHeld : State :=
  plant.setSpool
    { entries := [⟨1, .laneAlarm none 0 .forced⟩, ⟨2, .laneAlarm none 0 .forced⟩, ⟨3, .laneAlarm none 0 .forced⟩]
      next := 4, dropped := 0 }

theorem witness_SpoolOrdersTakeAndClear :
    threeHeld.supply.state = .run ∧ 12 < 13 ∧ 1 ≤ 1 ∧ 12 ≤ 12 ∧ (4 ≠ 0 ∧ ∀ e ∈ threeHeld.spool.entries, e.seq ≠ 4) ∧
      (∃ older later e, threeHeld.spool.entries = older ++ e :: later ∧ e.seq = 2 ∧ ∀ x ∈ older, x.seq ≠ 2) := by
  refine ⟨rfl, by decide, by decide, by decide, by decide, [⟨1, .laneAlarm none 0 .forced⟩],
    [⟨3, .laneAlarm none 0 .forced⟩], ⟨2, .laneAlarm none 0 .forced⟩, rfl, rfl, by decide⟩

/-- Slot 5,920's total waits in the closure queue. -/
def waitingTotal : State :=
  let s := recorded plant waitingRecord none
  s.setRecords { s.records with closureQueue := [5920] }

theorem waiting_lists : waitingTotal.listLaw := by
  have hs : ∀ a, waitingTotal.slot a = if 5920 = a then { workerSlot 301000 with record := waitingRecord, mark := none }
      else Slot.freeSlot := fun a => rfl
  refine ⟨List.nodup_nil, by simp [waitingTotal, State.setRecords], fun a => ?_, fun a => ?_, List.Pairwise.nil⟩
  · have hd : waitingTotal.records.deadlines = [] := rfl
    rw [hs, hd]
    by_cases h : 5920 = a
    · subst h; simp [waitingRecord, ShiftRecord.openData]
    · simp [h, Slot.freeSlot, ShiftRecord.openData]
  · have hq : waitingTotal.records.closureQueue = [5920] := rfl
    rw [hs, hq]
    by_cases h : 5920 = a
    · subst h; simp [waitingRecord]
    · simp [h, Slot.freeSlot, Ne.symm h]

theorem witness_WaitingTotalsMoveOldestFirst :
    waitingTotal.supply.state = .run ∧ waitingTotal.rosterForm ∧ waitingTotal.soundWords ∧ waitingTotal.emptyLaw ∧
      waitingTotal.listLaw ∧ waitingTotal.spool.entries.length ≤ 4096 := by
  refine ⟨rfl, ?_, State.soundWords_of_cells ?_, State.emptyLaw_of_cells ?_ rfl, waiting_lists, by decide⟩
  · have h : (recorded plant waitingRecord none).rosterForm := by unfold State.rosterForm; decide
    exact h
  · simp [waitingTotal, recorded, withSlot, State.setRecords, State.setRoster, workerSlot, Slot.freeSlot]
  · simp [waitingTotal, recorded, withSlot, State.setRecords, State.setRoster, workerSlot]

theorem witness_ShiftTotalKeepsItsLaws :
    (shiftTotal caseA).effIn ≤ (shiftTotal caseA).effOut ∧
      (shiftTotal { caseA with outStamp := stampAt 20012 5 0 0 }).effOut <
        (shiftTotal { caseA with outStamp := stampAt 20012 5 0 0 }).effIn ∧
      caseA.slotWeek = caseA.data.anchorWeek ∧ 2858 < caseA.data.anchorWeek ∧ caseA.data.anchorWeek < 2860 ∧
      0 < caseA.cls.unit ∧ caseA.data.schedStart % 60 = 0 ∧ caseA.data.schedEnd % 60 = 0 ∧
      caseA.cls.rounding = .listed .plant := by decide

theorem witness_NightOverlapCountsTheMinutes : 360 < 1320 ∧ stampAt 0 6 0 0 ≤ stampAt 0 6 0 0 := by decide

theorem witness_AnchorIsTheNearestKeptStart :
    patternInitial.length = 0 ∧ (⟨360, 480, 0xFF⟩ : ShiftPattern).length ≠ 0 ∧
      nearestStart Bank.initial 1 ⟨360, 480, 0xFF⟩ (stampAt 20012 5 50 0) = some (stampAt 20012 6 0 0) :=
  ⟨rfl, by decide, by decide +kernel⟩

theorem witness_FramesReadBackAndChangesAreFound :
    (⟨255, 255, 65535, []⟩ : Frame).payload.length ≤ 1024 ∧ 255 < 256 ∧ 65535 < 65536 ∧
      3 < (⟨255, 255, 65535, []⟩ : Frame).bytes.length ∧ (⟨255, 255, 65535, []⟩ : Frame).bytes[3]? = some 255 := by
  decide +kernel

theorem witness_LayoutsReadBack :
    readAnswer [0x00, 0x00] ≠ .garbled ∧ 1 < [0x00#8, 0x00].length ∧ stampAt 65535 23 59 59 < 65536 * 86400 ∧
      (List.replicate 12 (1, shiftTotal caseA)).length = 12 ∧ (filled 12).spool.entries.length ≤ 12 := by decide

/-- A frame with an empty payload and no station's id. -/
def someFrame : Frame := ⟨7, 1, 9, []⟩

/-- The plant with frames received, a report and a reply queued, and the silence timer run out. -/
def linked (received : List Frame) : State :=
  plant.setLink { plant.link with
    received := received, online := true, silence := some 100000
    transmit := [.reply ⟨7, 1, 9⟩ ⟨.ok, .none⟩] }

/-- The plant with a frame in progress that has stopped for more than 50 ms. -/
def stalled : State := plant.setLink { plant.link with inProgress := [0x7E, 0], stall := some 100000 }

theorem witness_LinkReceivesSendsAndFallsSilent :
    (plant.supply.state = .run ∧ plant.link.stall = none ∧ receive [] [0x7E, 4, 1] = ([], [.bad]) ∧
      receive [] ([0x55] ++ someFrame.bytes) = ([], [.good someFrame]) ∧ someFrame.bytes ≠ []) ∧
    (stalled.link.stall = some 100000 ∧ 100000 ≤ stalled.time.elapsed) ∧
    (linked [someFrame]).link.received.length < 2 ∧ 2 ≤ (linked [someFrame, someFrame]).link.received.length ∧
    1024 < 1025 ∧ 1024 ≤ 1024 ∧ (linked []).link.transmit = .reply ⟨7, 1, 9⟩ ⟨.ok, .none⟩ :: [] ∧
    (linked []).link.silence = some 100000 ∧ 100000 ≤ (linked []).time.elapsed := by
  decide +kernel

/-- The plant with one frame waiting, its station table holding entries. -/
def dispatching (stations : Vector (Option Station) 4) : State :=
  (plant.setLink { plant.link with received := [someFrame] }).setSetup { plant.setup with stations := stations }

/-- RESTART carries no fields: an empty payload is the order, and any other does not fit (R188 check 4, R193). -/
theorem test_no_fields : orderOf .restart [] = some .restart ∧ orderOf .restart [0x00] = none := by decide

theorem witness_DispatchChecksTheOldestFrame :
    (plant.supply.state = .run ∧ (dispatching #v[none, none, none, none]).link.received = someFrame :: [] ∧
      (dispatching #v[none, none, none, none]).link.handed = none ∧
      (∀ x ∈ (dispatching #v[none, none, none, none]).link.transmit, x.isReply = false) ∧
      (dispatching #v[none, none, none, none]).link.restart = .none ∧
      (dispatching #v[none, none, none, none]).stationClass 7 = some .operator) ∧
    ¬ (∀ x ∈ (linked [someFrame]).link.transmit, x.isReply = false) ∧
    (dispatching #v[some ⟨8, .view⟩, none, none, none]).stationClass 7 = none ∧
    (dispatching #v[some ⟨7, .view⟩, none, none, none]).stationClass 7 = some .view ∧
    (∃ k : Fin 4, (dispatching #v[some ⟨7, .view⟩, none, none, none]).setup.stations[k] ≠ none) ∧
    (∀ k : Fin 4, (dispatching #v[none, none, none, none]).setup.stations[k] = none) ∧
    1 ≤ someFrame.code ∧ someFrame.code ≤ 0x6F ∧ 0x6F < 0x70 ∧ someFrame.payload = [] := by
  decide

/-- An evacuation with its evacuation set kept. -/
def ringingEvacuation : State := evacuated.setBells { evacuated.bells with evacSet := some ⟨0xFF, 2⟩ }

/-- The evacuation ring that a warm restart starts has the kept tone index, here 2, and not the setup record's 0 (R163, R147). -/
theorem test_kept_evacuation_tone :
    (let b := ringingEvacuation.banks
     let s := ringingEvacuation.setBanks { b with bankA := { b.bankA with tones := putAt b.bankA.tones 2 ⟨440, 10, 0⟩ } }
     match exec .warmRestart s with
      | .next t => (t.bells.rings[(0 : BellId)]).map Ring.frequency
      | _ => none) = some 440 := by decide +kernel

theorem witness_RestartsAreTaken :
    ((framed .restart).supply.state = .run ∧ (framed .restart).link.handed = some ⟨⟨7, 1, 9⟩, .restart⟩) ∧
    plant.link.handed = none ∧ (plant.setLink { plant.link with restart := .due, again := 1 }).link.restart ≠ .none ∧
    (plant.setLink { plant.link with restart := .replying }).link.restart = .replying ∧
    (plant.supply.state = .run ∧ plant.link.restart ≠ .replying ∧ plant.laneLaw ∧ plant.inputs.evacuating = false ∧
      (∀ l : LaneId, (plant.lane l).pendingSetup = none) ∧ (plant.lane 0).setup.kind = .door ∧
      (closing false).inputs.doors[(0 : LaneId)].level = none) ∧
    ringingEvacuation.supply.state = .run ∧ ringingEvacuation.link.restart ≠ .replying ∧ ringingEvacuation.laneLaw ∧
      ringingEvacuation.inputs.evacuating = true ∧ ringingEvacuation.bells.evacSet = some ⟨0xFF, 2⟩ := by
  have h : ∀ l : LaneId, (ringingEvacuation.lane l).activity = .idle ∧ (ringingEvacuation.lane l).grant = none ∧
      (ringingEvacuation.lane l).pendingSetup = none ∧ ringingEvacuation.punch.waits[l] = none ∧
      ringingEvacuation.handedAt l = none := by decide
  exact ⟨⟨rfl, rfl⟩, rfl, by decide, rfl, ⟨rfl, by decide, plant_lanes, rfl, by decide, rfl, rfl⟩, by decide, by decide,
    State.laneLaw_of_rest h, by decide, rfl⟩

/-- The plant without its backup supply, and without any. -/
def unbacked : State := plant.setSupply { plant.supply with backup := false }
def dark : State := plant.setSupply { plant.supply with state := .dark, backup := false }

theorem witness_SupplyLossesStopThePart :
    (staffed.supply.state = .run ∧ staffed.supply.backup = true ∧ staffed.laneLaw ∧ staffed.soundWords ∧
      ∀ l : LaneId, (staffed.lane l).pendingSetup = none) ∧
    unbacked.supply.state = .run ∧ unbacked.supply.backup = false ∧ held.supply.state = .hold ∧ dark.supply.state = .dark := by
  refine ⟨⟨rfl, rfl, State.laneLaw_of_rest plant_rest, staffed_sound, by decide⟩, rfl, rfl, rfl, rfl⟩

/-- The plant in supply hold, or an evacuation cut short by one, with a hold-begin stamp and the clock lost or not. -/
def inHold (s : State) (begin : Option Stamp) (lost : Bool) : State :=
  settled ((s.setSupply { s.supply with state := .hold }).setTime { s.time with holdBegin := begin, lostInHold := lost })

theorem witness_SupplyReturnResumesThePart :
    (∀ b : Bool, (inHold plant none b).supply.state = .hold ∧ (inHold plant none b).levelLaw ∧
      (inHold plant none b).modeLaw ∧ (∀ l : LaneId, ((inHold plant none b).lane l).grant = none) ∧
      (inHold plant none b).time.holdBegin = none ∧ (inHold plant none b).inputs.evacuating = false) ∧
    (inHold evacuated (some 0) false).supply.state = .hold ∧ (inHold evacuated (some 0) false).levelLaw ∧
      (inHold evacuated (some 0) false).modeLaw ∧
      (∀ l : LaneId, ((inHold evacuated (some 0) false).lane l).grant = none) ∧
      (inHold evacuated (some 0) false).time.holdBegin = some 0 ∧
      (inHold evacuated (some 0) false).inputs.evacuating = true ∧
      ((inHold evacuated (some 0) false).lane 0).remembered = some .secure ∧
      ((inHold evacuated (some 0) false).lane 2).remembered = none := by
  unfold State.levelLaw State.modeLaw; decide

theorem witness_SetupWriteWritesThePart :
    plant.supply.state = .run ∧ (List.replicate 8 (Choice.listed BellKind.tone)).length = 8 ∧
      Choice.unlisted 9 ∈ Choice.unlisted 9 :: List.replicate 7 (Choice.listed BellKind.tone) ∧
      (∀ k ∈ List.replicate 8 (Choice.listed BellKind.tone), k = .listed .relay ∨ k = .listed .tone) ∧
      [1, 2].Nodup ∧ ¬ [1, 1].Nodup ∧
      some (1, Choice.unlisted 3) ∈ [some (1, (Choice.unlisted 3 : Choice StationClass)), none, none, none] := by decide

/-- A lane setup request in its ranges, and one with an unlisted kind. -/
def laneRequest (kind : Choice LaneKind) : LaneSetupRequest :=
  { kind := kind, entryEnable := true, exitEnable := true, releaseTime := 31, releaseMode := .listed .pulse, heldLimit := 30,
    passageStep := 24, passback := .listed .off, referral := false, miss := .listed .deny, partner := some 8, deadTime := 20,
    waitLimit := 5, fail := .listed .failSafe }

/-- A watch request with a mode and an action. -/
def watchRequest (mode : Choice WatchMode) (action : Choice WatchActionRequest) : WatchRequest := ⟨true, 0, 0, mode, action⟩

theorem witness_SetupWriteAppliesLanesAndWatches :
    (plant.supply.state = .run ∧ (laneRequest (.unlisted 9)).kind.isListed = false ∧
      (laneRequest (.listed .door)).kind.isListed = true ∧ (laneRequest (.listed .door)).releaseMode.isListed = true ∧
      7 < 8 ∧ plant.laneLaw ∧ (plant.lane 0).activity = .idle ∧ (plant.lane 0).setup.kind = .door ∧
      (plant.lane 1).setup.kind ≠ .door ∧ referring.laneLaw ∧ (referring.lane 0).activity ≠ .idle) ∧
    takeWatch (watchRequest (.unlisted 2) (.listed .alarm)) = none ∧ 3 < 4 ∧
    takeWatch (watchRequest (.listed .change) (.listed (.bell 128))) = some (⟨true, 0, 0, .change, .bell 127⟩, true) ∧
    takeWatch ⟨true, 1, 0, .listed .equals, .listed .alarm⟩ = some (liveWatch .alarm, false) ∧
    (let s := plant.setInputs { plant.inputs with general := putAt plant.inputs.general 0 ⟨some false, 0, false⟩ }
     let a := s.setSetup { s.setup with watches := putAt s.setup.watches 0 (liveWatch .alarm) }
     s.supply.state = .run ∧ a.watchMatches 0 = true ∧ a.watchLive 0 = true ∧ s.levelLaw) ∧
    (plant.setSetup { plant.setup with watches := putAt plant.setup.watches 0 (liveWatch .alarm) }).watchMatches 0 = false := by
  refine ⟨⟨rfl, rfl, rfl, rfl, by decide, plant_lanes, rfl, rfl, by decide, referring_lanes, by decide⟩, rfl, by decide,
    by decide, by decide, ⟨rfl, by decide, by decide, ?_⟩, by decide⟩
  unfold State.levelLaw; decide

theorem witness_ReadingOrdersOnlyReply :
    plant.supply.state = .run ∧ plant.time.second ≤ 86399 ∧ 7 < 8 ∧ 3 < 4 ∧
      (plant.setLane 0 { plant.lane 0 with lastClosing := some 0 }).lane 0 = { plant.lane 0 with lastClosing := some 0 } ∧
      ((withGrant plant 4 (remoteGrant .waiting)).lane 4).grant = some (remoteGrant .waiting) ∧
      (remoteGrant .released).releaseExpiry = some 105000 ∧ tableSize .tones ≤ 8 ∧ 7 < tableSize .tones ∧ 16 < 17 ∧
      (Choice.unlisted 9 : Choice TableName).isListed = false := by decide

end Sys2Proof.Tests
end

section
/-! ## The laws of the queues and buffers and the ranges of the registers, kept by the shared operations -/
namespace Sys2Proof.Machine

/-- The laws of the queues and the ranges of the registers that every step keeps (01, table; R4, R27, R40, R172, R179, R187). -/
inductive Law where
  | spool
  | verdicts
  | link
  | ranges

/-- A state obeys one of these laws. -/
def State.obeys (s : State) : Law → Prop
  | .spool => s.spoolLaw
  | .verdicts => s.verdictLaw
  | .link => s.linkLaw
  | .ranges => s.timeLaw ∧ s.elapsedLaw ∧ s.generationLaw ∧ s.epochLaw

/-- The parts of the state that none of the laws speaks of. -/
def quietBlocks : List Block := [.records, .lanes, .bells, .inputs, .setup, .supply, .notices]

section
variable {k : Law} {s t : State}

/-- The registers of the clock and elapsed time lie in their ranges (01, table; R4). -/
def TimeBase.inRange (x : TimeBase) : Prop :=
  (x.day ≤ 65535 ∧ x.second ≤ 86399 ∧ x.weekdayOffset ≤ 6 ∧ x.stepCount ≤ 65535 ∧ x.holdCount ≤ 65535 ∧
    (-255 ≤ x.trim ∧ x.trim ≤ 255) ∧ (-230400 ≤ x.slew ∧ x.slew ≤ 230400)) ∧
    x.elapsed ≤ elapsedTop ∧ x.phase < 32768

/-- The buffers of the plant link keep their sizes (R187, R188, R189). -/
def Link.inBounds (x : Link) : Prop :=
  x.received.length ≤ 2 ∧ (x.transmit.filter fun f => !f.isReply).length ≤ 31 ∧
    (x.transmit.filter TxFrame.isReply).length + (if x.handed.isSome then 1 else 0) ≤ 1

@[simp] theorem TxFrame.isReply_reply (r : OrderRef) (x : Reply) : (TxFrame.reply r x).isReply = true := rfl
@[simp] theorem TxFrame.isReply_report (r : Report) : (TxFrame.report r).isReply = false := rfl

/-! ### Replacing one part of the state -/

theorem obeys_of_quiet (h : s.obeys k) (hq : unchangedBut quietBlocks s t) : t.obeys k := by
  have same : ∀ b, b ∉ quietBlocks → b.same s t := fun b hb => (hq.2 b).resolve_left hb
  have hspool : t.spool = s.spool := same .spool (by decide)
  have hpunch : t.punch = s.punch := same .punch (by decide)
  have hlink : t.link = s.link := same .link (by decide)
  have htime : t.time = s.time := same .time (by decide)
  have hbanks : t.banks = s.banks := same .banks (by decide)
  have hroster : t.roster = s.roster := same .roster (by decide)
  cases k <;>
    simpa only [State.obeys, State.spoolLaw, State.verdictLaw, State.linkLaw, State.timeLaw, State.elapsedLaw,
      State.generationLaw, State.epochLaw, hspool, hpunch, hlink, htime, hbanks, hroster] using h

theorem obeys_setPending (l : List Instr) (h : s.obeys k) : (s.setPending l).obeys k := by
  cases k <;> exact h

theorem obeys_setRoster {x : Roster} (h : s.obeys k) (hx : x.epoch = s.roster.epoch) : (s.setRoster x).obeys k := by
  cases k with
  | ranges =>
    obtain ⟨htime, helapsed, hgeneration, hepoch⟩ := h
    refine ⟨htime, helapsed, hgeneration, ?_⟩
    simpa [State.epochLaw, hx] using hepoch
  | _ => exact h

theorem obeys_setPunch {x : PunchUnit} (h : s.obeys k) (hx : x.verdicts.Sublist s.punch.verdicts) :
    (s.setPunch x).obeys k := by
  cases k with
  | verdicts => exact List.Nodup.sublist (hx.map _) h
  | _ => exact h

theorem obeys_setBanks {x : BankStore} (h : s.obeys k) (hx : x.generation = s.banks.generation) :
    (s.setBanks x).obeys k := by
  cases k with
  | ranges =>
    obtain ⟨htime, helapsed, hgeneration, hepoch⟩ := h
    refine ⟨htime, helapsed, ?_, hepoch⟩
    simpa [State.generationLaw, hx] using hgeneration
  | _ => exact h

/-- A link whose buffers keep their sizes where they did before keeps every law. -/
theorem obeys_setLink {x : Link} (h : s.obeys k) (hx : s.link.inBounds → x.inBounds) : (s.setLink x).obeys k := by
  cases k with
  | link => exact hx h
  | _ => exact h

/-- A link whose buffers lose frames, and whose order in hand is the same or gone, keeps its bounds. -/
theorem Link.inBounds_of_sublist {x y : Link} (h : x.inBounds) (hreceived : y.received.Sublist x.received)
    (htransmit : y.transmit.Sublist x.transmit) (hhanded : y.handed.isSome = true → x.handed.isSome = true) :
    y.inBounds := by
  obtain ⟨hr, hreports, hreplies⟩ := h
  have h1 := hreceived.length_le
  have h2 := (htransmit.filter fun x => !x.isReply).length_le
  have h3 := (htransmit.filter TxFrame.isReply).length_le
  refine ⟨by omega, by omega, ?_⟩
  by_cases hy : y.handed.isSome = true
  · rw [if_pos (hhanded hy)] at hreplies
    rw [if_pos hy]
    omega
  · rw [if_neg hy]
    omega

/-- A link with the same buffers keeps its bounds. -/
theorem Link.inBounds_of_eq {x y : Link} (h : x.inBounds) (hreceived : y.received = x.received)
    (htransmit : y.transmit = x.transmit) (hhanded : y.handed = x.handed) : y.inBounds := by
  unfold Link.inBounds
  rw [hreceived, htransmit, hhanded]
  exact h

/-- A report joined to fewer than 31 frames (R189). -/
theorem Link.inBounds_report {x : Link} (r : Report) (h : x.inBounds) (hroom : x.transmit.length < 31) :
    { x with transmit := x.transmit ++ [.report r] : Link }.inBounds := by
  obtain ⟨hr, _, hreplies⟩ := h
  have := List.length_filter_le (fun f => !TxFrame.isReply f) x.transmit
  refine ⟨hr, ?_, ?_⟩
  · simp only [List.filter_append, List.length_append, List.filter_singleton, TxFrame.isReply_report, Bool.not_false,
      cond_true, List.length_singleton]
    omega
  · simpa only [List.filter_append, List.filter_singleton, TxFrame.isReply_report, cond_false, List.append_nil]
      using hreplies

/-- The reply to the order in hand takes that order's place (R188, R189). -/
theorem Link.inBounds_reply {x y : Link} (r : OrderRef) (c : Reply) (h : x.inBounds) (hx : x.handed.isSome = true)
    (hreceived : y.received = x.received) (htransmit : y.transmit = x.transmit ++ [.reply r c])
    (hhanded : y.handed = none) : y.inBounds := by
  obtain ⟨hr, hreports, hreplies⟩ := h
  rw [if_pos hx] at hreplies
  unfold Link.inBounds
  rw [hreceived, htransmit, hhanded]
  refine ⟨hr, ?_, ?_⟩
  · simpa only [List.filter_append, List.filter_singleton, TxFrame.isReply_reply, Bool.not_true, cond_false,
      List.append_nil] using hreports
  · simp only [List.filter_append, List.length_append, List.filter_singleton, TxFrame.isReply_reply, cond_true]
    exact hreplies

theorem obeys_setTime {x : TimeBase} (h : s.obeys k)
    (hx : s.time.inRange → x.inRange) : (s.setTime x).obeys k := by
  cases k with
  | ranges =>
    obtain ⟨htime, helapsed, hgeneration, hepoch⟩ := h
    obtain ⟨htime', helapsed'⟩ := hx ⟨htime, helapsed⟩
    exact ⟨htime', helapsed', hgeneration, hepoch⟩
  | _ => exact h

theorem obeys_ite {u : State} {c : Prop} [Decidable c] (ht : t.obeys k) (hu : u.obeys k) :
    (if c then t else u).obeys k := by
  split
  · exact ht
  · exact hu

theorem obeys_ite_fst {α : Type} {x y : State × α} {c : Prop} [Decidable c] (hx : x.1.obeys k) (hy : y.1.obeys k) :
    (if c then x else y).1.obeys k := by
  split
  · exact hx
  · exact hy

theorem obeys_foldl {α : Type} {f : State → α → State} (hf : ∀ u a, u.obeys k → (f u a).obeys k) (l : List α)
    (h : s.obeys k) : (l.foldl f s).obeys k := by
  induction l generalizing s with
  | nil => exact h
  | cons a rest ih => exact ih (hf s a h)

/-! ### The Spool (R179, R180) -/

/-- An entry joined to entries in consecutive order is in order (R179). -/
theorem consecutive_append {l : List SpoolEntry} {n : Nat} (e : Entry) (h : consecutive l n) :
    consecutive (l ++ [⟨n, e⟩]) (seqSucc n) := by
  induction l with
  | nil => rfl
  | cons a rest ih =>
    cases rest with
    | nil => exact ⟨h, rfl⟩
    | cons b rest => exact ⟨h.1, ih h.2⟩

theorem consecutive_tail {a : SpoolEntry} {l : List SpoolEntry} {n : Nat} (h : consecutive (a :: l) n) :
    consecutive l n := by
  cases l with
  | nil => trivial
  | cons b rest => exact h.2

theorem consecutive_drop {l : List SpoolEntry} {n : Nat} (i : Nat) (h : consecutive l n) : consecutive (l.drop i) n := by
  induction i generalizing l with
  | zero => exact h
  | succ i ih =>
    cases l with
    | nil => trivial
    | cons a rest => exact ih (consecutive_tail h)

theorem obeys_appendEntry (e : Entry) (hroom : s.spool.entries.length < 4096) (h : s.obeys k) :
    (s.appendEntry e).obeys k := by
  cases k with
  | spool =>
    refine ⟨?_, consecutive_append e h.2⟩
    simpa [State.appendEntry] using hroom
  | _ => exact h

theorem obeys_dropEntries (x : Spool) (i : Nat) (hentries : x.entries = s.spool.entries.drop i)
    (hnext : x.next = s.spool.next) (h : s.obeys k) : (s.setSpool x).obeys k := by
  cases k with
  | spool =>
    obtain ⟨hlength, horder⟩ := h
    refine ⟨?_, ?_⟩
    · simp only [State.setSpool_spool, hentries, List.length_drop]
      omega
    · simpa only [State.setSpool_spool, hentries, hnext] using consecutive_drop i horder
  | _ => exact h

theorem obeys_sendReport (r : Report) (h : s.obeys k) : (s.sendReport r).obeys k := by
  unfold State.sendReport
  split
  · split <;> rename_i hroom
    · exact obeys_setLink h fun hl => Link.inBounds_report r hl hroom
    · exact obeys_setLink h fun hl => Link.inBounds_of_eq hl rfl rfl rfl
  · exact h

theorem obeys_copyAlarm (e : Entry) (seq : Option Nat) (h : s.obeys k) : (s.copyAlarm e seq).obeys k := by
  cases e with
  | laneAlarm => exact obeys_sendReport _ h
  | system => exact obeys_sendReport _ h
  | _ => exact h

theorem obeys_requestEntry (e : Entry) (h : s.obeys k) : (s.requestEntry e).obeys k := by
  unfold State.requestEntry
  split
  · exact obeys_copyAlarm _ _ (obeys_appendEntry _ (by omega) h)
  · exact obeys_copyAlarm _ _ (obeys_dropEntries _ 0 rfl rfl h)

theorem obeys_systemEvent (stamp : Option Stamp) (cause : SystemCause) (h : s.obeys k) :
    (s.systemEvent stamp cause).obeys k := obeys_requestEntry _ h

theorem obeys_laneAlarm (l : LaneId) (cause : AlarmCause) (h : s.obeys k) : (s.laneAlarm l cause).obeys k := by
  unfold State.laneAlarm
  split
  · exact h
  · exact obeys_requestEntry _ h

theorem obeys_offerTotal {x : ShiftTotal} (hx : s.offerTotal x = some t) (h : s.obeys k) : t.obeys k := by
  unfold State.offerTotal at hx
  split at hx
  · cases hx
    exact obeys_appendEntry _ ‹_› h
  · cases hx

/-! ### Replies (R188) -/

/-- The reply to the order in hand takes its place among the frames to send. -/
theorem obeys_answer (order : Instr) (code : ReplyCode) (body : ReplyBody) (h : s.obeys k) :
    (s.answer order code body).obeys k := by
  unfold State.answer
  split
  · rename_i x hx
    split
    · exact obeys_setLink h fun hl => Link.inBounds_reply x.ref ⟨code, body⟩ hl (by rw [hx]; rfl) rfl rfl rfl
    · exact obeys_setLink h fun hl => Link.inBounds_of_eq hl rfl rfl rfl
  · exact obeys_setLink h fun hl => Link.inBounds_of_eq hl rfl rfl rfl

theorem obeys_refuse (order : Instr) (code : ReplyCode) (h : s.obeys k) : (s.refuse order code).obeys k :=
  obeys_answer _ _ _ h


/-! ### Replacing one quiet part of the state -/

theorem obeys_setRecords (x : RecordUnit) (h : s.obeys k) : (s.setRecords x).obeys k :=
  obeys_of_quiet h (frame_setRecords x (.refl _ _) (by decide))

theorem obeys_setInputs (x : InputSampler) (h : s.obeys k) : (s.setInputs x).obeys k :=
  obeys_of_quiet h (frame_setInputs x (.refl _ _) (by decide))

theorem obeys_setSetup (x : Setup) (h : s.obeys k) : (s.setSetup x).obeys k :=
  obeys_of_quiet h (frame_setSetup x (.refl _ _) (by decide))

theorem obeys_setSupply (x : Supply) (h : s.obeys k) : (s.setSupply x).obeys k :=
  obeys_of_quiet h (frame_setSupply x (.refl _ _) (by decide))

theorem obeys_setLane (l : LaneId) (x : Lane) (h : s.obeys k) : (s.setLane l x).obeys k :=
  obeys_of_quiet h (frame_setLane l x (.refl _ _) (by decide))

theorem obeys_giveNotice (x : Notice) (h : s.obeys k) : (s.giveNotice x).obeys k :=
  obeys_of_quiet h (frame_giveNotice x (.refl _ _) (by decide))

theorem obeys_withdrawBoundaries (h : s.obeys k) : s.withdrawBoundaries.obeys k :=
  obeys_of_quiet h (frame_withdrawBoundaries (.refl _ _) (by decide))

theorem obeys_dropReferences (a : Nat) (h : s.obeys k) : (s.dropReferences a).obeys k :=
  obeys_of_quiet h (frame_dropReferences a (.refl _ _) (by decide))

theorem obeys_retakeLevels (h : s.obeys k) : s.retakeLevels.obeys k :=
  obeys_of_quiet h (frame_retakeLevels (.refl _ _) (by decide) (by decide))

theorem obeys_askModes (set : LaneSet) (m : AskMode) (h : s.obeys k) : (s.askModes set m).obeys k :=
  obeys_of_quiet h (frame_askModes set m (.refl _ _) (by decide))

theorem obeys_restoreMode (l : LaneId) (h : s.obeys k) : (s.restoreMode l).obeys k :=
  obeys_of_quiet h (frame_restoreMode l (.refl _ _) (by decide))

theorem obeys_enterEgress (l : LaneId) (h : s.obeys k) : (s.enterEgress l).obeys k :=
  obeys_of_quiet h (frame_enterEgress l (.refl _ _) (by decide))

theorem obeys_fitPair (l : LaneId) (h : s.obeys k) : (s.fitPair l).obeys k :=
  obeys_of_quiet h (frame_fitPair l (.refl _ _) (by decide) (by decide))

theorem obeys_kindInEvacuation (l : LaneId) (was now : LaneKind) (h : s.obeys k) :
    (s.kindInEvacuation l was now).obeys k :=
  obeys_of_quiet h (frame_kindInEvacuation l was now (.refl _ _) (by decide))

theorem obeys_keepDead (was : State) (l : LaneId) (h : s.obeys k) : (State.keepDead was s l).obeys k :=
  obeys_of_quiet h (frame_keepDead was l (.refl _ _) (by decide))

theorem obeys_fitToKind (l : LaneId) (h : s.obeys k) : (s.fitToKind l).obeys k :=
  obeys_of_quiet h (frame_fitToKind l (.refl _ _) (by decide))

theorem obeys_zeroEncoder (l : LaneId) (h : s.obeys k) : (s.zeroEncoder l).obeys k :=
  obeys_of_quiet h (frame_zeroEncoder l (.refl _ _) (by decide))

theorem obeys_endRing (b : BellId) (h : s.obeys k) : (s.endRing b).obeys k :=
  obeys_of_quiet h (frame_endRing b (.refl _ _) (by decide))

theorem obeys_startRing (b : BellId) (r : Ring) (h : s.obeys k) : (s.startRing b r).obeys k :=
  obeys_of_quiet h (frame_startRing b r (.refl _ _) (by decide))

theorem obeys_requestRings (set : BellSet) (p : TonePattern) (duration : Nat) (h : s.obeys k) :
    (s.requestRings set p duration).1.obeys k :=
  obeys_of_quiet h (frame_requestRings set p duration (.refl _ _) (by decide))

theorem obeys_beginEvacRings (h : s.obeys k) : s.beginEvacRings.obeys k :=
  obeys_of_quiet h (frame_beginEvacRings (.refl _ _) (by decide))

theorem obeys_endEvacRings (h : s.obeys k) : s.endEvacRings.obeys k :=
  obeys_of_quiet h (frame_endEvacRings (.refl _ _) (by decide))

theorem obeys_endAllRings (h : s.obeys k) : s.endAllRings.obeys k :=
  obeys_of_quiet h (frame_endAllRings (.refl _ _) (by decide))

theorem obeys_followKind (b : BellId) (h : s.obeys k) : (s.followKind b).obeys k :=
  obeys_of_quiet h (frame_followKind b (.refl _ _) (by decide))

theorem obeys_setEqual (w : WatchId) (v : Bool) (h : s.obeys k) : (s.setEqual w v).obeys k :=
  obeys_of_quiet h (frame_setEqual w v (.refl _ _) (by decide))

theorem obeys_deliver (d : Delivery) (h : s.obeys k) : (s.deliver d).obeys k :=
  obeys_of_quiet h (frame_deliver d (.refl _ _) (by decide))

theorem obeys_watchBell (index : Nat) (h : s.obeys k) : (s.watchBell index).obeys k :=
  obeys_of_quiet h (frame_watchBell index (.refl _ _) (by decide))

theorem obeys_keepOldBank (later : Nat) (h : s.obeys k) : (s.keepOldBank later).obeys k :=
  obeys_of_quiet h (frame_keepOldBank later (.refl _ _) (by decide))

theorem obeys_dropNotice (r : Receiver) (h : s.obeys k) : (s.dropNotice r).obeys k :=
  obeys_of_quiet h (frame_dropNotice r (.refl _ _) (by decide))

theorem obeys_fireSchedule (b : Bank) (e : Stamp) (h : s.obeys k) : (s.fireSchedule b e).obeys k :=
  obeys_of_quiet h (frame_fireSchedule b e (.refl _ _) (by decide) (by decide))

theorem obeys_catchUpLane (b : Bank) (first last : Stamp) (l : LaneId) (h : s.obeys k) :
    (State.catchUpLane b first last s l).obeys k :=
  obeys_of_quiet h (frame_catchUpLane b first last l (.refl _ _) (by decide))

theorem obeys_takeChange (x : Delivery) (h : s.obeys k) : (s.takeChange x).obeys k :=
  obeys_of_quiet h (frame_takeChange x (.refl _ _) (by decide))

theorem obeys_recordClosing (l : LaneId) (e : Option Elapsed) (h : s.obeys k) : (s.recordClosing l e).obeys k :=
  obeys_of_quiet h (frame_recordClosing l e (.refl _ _) (by decide))

theorem obeys_stopRing (set : BellSet) (b : BellId) (h : s.obeys k) : (State.stopRing set s b).obeys k :=
  obeys_of_quiet h (frame_stopRing set b (.refl _ _) (by decide))

theorem obeys_tellWatch (changed : InputSet) (w : WatchId) (h : s.obeys k) : (State.tellWatch changed s w).obeys k :=
  obeys_of_quiet h (frame_tellWatch changed w (.refl _ _) (by decide))

theorem obeys_deliverExit (l : LaneId) (active : Bool) (x : LineEvent) (h : s.obeys k) :
    (s.deliverExit l active x).obeys k :=
  obeys_of_quiet h (frame_deliverExit l active x (.refl _ _) (by decide))

theorem obeys_sampleEncoder (count : Nat) (as bs : LaneSet) (l : LaneId) (h : s.obeys k) :
    (State.sampleEncoder count as bs s l).obeys k :=
  obeys_of_quiet h (frame_sampleEncoder count as bs l (.refl _ _) (by decide) (by decide))

theorem obeys_writeHolds (releases : LaneSet) (bells : BellSet) (v : Option Bool) (h : s.obeys k) :
    (s.writeHolds releases bells v).obeys k :=
  obeys_of_quiet h (frame_writeHolds releases bells v (.refl _ _) (by decide))

theorem obeys_restartLane (l : LaneId) (h : s.obeys k) : (s.restartLane l).obeys k :=
  obeys_of_quiet h (frame_restartLane l (.refl _ _) (by decide))

theorem obeys_resumeEvacRing (h : s.obeys k) : s.resumeEvacRing.obeys k :=
  obeys_of_quiet h (frame_resumeEvacRing (.refl _ _) (by decide))

theorem obeys_holdLane (l : LaneId) (h : s.obeys k) : (s.holdLane l).obeys k :=
  obeys_of_quiet h (frame_holdLane l (.refl _ _) (by decide))

theorem obeys_stopRings (h : s.obeys k) : s.stopRings.obeys k :=
  obeys_of_quiet h (frame_stopRings (.refl _ _) (by decide))

theorem obeys_heldNotices (h : s.obeys k) : s.heldNotices.obeys k :=
  obeys_of_quiet h (frame_heldNotices (.refl _ _) (by decide))

theorem obeys_resumeSampling (h : s.obeys k) : s.resumeSampling.obeys k :=
  obeys_of_quiet h (frame_resumeSampling (.refl _ _) (by decide))

/-! ### Plant time and elapsed time (R1–R5) -/

/-- A second's end keeps the registers in their ranges, except at the last second of day 65,535 (R1, R3, R4). -/
theorem TimeBase.inRange_advance {x : TimeBase} (h : x.inRange) (hlast : ¬ (x.day = 65535 ∧ x.second = 86399)) :
    x.advance.inRange := by
  obtain ⟨⟨hday, hsecond, hoffset, hstep, hhold, htrim, hlow, hhigh⟩, helapsed⟩ := h
  have hnext : (nextSecond x).1 ≤ 65535 ∧ (nextSecond x).2 ≤ 86399 := by
    unfold nextSecond
    split <;> dsimp only <;> omega
  have hzero : -230400 ≤ towardZero x.slew ∧ towardZero x.slew ≤ 230400 := by
    unfold towardZero
    split_ifs <;> omega
  refine ⟨⟨hnext.1, hnext.2, hoffset, hstep, hhold, htrim, ?_⟩, helapsed⟩
  dsimp only [TimeBase.advance]
  split
  · exact hzero
  · exact ⟨hlow, hhigh⟩

theorem obeys_endOfRange (h : s.obeys k) : s.endOfRange.obeys k := by
  have ht : (s.setTime { s.time with
      valid := false, prescaler := 0, slew := 0, slewing := false
      lostInHold := decide (s.supply.state = .hold) }).obeys k :=
    obeys_setTime h fun ⟨⟨hday, hsecond, hoffset, hstep, hhold, htrim, _⟩, helapsed⟩ =>
      ⟨⟨hday, hsecond, hoffset, hstep, hhold, htrim, (by decide : -230400 ≤ (0 : Int) ∧ (0 : Int) ≤ 230400)⟩, helapsed⟩
  unfold State.endOfRange
  dsimp only
  split
  · exact ht
  · exact obeys_systemEvent _ _ (obeys_withdrawBoundaries ht)

theorem obeys_endSecond (h : s.obeys k) : s.endSecond.obeys k := by
  unfold State.endSecond
  split
  · exact obeys_endOfRange h
  · next hlast =>
    have ht := obeys_setTime h fun hx => TimeBase.inRange_advance hx hlast
    dsimp only
    split
    · exact obeys_giveNotice _ ht
    · exact ht

theorem obeys_countPeriods (seconds n : Nat) (h : s.obeys k) : (State.countPeriods seconds s n).obeys k := by
  induction seconds generalizing s n with
  | zero => exact h
  | succ m ih =>
    unfold State.countPeriods
    dsimp only
    split
    · exact h
    · split
      · exact obeys_setTime h id
      · exact ih _ (obeys_endSecond h)

theorem obeys_passPeriods (n : Nat) (h : s.obeys k) : (s.passPeriods n).obeys k :=
  obeys_countPeriods _ _ (obeys_setTime h fun ⟨hregisters, _⟩ =>
    ⟨hregisters, Nat.min_le_left _ _, Nat.mod_lt _ (by decide)⟩)

theorem obeys_reach (e : Elapsed) (h : s.obeys k) : (s.reach e).obeys k := by
  unfold State.reach
  split
  · exact h
  · exact obeys_passPeriods _ h

/-! ### Slots (R19–R36) -/

theorem obeys_setSlot (a : Nat) (x : Slot) (h : s.obeys k) : (s.setSlot a x).obeys k := obeys_setRoster h rfl

theorem obeys_damageSlot (a : Nat) (h : s.obeys k) : (s.damageSlot a).obeys k :=
  obeys_systemEvent _ _ (obeys_dropReferences a (obeys_setRoster h rfl))

theorem obeys_checkedRead (a : Nat) (h : s.obeys k) : (s.checkedRead a).obeys k := by
  unfold State.checkedRead
  have hcorrected := fun x y (hy : y.epoch = s.roster.epoch) => obeys_setRoster (x := y) (obeys_setSlot a x h) hy
  exact obeys_ite h (obeys_ite (obeys_damageSlot a (obeys_ite h (hcorrected _ _ rfl)))
    (obeys_ite h (hcorrected _ _ rfl)))

theorem obeys_readSlots (l : List Nat) (h : s.obeys k) : (s.readSlots l).obeys k :=
  obeys_foldl (fun _ a => obeys_checkedRead a) l h

theorem obeys_lookup (badge : Nat) (h : s.obeys k) : (s.lookup badge).1.obeys k := obeys_readSlots _ h

theorem obeys_writeSlot (a : Nat) (onWithdrawn : Bool) (f : Slot → Slot) (h : s.obeys k) :
    (s.writeSlot a onWithdrawn f).1.obeys k := by
  have hread := obeys_checkedRead a h
  unfold State.writeSlot
  dsimp only
  split
  · exact obeys_setSlot _ _ hread
  · split
    · exact obeys_setSlot _ _ hread
    · exact hread
  · exact hread
  · exact hread

theorem obeys_freeSlotAt (a : Nat) (h : s.obeys k) : (s.freeSlotAt a).obeys k := obeys_setRoster h rfl

theorem obeys_enrol (badge : Nat) (f : EnrolFields) (h : s.obeys k) : (s.enrol badge f).1.obeys k := by
  have hread := obeys_readSlots (bucketSlots (bucketOf badge)) h
  unfold State.enrol
  dsimp only
  split
  · exact hread
  · split
    · exact hread
    · exact obeys_setRoster (obeys_setSlot _ _ hread) rfl

theorem obeys_advanceEpoch (h : s.obeys k) : s.advanceEpoch.obeys k := by
  unfold State.advanceEpoch
  split
  · cases k with
    | ranges =>
      obtain ⟨htime, helapsed, hgeneration, _⟩ := h
      exact ⟨htime, helapsed, hgeneration, (by decide : 1 ≤ 1 ∧ 1 ≤ 65535)⟩
    | _ => exact h
  · next hlast =>
    cases k with
    | ranges =>
      obtain ⟨htime, helapsed, hgeneration, hepoch⟩ := h
      refine ⟨htime, helapsed, hgeneration, ?_⟩
      show 1 ≤ s.roster.epoch + 1 ∧ s.roster.epoch + 1 ≤ 65535
      have := hepoch.2
      omega
    | _ => exact h

theorem obeys_clearMark (l : LaneId) (slot : Option Nat) (h : s.obeys k) : (s.clearMark l slot).obeys k := by
  cases slot with
  | none => exact h
  | some a => exact obeys_writeSlot a _ _ h

theorem obeys_purge (a : Nat) (h : s.obeys k) : (s.purge a).obeys k := obeys_setRoster h rfl

theorem obeys_markWithdrawn (a : Nat) (h : s.obeys k) : (s.markWithdrawn a).obeys k := obeys_setSlot _ _ h

theorem obeys_reportSlots (l : List Nat) (h : s.obeys k) : (s.reportSlots l).1.obeys k := by
  induction l generalizing s with
  | nil => exact h
  | cons a rest ih => exact ih (obeys_checkedRead a h)

/-! ### Records (R97–R110) -/

theorem obeys_setRecord (a : Nat) (r : ShiftRecord) (h : s.obeys k) : (s.setRecord a r).obeys k := obeys_setSlot _ _ h

theorem obeys_openRecord (a : Nat) (i : Stamp) (offWindow : Bool) (h : s.obeys k) :
    (s.openRecord a i offWindow).obeys k := obeys_setRecords _ (obeys_setRecord _ _ h)

theorem obeys_placeTotal (a : Nat) (d : RecordData) (out : Stamp) (x : ShiftTotal) (h : s.obeys k) :
    (s.placeTotal a d out x).1.obeys k := by
  unfold State.placeTotal
  split
  · next hu =>
    split at hu
    · exact obeys_setRecord _ _ (obeys_offerTotal hu h)
    · cases hu
  · exact obeys_setRecords _ (obeys_setRecord _ _ h)

theorem obeys_closeRecord (a : Nat) (out : Stamp) (cause : ClosureCause) (h : s.obeys k) :
    (s.closeRecord a out cause).1.obeys k := by
  have hread := obeys_checkedRead a h
  unfold State.closeRecord
  dsimp only
  split
  · exact hread
  · exact obeys_placeTotal _ _ _ _ (obeys_setSlot _ _ (obeys_setRecords _ hread))

theorem obeys_recordPunch (a : Nat) (cls : Classification) (i : Stamp) (offWindow : Bool) (h : s.obeys k) :
    (s.recordPunch a cls i offWindow).1.obeys k := by
  have hread := obeys_checkedRead a h
  unfold State.recordPunch
  dsimp only
  split
  · exact hread
  · split
    · exact obeys_openRecord _ _ _ hread
    · split
      · exact obeys_setRecord _ _ hread
      · exact hread
    · exact obeys_setRecord _ _ hread
    · exact obeys_closeRecord _ _ _ hread
    · exact obeys_closeRecord _ _ _ hread
    · exact hread

theorem obeys_closeHead {b : Stamp} (ht : s.closeHead b = some t) (h : s.obeys k) : t.obeys k := by
  unfold State.closeHead at ht
  split at ht
  · cases ht
  · split at ht
    · split at ht
      · cases ht
        exact obeys_closeRecord _ _ _ h
      · cases ht
    · cases ht

theorem obeys_closeDue (b : Stamp) (h : s.obeys k) : (s.closeDue b).obeys k := by
  unfold State.closeDue
  generalize s.records.deadlines.length = n
  induction n generalizing s with
  | zero => exact h
  | succ n ih =>
    unfold State.closeDueLoop
    split
    · exact h
    · next hu => exact ih (obeys_closeHead hu h)

theorem obeys_moveHead (h : s.obeys k) : s.moveHead.1.obeys k := by
  unfold State.moveHead
  split
  · exact h
  · next a _ _ =>
    have hread := obeys_checkedRead a h
    dsimp only
    split
    · exact hread
    · split
      · split
        · exact hread
        · next hu =>
          have hmoved := obeys_offerTotal hu hread
          split
          · exact obeys_freeSlotAt _ (obeys_setRecords _ hmoved)
          · exact obeys_setRecord _ _ (obeys_setRecords _ hmoved)
      · exact hread

theorem obeys_moveTotals (h : s.obeys k) : s.moveTotals.obeys k := by
  unfold State.moveTotals
  generalize s.records.closureQueue.length = n
  induction n generalizing s with
  | zero => exact h
  | succ n ih =>
    unfold State.moveLoop
    exact obeys_ite (ih (obeys_moveHead h)) (obeys_moveHead h)

/-! ### The verdict queue (R37, R40) -/

theorem mem_heads_queueFor {i j : Head} {v : Verdict} {l : List QueuedVerdict}
    (hj : j ∈ (queueFor i v l).map QueuedVerdict.head) : j = i ∨ j ∈ l.map QueuedVerdict.head := by
  induction l with
  | nil => simpa [queueFor] using hj
  | cons q rest ih =>
    unfold queueFor at hj
    split at hj
    · simp only [List.map_cons, List.mem_cons] at hj ⊢
      exact hj.imp_right .inr
    · simp only [List.map_cons, List.mem_cons] at hj ⊢
      rcases hj with hj | hj
      · exact .inr (.inl hj)
      · exact (ih hj).imp_right .inr

/-- A verdict queued for a head takes the place of that head's own (R40). -/
theorem nodup_heads_queueFor (i : Head) (v : Verdict) {l : List QueuedVerdict}
    (hl : (l.map QueuedVerdict.head).Nodup) : ((queueFor i v l).map QueuedVerdict.head).Nodup := by
  induction l with
  | nil => simp [queueFor]
  | cons q rest ih =>
    obtain ⟨hq, hrest⟩ := List.nodup_cons.1 hl
    unfold queueFor
    split
    · next hi => exact List.nodup_cons.2 ⟨hi ▸ hq, hrest⟩
    · next hi => exact List.nodup_cons.2 ⟨fun hm => (mem_heads_queueFor hm).elim hi hq, ih hrest⟩

theorem obeys_queueVerdict (i : Head) (v : Verdict) (h : s.obeys k) : (s.queueVerdict i v).obeys k := by
  unfold State.queueVerdict
  split
  · cases k with
    | verdicts => exact nodup_heads_queueFor i v h
    | _ => exact h
  · exact h

theorem obeys_dropIfLeft (before : Bool) (i : Head) (h : s.obeys k) : (s.dropIfLeft before i).obeys k :=
  obeys_ite (obeys_setPunch h List.filter_sublist) h

/-! ### Lane setups (R65, R66) -/

theorem obeys_applySetup (l : LaneId) (setup : LaneSetup) (h : s.obeys k) : (s.applySetup l setup).obeys k := by
  unfold State.applySetup
  exact obeys_dropIfLeft _ _ (obeys_dropIfLeft _ _ (obeys_foldl (fun _ m => obeys_keepDead s m) _
    (obeys_fitPair _ (obeys_kindInEvacuation _ _ _ (obeys_setLane _ _ (obeys_ite (obeys_fitToKind l h) h))))))

theorem obeys_becomeIdle (l : LaneId) (h : s.obeys k) : (s.becomeIdle l).obeys k := by
  unfold State.becomeIdle
  dsimp only
  split
  · exact obeys_setLane _ _ h
  · exact obeys_applySetup _ _ (obeys_setLane _ _ h)

/-! ### The course of a grant (R53, R57, R72–R87) -/

theorem obeys_setHanded (l : LaneId) (p : Option HandedPunch) (h : s.obeys k) : (s.setHanded l p).obeys k :=
  obeys_setPunch h (List.Sublist.refl _)

theorem obeys_dropHanded (l : LaneId) (h : s.obeys k) : (s.dropHanded l).obeys k := by
  unfold State.dropHanded
  split
  · exact h
  · exact obeys_clearMark _ _ (obeys_setHanded _ _ h)

theorem obeys_voidPunch (l : LaneId) (cause : VoidCause) (h : s.obeys k) : (s.voidPunch l cause).obeys k := by
  unfold State.voidPunch
  split
  · exact h
  · cases cause with
    | warmRestart => exact obeys_dropHanded _ (obeys_sendReport _ h)
    | supplyHold => exact obeys_dropHanded _ h
    | _ => exact obeys_dropHanded _ (obeys_sendReport _ (obeys_queueVerdict _ _ h))

theorem obeys_tellReleased (l : LaneId) (h : s.obeys k) : (s.tellReleased l).obeys k := by
  unfold State.tellReleased
  split
  · exact h
  · exact obeys_queueVerdict _ _ h

theorem obeys_tellWaiting (l : LaneId) (h : s.obeys k) : (s.tellWaiting l).obeys k := by
  unfold State.tellWaiting
  split
  · exact h
  · exact obeys_queueVerdict _ _ h

theorem obeys_tellRefused (l : LaneId) (h : s.obeys k) : (s.tellRefused l).obeys k := by
  unfold State.tellRefused
  split
  · exact h
  · exact obeys_dropHanded _ (obeys_queueVerdict _ _ h)

theorem obeys_releaseGrant (l : LaneId) (g : Grant) (h : s.obeys k) : (s.releaseGrant l g).obeys k :=
  obeys_tellReleased _ (obeys_setLane _ _ h)

theorem obeys_holdGrant (l : LaneId) (g : Grant) (h : s.obeys k) : (s.holdGrant l g).obeys k :=
  obeys_tellWaiting _ (obeys_setLane _ _ h)

theorem obeys_lookOnce (l p : LaneId) (h : s.obeys k) : (s.lookOnce l p).obeys k := by
  unfold State.lookOnce
  split
  · exact h
  · split
    · exact h
    · exact obeys_releaseGrant _ _ h

theorem obeys_lookAtEntry (l : LaneId) (h : s.obeys k) : (s.lookAtEntry l).obeys k := by
  unfold State.lookAtEntry State.lookAtPartner
  split
  · exact h
  · split
    · exact h
    · exact obeys_ite (obeys_lookOnce _ _ (obeys_releaseGrant _ _ h)) h

theorem obeys_takeGrant (l : LaneId) (g : Grant) (h : s.obeys k) : (s.takeGrant l g).obeys k :=
  obeys_ite (obeys_lookAtEntry _ (obeys_holdGrant _ _ h)) (obeys_releaseGrant _ _ h)

theorem obeys_look (l : LaneId) (h : s.obeys k) : (s.look l).obeys k := by
  unfold State.look
  split
  · exact h
  · split
    · exact h
    · exact obeys_lookOnce _ _ (obeys_lookOnce _ _ h)

theorem obeys_settle (h : s.obeys k) : s.settle.obeys k :=
  obeys_retakeLevels (obeys_foldl (fun _ l hu => obeys_ite hu (obeys_look l hu)) _ h)

theorem obeys_endGrant (l : LaneId) (how : GrantEnd) (h : s.obeys k) : (s.endGrant l how).obeys k := by
  refine obeys_becomeIdle _ ?_
  cases how with
  | finished => exact obeys_dropHanded _ h
  | void cause => exact obeys_voidPunch _ _ h
  | refused => exact obeys_tellRefused _ h

theorem obeys_voidGrant (cause : VoidCause) (l : LaneId) (h : s.obeys k) : (State.voidGrant cause s l).obeys k := by
  unfold State.voidGrant
  split
  · exact h
  · exact obeys_endGrant _ _ h

theorem obeys_cancelWait (withEnd : Bool) (l : LaneId) (h : s.obeys k) : (State.cancelWait withEnd s l).obeys k := by
  unfold State.cancelWait
  split
  · exact h
  · exact obeys_becomeIdle _ (obeys_setPunch (obeys_ite (obeys_queueVerdict _ _ h) h) (List.Sublist.refl _))

/-! ### Punches (R42–R61) -/

theorem obeys_noteAndReport (l : LaneId) (p : HandedPunch) (h : s.obeys k) : (s.noteAndReport l p).obeys k :=
  obeys_sendReport _ (obeys_foldl (fun _ _ => obeys_requestEntry _) _ h)

theorem obeys_commitRecord (a : Nat) (p : HandedPunch) (h : s.obeys k) : (s.commitRecord a p).1.obeys k := by
  unfold State.commitRecord
  split
  · next c i _ _ =>
    have hrecord := obeys_recordPunch a c i p.offWindow h
    dsimp only
    split <;> exact hrecord
  · exact h

theorem obeys_commit (l : LaneId) (p : HandedPunch) (h : s.obeys k) : (s.commit l p).obeys k := by
  unfold State.commit
  split
  · exact obeys_noteAndReport _ _ h
  · next a _ =>
    have hread := obeys_checkedRead a h
    exact obeys_ite (obeys_noteAndReport _ _ (obeys_writeSlot _ _ _ (obeys_commitRecord _ _ hread)))
      (obeys_noteAndReport _ _ hread)

theorem obeys_passageNotice (l : LaneId) (h : s.obeys k) : (s.passageNotice l).obeys k := by
  unfold State.passageNotice
  split
  · exact h
  · exact obeys_commit _ _ h

theorem obeys_endPunch (i : Head) (v : Verdict) (h : s.obeys k) : (s.endPunch i v).1.obeys k :=
  obeys_queueVerdict _ _ h

theorem obeys_setMark (l : LaneId) (slot : Option Nat) (h : s.obeys k) : (s.setMark l slot).obeys k := by
  cases slot with
  | none => exact h
  | some a => exact obeys_writeSlot _ _ _ h

theorem obeys_grantPunch (p : HandedPunch) (h : s.obeys k) : (s.grantPunch p).1.obeys k :=
  obeys_ite_fst (obeys_commit _ _ (obeys_queueVerdict _ _ h))
    (obeys_takeGrant _ _ (obeys_setHanded _ _ (obeys_setMark _ _ h)))

theorem obeys_applyMiss (p : PunchRead) (h : s.obeys k) : (s.applyMiss p).1.obeys k := by
  unfold State.applyMiss
  split
  · exact obeys_endPunch _ _ h
  · exact obeys_grantPunch _ h

theorem obeys_startReferral (p : PunchRead) (h : s.obeys k) : (s.startReferral p).1.obeys k :=
  obeys_sendReport _ (obeys_queueVerdict _ _ (obeys_setLane _ _ (obeys_setPunch h (List.Sublist.refl _))))

theorem obeys_missed (p : PunchRead) (h : s.obeys k) : (s.missed p).1.obeys k :=
  obeys_ite_fst (obeys_startReferral _ h) (obeys_applyMiss _ h)

theorem obeys_judgeClassified (p : PunchRead) (a : Nat) (c : Classified) (h : s.obeys k) :
    (s.judgeClassified p a c).1.obeys k := by
  refine obeys_ite_fst (obeys_endPunch _ _ h) ?_
  split
  · exact obeys_endPunch _ _ h
  · exact obeys_grantPunch _ h
  · exact obeys_grantPunch _ h

theorem obeys_raiseUnrecorded (a : Nat) (yes : Bool) (h : s.obeys k) : (s.raiseUnrecorded a yes).obeys k :=
  obeys_ite (obeys_writeSlot _ _ _ h) h

theorem obeys_judgeSlot (p : PunchRead) (a : Nat) (h : s.obeys k) : (s.judgeSlot p a).1.obeys k :=
  obeys_ite_fst (obeys_endPunch _ _ h) (obeys_ite_fst (obeys_endPunch _ _ h)
    (obeys_ite_fst (obeys_judgeClassified _ _ _ (obeys_raiseUnrecorded _ _ h)) (obeys_endPunch _ _ h)))

theorem obeys_judge (p : PunchRead) (h : s.obeys k) : (s.judge p).1.obeys k := by
  have hread := obeys_lookup p.badge h
  refine obeys_ite_fst (obeys_endPunch _ _ h) (obeys_ite_fst (obeys_endPunch _ _ h) (obeys_ite_fst (obeys_endPunch _ _ h)
    (obeys_ite_fst (obeys_endPunch _ _ h) ?_)))
  dsimp only
  split
  · exact obeys_missed _ hread
  · exact obeys_judgeSlot _ _ hread

theorem obeys_leaveWait (l : LaneId) (h : s.obeys k) : (s.leaveWait l).obeys k :=
  obeys_setLane _ _ (obeys_setPunch h (List.Sublist.refl _))

theorem obeys_settleIdle (l : LaneId) (h : s.obeys k) : (s.settleIdle l).obeys k := obeys_ite (obeys_becomeIdle _ h) h

theorem obeys_ruleOn (w : ReferralWait) (d : Decision) (fields : Option EnrolFields) (h : s.obeys k) :
    (s.ruleOn w d fields).1.1.obeys k := by
  unfold State.ruleOn
  split
  · exact obeys_endPunch _ _ h
  · next f =>
    have henrol := obeys_enrol w.badge f h
    dsimp only
    split <;> dsimp only
    · exact obeys_judgeSlot _ _ henrol
    · exact obeys_judgeSlot _ _ henrol
    · exact obeys_grantPunch _ henrol
  · have hread := obeys_lookup w.badge h
    dsimp only
    split
    · exact obeys_judgeSlot _ _ hread
    · exact obeys_grantPunch _ hread

theorem obeys_carryRuling (order : Instr) (l : LaneId) (w : ReferralWait) (d : Decision) (fields : Option EnrolFields)
    (h : s.obeys k) : (s.carryRuling order l w d fields).obeys k :=
  obeys_answer _ _ _ (obeys_settle (obeys_settleIdle _ (obeys_ruleOn _ _ _ (obeys_leaveWait _ h))))

/-! ### The gate line (R38, R39) -/

theorem obeys_sendVerdict (h : s.obeys k) : s.sendVerdict.obeys k := by
  unfold State.sendVerdict
  split
  · exact h
  · next hv => exact obeys_setPunch h (hv ▸ List.sublist_cons_self _ _)

theorem obeys_setHead (i : Head) (x : HeadState) (h : s.obeys k) : (s.setHead i x).obeys k :=
  obeys_setPunch h (List.Sublist.refl _)

theorem obeys_countMiss (i : Head) (h : s.obeys k) : (s.countMiss i).obeys k :=
  obeys_ite h (obeys_ite h (obeys_ite (obeys_laneAlarm _ _ (obeys_setHead _ _ h)) (obeys_setHead _ _ h)))

theorem obeys_countAnswer (i : Head) (h : s.obeys k) : (s.countAnswer i).obeys k :=
  obeys_ite (obeys_laneAlarm _ _ (obeys_setHead _ _ h)) (obeys_setHead _ _ h)

theorem obeys_endPoll (h : s.obeys k) : s.endPoll.obeys k := obeys_setPunch h (List.Sublist.refl _)

theorem obeys_lineError (h : s.obeys k) : s.lineError.obeys k := obeys_setPunch h (List.Sublist.refl _)

theorem obeys_noAnswer (h : s.obeys k) : s.noAnswer.obeys k := by
  unfold State.noAnswer
  split
  · exact obeys_lineError h
  · exact obeys_countMiss _ (obeys_endPoll (obeys_lineError h))

theorem obeys_restartGateLine (h : s.obeys k) : s.restartGateLine.obeys k := obeys_setPunch h (List.nil_sublist _)

theorem obeys_stopGateLine (h : s.obeys k) : s.stopGateLine.obeys k := obeys_setPunch h (List.nil_sublist _)

/-! ### Watches and evacuation (R91, R158–R165) -/

theorem obeys_egressLane (l : LaneId) (h : s.obeys k) : (s.egressLane l).obeys k :=
  obeys_ite (obeys_voidGrant _ _ (obeys_enterEgress _ h)) h

theorem obeys_startEvacuation (w : WatchId) (levels : InputSet) (h : s.obeys k) :
    (s.startEvacuation w levels).obeys k :=
  obeys_systemEvent _ _ (obeys_foldl (fun _ l => obeys_cancelWait true l) _
    (obeys_beginEvacRings (obeys_foldl (fun _ l => obeys_egressLane l) _ (obeys_setInputs _ h))))

theorem obeys_endEvacuation (h : s.obeys k) : s.endEvacuation.obeys k :=
  obeys_advanceEpoch (obeys_foldl (fun _ l => obeys_restoreMode l) _ (obeys_setInputs _ h))

theorem obeys_performAction (w : WatchId) (levels : InputSet) (x : WatchAction) (h : s.obeys k) :
    (s.performAction w levels x).obeys k := by
  cases x with
  | alarm => exact h
  | evacuate => exact obeys_startEvacuation _ _ h
  | lanes set mode => exact obeys_askModes _ _ h
  | bell index => exact obeys_watchBell _ h

theorem obeys_fireWatch (w : WatchId) (h : s.obeys k) : (s.fireWatch w).obeys k :=
  obeys_ite (obeys_setInputs _ h) (obeys_performAction _ _ _ (obeys_systemEvent _ _ (obeys_setInputs _ h)))

/-! ### Switches, boundaries and spans (R102, R138, R148, R172, R173) -/

theorem wrapSucc_le {n : Nat} (h : n ≤ 65535) : wrapSucc n ≤ 65535 := by
  unfold wrapSucc
  split <;> omega

theorem obeys_carryOutSwitch (stamp : Option Stamp) (timed : Bool) (h : s.obeys k) :
    (s.carryOutSwitch stamp timed).obeys k := by
  refine obeys_systemEvent _ _ ?_
  cases k with
  | ranges =>
    obtain ⟨htime, helapsed, hgeneration, hepoch⟩ := h
    exact ⟨htime, helapsed, wrapSucc_le hgeneration, hepoch⟩
  | _ => exact h

theorem obeys_switchAtNotice (stamp : Option Stamp) (timed : Bool) (h : s.obeys k) :
    (s.switchAtNotice stamp timed).obeys k := obeys_carryOutSwitch _ _ (obeys_keepOldBank _ h)

theorem obeys_switchIfReached (e : Stamp) (h : s.obeys k) : (s.switchIfReached e).obeys k := by
  unfold State.switchIfReached
  split
  · exact obeys_ite (obeys_switchAtNotice _ _ h) h
  · exact h

theorem obeys_takeBoundary (r : Receiver) (e : Stamp) (h : s.obeys k) : (s.takeBoundary r e).obeys k := by
  have hdrop := obeys_dropNotice r h
  cases r with
  | recordUnit => exact obeys_closeDue _ hdrop
  | scheduleUnit => exact obeys_settle (obeys_fireSchedule _ _ hdrop)
  | bankStore => exact obeys_ite (obeys_switchIfReached _ hdrop) hdrop

theorem obeys_catchUp (b : Bank) (first last : Stamp) (h : s.obeys k) : (s.catchUp b first last).obeys k :=
  obeys_settle (obeys_foldl (fun _ l => obeys_catchUpLane _ _ _ l) _ h)

theorem obeys_takeSpan (r : Receiver) (first last : Stamp) (h : s.obeys k) : (s.takeSpan r first last).obeys k := by
  have hdrop := obeys_dropNotice r h
  cases r with
  | recordUnit => exact obeys_closeDue _ hdrop
  | scheduleUnit => exact obeys_catchUp _ _ _ hdrop
  | bankStore => exact obeys_switchIfReached _ hdrop

/-! ### Orders to the roster and the spool (R21–R26, R182, R183) -/

theorem obeys_answerEnrol (order : Instr) (x : EnrolAnswer) (h : s.obeys k) : (s.answerEnrol order x).obeys k := by
  cases x with
  | done a => exact obeys_answer _ _ _ h
  | duplicate a => exact obeys_refuse _ _ h
  | full => exact obeys_refuse _ _ h

theorem obeys_forceClosure (order : Instr) (a : Nat) (now : Stamp) (h : s.obeys k) :
    (s.forceClosure order a now).obeys k := by
  have hclose := obeys_closeRecord a now .forced h
  unfold State.forceClosure
  dsimp only
  split
  · exact obeys_answer _ _ _ (obeys_freeSlotAt _ hclose)
  · exact obeys_answer _ _ _ (obeys_markWithdrawn _ hclose)
  · exact obeys_refuse _ _ hclose

theorem obeys_withdraw (order : Instr) (a : Nat) (force : Bool) (h : s.obeys k) : (s.withdraw order a force).obeys k := by
  have hopen : (if force then match s.now with
      | none => s.refuse order .clockInvalid
      | some t => s.forceClosure order a t
    else s.refuse order .openRecord).obeys k := by
    refine obeys_ite ?_ (obeys_refuse _ _ h)
    split
    · exact obeys_refuse _ _ h
    · exact obeys_forceClosure _ _ _ h
  unfold State.withdraw
  refine obeys_ite (obeys_refuse _ _ h) ?_
  split
  · exact obeys_answer _ _ _ (obeys_freeSlotAt _ h)
  · exact obeys_answer _ _ _ (obeys_markWithdrawn _ h)
  · exact hopen
  · exact hopen

theorem obeys_clearThrough (i : Nat) (h : s.obeys k) : (s.clearThrough i).obeys k :=
  obeys_setRecords _ (obeys_dropEntries _ (i + 1) rfl rfl h)

/-! ### Lane events (R74–R89) -/

theorem obeys_unexpectedOpening (l : LaneId) (h : s.obeys k) : (s.unexpectedOpening l).obeys k :=
  obeys_ite h (obeys_ite h (obeys_laneAlarm _ _ h))

theorem obeys_doorOpens (l : LaneId) (h : s.obeys k) : (s.doorOpens l).obeys k := by
  refine (?_ : ∀ {u : State}, u.obeys k → (u.takeOpening l).obeys k) (obeys_setLane _ _ h)
  intro u hu
  unfold State.takeOpening
  split
  · exact obeys_unexpectedOpening _ hu
  · exact obeys_ite (obeys_passageNotice _ (obeys_setLane _ _ hu))
      (obeys_ite (obeys_laneAlarm _ _ hu) (obeys_unexpectedOpening _ hu))

theorem obeys_endHeld (l : LaneId) (h : s.obeys k) : (s.endHeld l).obeys k :=
  obeys_ite (obeys_laneAlarm _ _ (obeys_setLane _ _ h)) h

theorem obeys_finishUntilOpen (l : LaneId) (h : s.obeys k) : (s.finishUntilOpen l).obeys k := by
  unfold State.finishUntilOpen
  split
  · exact h
  · exact obeys_ite (obeys_endGrant _ _ h) h

theorem obeys_doorCloses (l : LaneId) (h : s.obeys k) : (s.doorCloses l).obeys k :=
  obeys_look _ (obeys_finishUntilOpen _ (obeys_endHeld _ (obeys_recordClosing _ _ h)))

theorem obeys_releaseRunsOut (l : LaneId) (g : Grant) (h : s.obeys k) : (s.releaseRunsOut l g).obeys k :=
  obeys_look _ (obeys_zeroEncoder _ (obeys_endGrant _ _ h))

theorem obeys_heldRunsOut (l : LaneId) (h : s.obeys k) : (s.heldRunsOut l).obeys k :=
  obeys_ite (obeys_laneAlarm _ _ (obeys_setLane _ _ h)) (obeys_setLane _ _ h)

theorem obeys_exitRequested (l : LaneId) (h : s.obeys k) : (s.exitRequested l).obeys k :=
  obeys_ite (obeys_takeGrant _ _ (obeys_setLane _ _ h)) (obeys_setLane _ _ h)

theorem obeys_stepGranted (l : LaneId) (g : Grant) (dir : Dir) (h : s.obeys k) : (s.stepGranted l g dir).obeys k :=
  obeys_look _ (obeys_zeroEncoder _ (obeys_ite (obeys_endGrant _ _ (obeys_passageNotice _ (obeys_setLane _ _ h)))
    (obeys_endGrant _ _ (obeys_laneAlarm _ _ h))))

theorem obeys_stepUngranted (l : LaneId) (dir : Dir) (h : s.obeys k) : (s.stepUngranted l dir).obeys k := by
  have hzero := obeys_zeroEncoder l h
  exact obeys_ite hzero (obeys_ite hzero (obeys_laneAlarm _ _ hzero))

theorem obeys_stepReached (l : LaneId) (dir : Dir) (h : s.obeys k) : (s.stepReached l dir).obeys k := by
  unfold State.stepReached
  split
  · exact obeys_ite (obeys_stepGranted _ _ _ h) (obeys_stepUngranted _ _ h)
  · exact obeys_stepUngranted _ _ h

theorem obeys_countStep (l : LaneId) (d : Int) (h : s.obeys k) : (s.countStep l d).obeys k := by
  have hcount := obeys_setLane l { s.lane l with encoder := (s.lane l).encoder + d } h
  exact obeys_ite (obeys_stepReached _ _ hcount) (obeys_ite (obeys_stepReached _ _ hcount) hcount)

theorem obeys_encoderMoves (l : LaneId) (a b : Bool) (h : s.obeys k) : (s.encoderMoves l a b).obeys k := by
  have hpair := obeys_setLane l { s.lane l with decoderA := a, decoderB := b } h
  unfold State.encoderMoves
  dsimp only
  split
  · exact hpair
  · exact obeys_countStep _ _ hpair
  · exact obeys_countStep _ _ hpair
  · exact obeys_laneAlarm _ _ hpair

theorem obeys_releaseRemote (order : Instr) (l : LaneId) (d : Dir) (h : s.obeys k) :
    (s.releaseRemote order l d).obeys k := obeys_answer _ _ _ (obeys_settle (obeys_takeGrant _ _ h))

/-! ### Sampling (R154, R155) -/

theorem obeys_sampleGeneral (levels : InputSet) (h : s.obeys k) : (s.sampleGeneral levels).obeys k := by
  unfold State.sampleGeneral
  exact obeys_ite (obeys_foldl (fun _ w => obeys_tellWatch _ w) _ (obeys_setInputs _ (obeys_reach _ h)))
    (obeys_setInputs _ (obeys_reach _ h))

theorem obeys_takeDoorStatus (l : LaneId) (isOpen : Bool) (h : s.obeys k) : (s.takeDoorStatus l isOpen).obeys k :=
  obeys_ite h (obeys_ite (obeys_setLane _ _ h) (obeys_ite (obeys_look _ (obeys_recordClosing _ _ h)) h))

theorem obeys_deliverDoor (l : LaneId) (isOpen : Bool) (x : LineEvent) (h : s.obeys k) :
    (s.deliverDoor l isOpen x).obeys k := by
  cases x with
  | quiet => exact h
  | change => exact obeys_deliver _ h
  | status => exact obeys_takeDoorStatus _ _ h

theorem obeys_sampleContact (count : Nat) (doors exits : LaneSet) (l : LaneId) (h : s.obeys k) :
    (State.sampleContact count doors exits s l).obeys k :=
  obeys_deliverExit _ _ _ (obeys_deliverDoor _ _ _ (obeys_setInputs _ h))

theorem obeys_sampleContacts (doors exits : LaneSet) (h : s.obeys k) : (s.sampleContacts doors exits).obeys k :=
  obeys_settle (obeys_foldl (fun _ l => obeys_sampleContact _ _ _ l) _ (obeys_setInputs _ (obeys_reach _ h)))

theorem obeys_sampleEncoders (as bs : LaneSet) (h : s.obeys k) : (s.sampleEncoders as bs).obeys k :=
  obeys_foldl (fun _ l => obeys_sampleEncoder _ _ _ l) _ (obeys_setInputs _ (obeys_reach _ h))

/-! ### The setup record and the plant link (R187–R193) -/

/-- A change of the link that leaves its buffers as they are keeps every law. -/
theorem obeys_setLink_sameBuffers {x : Link} (h : s.obeys k) (hreceived : x.received = s.link.received)
    (htransmit : x.transmit = s.link.transmit) (hhanded : x.handed = s.link.handed) : (s.setLink x).obeys k :=
  obeys_setLink h fun hl => Link.inBounds_of_eq hl hreceived htransmit hhanded

theorem obeys_writeGeneral (g : GeneralSetup) (h : s.obeys k) : (s.writeGeneral g).obeys k := by
  have hwritten := obeys_setInputs ((s.setSetup { s.setup with general := g }).inputs.restartChanged s.setup.general g)
    (obeys_setSetup { s.setup with general := g } h)
  exact obeys_ite hwritten (obeys_setLink_sameBuffers hwritten rfl rfl rfl)

theorem obeys_writeBells (x : BellSetup) (h : s.obeys k) : (s.writeBells x).obeys k :=
  obeys_settle (obeys_foldl (fun _ b => obeys_followKind b) _ (obeys_setSetup _ h))

theorem obeys_writeLane (l : LaneId) (x : LaneSetup) (h : s.obeys k) : (s.writeLane l x).1.obeys k :=
  obeys_ite_fst (obeys_settle (obeys_applySetup _ _ h)) (obeys_setLane _ _ h)

theorem obeys_writeWatch (w : WatchId) (x : WatchSettings) (h : s.obeys k) : (s.writeWatch w x).obeys k := by
  have hwritten := fun v => obeys_setEqual w v (obeys_setEqual w false
    (obeys_setSetup { s.setup with watches := putAt s.setup.watches w x } h))
  exact obeys_ite (obeys_settle (obeys_fireWatch _ (hwritten _))) (hwritten _)

theorem obeys_warmRestart (h : s.obeys k) : s.warmRestart.obeys k := by
  unfold State.warmRestart
  exact obeys_settle (obeys_resumeEvacRing (obeys_endAllRings (obeys_foldl (fun _ l => obeys_restartLane l) _
    (obeys_restartGateLine (obeys_foldl (fun _ l => obeys_cancelWait false l) _
      (obeys_foldl (fun _ l => obeys_voidGrant .warmRestart l) _
        (obeys_setLink_sameBuffers (obeys_setSupply _ h) rfl rfl rfl)))))))

theorem obeys_linkError (h : s.obeys k) : s.linkError.obeys k := obeys_setLink_sameBuffers h rfl rfl rfl

theorem obeys_takeFrame (f : Frame) (h : s.obeys k) : (s.takeFrame f).obeys k := by
  have honline := obeys_setLink_sameBuffers (x := { s.link with
    online := true, silence := some (s.inSeconds s.setup.general.offlineTimeout) }) h rfl rfl rfl
  unfold State.takeFrame
  dsimp only
  split
  · next hroom =>
    refine obeys_setLink honline fun ⟨_, hreports, hreplies⟩ => ⟨?_, hreports, hreplies⟩
    simpa using hroom
  · exact obeys_linkError honline

theorem obeys_takeReceipt (x : Receipt) (h : s.obeys k) : (s.takeReceipt x).obeys k := by
  cases x with
  | bad => exact obeys_linkError h
  | good f => exact obeys_takeFrame _ h

theorem obeys_frameBad (h : s.obeys k) : s.frameBad.obeys k :=
  obeys_linkError (obeys_setLink_sameBuffers h rfl rfl rfl)

theorem obeys_receiveBytes (bytes : List Byte) (h : s.obeys k) : (s.receiveBytes bytes).obeys k :=
  obeys_setLink_sameBuffers (obeys_foldl (fun _ x => obeys_takeReceipt x) _ h) rfl rfl rfl

/-- Where a frame may be dispatched no order is in hand and no reply waits (R188). -/
theorem State.mayDispatch_iff (s : State) : s.mayDispatch = true ↔
    s.link.handed = none ∧ (∀ x ∈ s.link.transmit, x.isReply = false) ∧ s.link.restart = .none := by
  simp [State.mayDispatch, and_assoc]

theorem obeys_dispatch {f : Frame} {rest : List Frame} (hreceived : s.link.received = f :: rest)
    (hready : s.mayDispatch = true) (h : s.obeys k) : (s.dispatch f rest).obeys k := by
  obtain ⟨hhanded, hreplies, _⟩ := s.mayDispatch_iff.1 hready
  have hnone : s.link.transmit.filter TxFrame.isReply = [] := List.filter_eq_nil_iff.2 fun x hx => by simp [hreplies x hx]
  have hrest : s.link.inBounds → rest.length ≤ 2 := fun hl => by
    have := hl.1
    rw [hreceived, List.length_cons] at this
    omega
  have hleft : (s.setLink { s.link with received := rest }).obeys k :=
    obeys_setLink h fun hl => ⟨hrest hl, hl.2⟩
  unfold State.dispatch
  dsimp only
  split
  · refine obeys_setLink hleft fun ⟨hr, hreports, _⟩ => ⟨hr, ?_, ?_⟩
    · simpa [List.filter_append] using hreports
    · simp only [State.setLink_link, List.filter_append, hnone, List.nil_append, hhanded]
      exact List.length_filter_le _ _
  · refine obeys_setLink hleft fun ⟨hr, hreports, _⟩ => ⟨hr, hreports, ?_⟩
    simp [hnone]

/-! ### Supply (R194–R196) -/

theorem obeys_beginHold (h : s.obeys k) : s.beginHold.obeys k := by
  refine obeys_systemEvent _ _ (obeys_setTime (obeys_setLink (obeys_setSupply _ h) fun hl =>
    Link.inBounds_of_sublist hl (List.nil_sublist _) (List.nil_sublist _) (fun hx => by cases hx)) ?_)
  exact fun ⟨⟨hday, hsecond, hoffset, hstep, hhold, hrest⟩, helapsed⟩ =>
    ⟨⟨hday, hsecond, hoffset, hstep, wrapSucc_le hhold, hrest⟩, helapsed⟩

theorem obeys_enterHold (h : s.obeys k) : s.enterHold.obeys k := by
  unfold State.enterHold
  exact obeys_settle (obeys_setInputs _ (obeys_heldNotices (obeys_stopRings (obeys_stopGateLine
    (obeys_foldl (fun _ l => obeys_holdLane l) _ (obeys_foldl (fun _ l => obeys_cancelWait false l) _
      (obeys_foldl (fun _ l => obeys_voidGrant .supplyHold l) _ (obeys_beginHold h))))))))

theorem obeys_endHold (h : s.obeys k) : s.endHold.obeys k := obeys_systemEvent _ _ (obeys_setSupply _ h)

theorem obeys_resumeTime (h : s.obeys k) : s.resumeTime.obeys k := by
  have hlost := obeys_ite (c := s.time.lostInHold = true)
    (obeys_systemEvent none .clockLost (obeys_setTime (x := { s.time with lostInHold := false }) h id)) h
  unfold State.resumeTime
  dsimp only
  split
  · exact hlost
  · exact obeys_giveNotice _ hlost

theorem obeys_endCutShort (h : s.obeys k) : s.endCutShort.obeys k :=
  obeys_ite (obeys_systemEvent _ _ (obeys_endEvacuation h)) h

theorem obeys_leaveHold (h : s.obeys k) : s.leaveHold.obeys k := by
  unfold State.leaveHold
  exact obeys_settle (obeys_restartGateLine (obeys_foldl (fun _ l => obeys_zeroEncoder l) _
    (obeys_resumeSampling (obeys_endCutShort (obeys_resumeTime (obeys_endHold h))))))
end
end Sys2Proof.Machine
end

section
/-! ## The laws of the queues and buffers and the ranges of the registers, kept by every command -/
namespace Sys2Proof.Machine

/-- Whatever state a command answers obeys the law. -/
def obeysNext (k : Law) (o : Host.Outcome State Fault Refusal) : Prop := ∀ t, o = .next t → t.obeys k

section
variable {k : Law} {s t : State}

theorem obeysNext_next (h : t.obeys k) : obeysNext k (.next t) := by
  rintro u ⟨⟩
  exact h

theorem obeysNext_whileRunning {act : State → State} (h : s.obeys k) (hact : (act s).obeys k) :
    obeysNext k (whileRunning s act) := by
  unfold whileRunning
  split
  · exact obeysNext_next hact
  · exact obeysNext_next h

/-! ### The clock (R1–R15) -/

/-- The Time Base as CLOCK SET writes it, from fields in their ranges (R12). -/
theorem TimeBase.inRange_setClock {x : TimeBase} {day second offset : Nat}
    (hfields : ¬ (65535 < day ∨ 86399 < second ∨ 6 < offset)) (h : x.inRange) : (x.setClock day second offset).inRange := by
  obtain ⟨⟨_, _, _, hstep, hhold, htrim, _⟩, helapsed⟩ := h
  have hstep' : (x.setClock day second offset).stepCount ≤ 65535 := by
    dsimp only [TimeBase.setClock]
    split
    · exact wrapSucc_le hstep
    · exact hstep
  have hslew : -230400 ≤ (0 : Int) ∧ (0 : Int) ≤ 230400 := by decide
  exact ⟨⟨by dsimp only [TimeBase.setClock]; omega, by dsimp only [TimeBase.setClock]; omega,
    by dsimp only [TimeBase.setClock]; omega, hstep', hhold, htrim, hslew⟩, helapsed⟩

theorem obeys_giveStep (old : Option Stamp) (new : Stamp) (h : s.obeys k) : (s.giveStep old new).obeys k := by
  cases old with
  | none => exact h
  | some o => exact obeys_ite h (obeys_giveNotice _ h)

theorem obeysNext_clockSet (day second offset : Nat) (h : s.obeys k) :
    obeysNext k (execClockSet day second offset s) := by
  refine obeysNext_whileRunning h ?_
  dsimp only
  split
  · exact obeys_refuse _ _ h
  · next hfields =>
    exact obeys_answer _ _ _ (obeys_giveStep _ _ (obeys_systemEvent _ _
      (obeys_setTime h (TimeBase.inRange_setClock hfields))))

theorem obeysNext_clockSlew (seconds : Int) (h : s.obeys k) : obeysNext k (execClockSlew seconds s) := by
  refine obeysNext_whileRunning h ?_
  dsimp only
  split
  · exact obeys_refuse _ _ h
  · next hrange =>
    refine obeys_ite (obeys_refuse _ _ h) (obeys_answer _ _ _ (obeys_setTime h ?_))
    exact fun ⟨⟨hday, hsecond, hoffset, hstep, hhold, htrim, _⟩, helapsed⟩ =>
      ⟨⟨hday, hsecond, hoffset, hstep, hhold, htrim, by dsimp only; omega⟩, helapsed⟩

theorem obeysNext_clockTrim (trim : Int) (h : s.obeys k) : obeysNext k (execClockTrim trim s) := by
  refine obeysNext_whileRunning h ?_
  dsimp only
  split
  · exact obeys_refuse _ _ h
  · next hrange =>
    refine obeys_ite (obeys_refuse _ _ h) (obeys_answer _ _ _ (obeys_setTime h ?_))
    exact fun ⟨⟨hday, hsecond, hoffset, hstep, hhold, _, hslew⟩, helapsed⟩ =>
      ⟨⟨hday, hsecond, hoffset, hstep, hhold, by dsimp only; omega, hslew⟩, helapsed⟩

theorem obeysNext_clockRead (h : s.obeys k) : obeysNext k (execClockRead s) :=
  obeysNext_whileRunning h (obeys_answer _ _ _ h)

theorem obeysNext_secondEnd (h : s.obeys k) : obeysNext k (execSecondEnd s) :=
  obeysNext_next (obeys_ite h (obeys_endSecond (obeys_passPeriods _ h)))

theorem obeysNext_secondBoundary (r : Receiver) (h : s.obeys k) : obeysNext k (execSecondBoundary r s) := by
  refine obeysNext_whileRunning h ?_
  split
  · exact obeys_takeBoundary _ _ h
  · exact h

theorem obeysNext_deadlineExpiry (h : s.obeys k) : obeysNext k (execDeadlineExpiry s) := by
  refine obeysNext_whileRunning h ?_
  split
  · exact obeys_ite (obeys_closeDue _ (obeys_dropNotice _ h)) h
  · exact h

theorem obeysNext_pendingSwitchDue (h : s.obeys k) : obeysNext k (execPendingSwitchDue s) := by
  refine obeysNext_whileRunning h ?_
  split
  · exact obeys_ite (obeys_switchAtNotice _ _ (obeys_dropNotice _ h)) h
  · exact h

theorem obeysNext_stepNotice (r : Receiver) (h : s.obeys k) : obeysNext k (execStepNotice r s) := by
  refine obeysNext_whileRunning h ?_
  split
  · exact obeys_ite (obeys_takeSpan _ _ _ h) (obeys_dropNotice _ h)
  · exact h

theorem obeysNext_resumptionNotice (r : Receiver) (h : s.obeys k) : obeysNext k (execResumptionNotice r s) := by
  refine obeysNext_whileRunning h ?_
  split
  · exact obeys_takeSpan _ _ _ h
  · exact h

/-! ### The roster (R21–R29) -/

theorem obeysNext_rosterEnrol (badge payClass pattern : Nat) (lanes : LaneSet) (h : s.obeys k) :
    obeysNext k (execRosterEnrol badge payClass pattern lanes s) :=
  obeysNext_whileRunning h (obeys_ite (obeys_answerEnrol _ _ (obeys_enrol _ _ h)) (obeys_refuse _ _ h))

theorem obeysNext_rosterAmend (badge : Nat) (payClass pattern : Option Nat) (lanes : Option LaneSet) (reset : Bool)
    (h : s.obeys k) : obeysNext k (execRosterAmend badge payClass pattern lanes reset s) := by
  have hread := obeys_lookup badge h
  refine obeysNext_whileRunning h (obeys_ite ?_ (obeys_refuse _ _ h))
  dsimp only
  split
  · exact obeys_refuse _ _ hread
  · exact obeys_answer _ _ _ (obeys_setSlot _ _ hread)

theorem obeysNext_rosterWithdraw (badge : Nat) (force : Bool) (h : s.obeys k) :
    obeysNext k (execRosterWithdraw badge force s) := by
  have hread := obeys_lookup badge h
  refine obeysNext_whileRunning h (obeys_ite ?_ (obeys_refuse _ _ h))
  dsimp only
  split
  · exact obeys_refuse _ _ hread
  · exact obeys_withdraw _ _ _ hread

theorem obeysNext_rosterRead (x : RosterKey) (h : s.obeys k) : obeysNext k (execRosterRead x s) := by
  refine obeysNext_whileRunning h ?_
  cases x with
  | byBadge badge =>
    have hread := obeys_lookup badge h
    refine obeys_ite ?_ (obeys_refuse _ _ h)
    dsimp only
    split
    · exact obeys_refuse _ _ hread
    · exact obeys_answer _ _ _ hread
  | byAddress first count => exact obeys_ite (obeys_answer _ _ _ (obeys_reportSlots _ h)) (obeys_refuse _ _ h)

theorem obeysNext_rosterPurge (a : Nat) (h : s.obeys k) : obeysNext k (execRosterPurge a s) :=
  obeysNext_whileRunning h (obeys_ite (obeys_ite (obeys_answer _ _ _ (obeys_purge _ h)) (obeys_refuse _ _ h))
    (obeys_refuse _ _ h))

theorem obeysNext_presenceSet (badge : Nat) (value : Choice PresenceRead) (h : s.obeys k) :
    obeysNext k (execPresenceSet badge value s) := by
  have hread := obeys_lookup badge h
  refine obeysNext_whileRunning h ?_
  cases value with
  | unlisted => exact obeys_refuse _ _ h
  | listed v =>
    refine obeys_ite ?_ (obeys_refuse _ _ h)
    dsimp only
    split
    · exact obeys_refuse _ _ hread
    · exact obeys_answer _ _ _ (obeys_setSlot _ _ hread)

theorem obeysNext_presenceClear (h : s.obeys k) : obeysNext k (execPresenceClear s) :=
  obeysNext_whileRunning h (obeys_answer _ _ _ (obeys_advanceEpoch h))

/-! ### The gate line and referrals (R37–R61) -/

theorem obeysNext_poll (h : s.obeys k) : obeysNext k (execPoll s) := by
  refine obeysNext_whileRunning h ?_
  dsimp only
  split
  · exact obeys_setPunch (obeys_sendVerdict h) (List.Sublist.refl _)
  · exact h

theorem obeysNext_pollTimeout (h : s.obeys k) : obeysNext k (execPollTimeout s) := by
  refine obeysNext_whileRunning h ?_
  split
  · exact h
  · exact obeys_countMiss _ (obeys_endPoll (obeys_reach _ h))

theorem obeysNext_idle (i : Head) (h : s.obeys k) : obeysNext k (execIdle i s) :=
  obeysNext_whileRunning h (obeys_ite (obeys_countAnswer _ (obeys_endPoll h)) (obeys_noAnswer h))

theorem obeysNext_garbledAnswer (h : s.obeys k) : obeysNext k (execGarbledAnswer s) :=
  obeysNext_whileRunning h (obeys_noAnswer h)

theorem obeysNext_strayCharacters (h : s.obeys k) : obeysNext k (execStrayCharacters s) :=
  obeysNext_whileRunning h (obeys_lineError h)

theorem obeysNext_punch (i : Head) (badge : BitVec 32) (intent : Intent) (h : s.obeys k) :
    obeysNext k (execPunch i badge intent s) :=
  obeysNext_whileRunning h (obeys_ite (obeys_settle (obeys_judge _ (obeys_countAnswer _ (obeys_endPoll h))))
    (obeys_noAnswer h))

theorem obeysNext_referralTimeout (l : LaneId) (h : s.obeys k) : obeysNext k (execReferralTimeout l s) := by
  refine obeysNext_whileRunning h ?_
  split
  · exact h
  · exact obeys_settle (obeys_settleIdle _ (obeys_applyMiss _ (obeys_leaveWait _ (obeys_reach _ h))))

theorem obeysNext_ruling (lane badge : Nat) (decision : Choice Decision) (fields : Option EnrolFields)
    (h : s.obeys k) : obeysNext k (execRuling lane badge decision fields s) := by
  refine obeysNext_whileRunning h ?_
  cases decision with
  | unlisted => exact obeys_refuse _ _ h
  | listed d =>
    refine obeys_ite (obeys_refuse _ _ h) (obeys_ite (obeys_refuse _ _ h) ?_)
    split
    · exact obeys_refuse _ _ h
    · exact obeys_carryRuling _ _ _ _ _ h

/-! ### Lanes (R69–R90) -/

theorem obeysNext_doorOpening (l : LaneId) (h : s.obeys k) : obeysNext k (execDoorOpening l s) :=
  have htaken := obeys_takeChange (.door l true) h
  obeysNext_whileRunning h (obeys_ite (obeys_settle (obeys_doorOpens _ htaken)) htaken)

theorem obeysNext_doorClosing (l : LaneId) (h : s.obeys k) : obeysNext k (execDoorClosing l s) :=
  have htaken := obeys_takeChange (.door l false) h
  obeysNext_whileRunning h (obeys_ite (obeys_settle (obeys_doorCloses _ htaken)) htaken)

theorem obeysNext_releaseExpiry (l : LaneId) (h : s.obeys k) : obeysNext k (execReleaseExpiry l s) := by
  refine obeysNext_whileRunning h ?_
  split
  · exact h
  · split
    · exact obeys_settle (obeys_releaseRunsOut _ _ (obeys_reach _ h))
    · exact h

theorem obeysNext_heldOpenExpiry (l : LaneId) (h : s.obeys k) : obeysNext k (execHeldOpenExpiry l s) := by
  refine obeysNext_whileRunning h ?_
  split
  · exact h
  · exact obeys_heldRunsOut _ (obeys_reach _ h)

theorem obeysNext_requestToExit (l : LaneId) (h : s.obeys k) : obeysNext k (execRequestToExit l s) :=
  have htaken := obeys_takeChange (.exitRequest l) h
  obeysNext_whileRunning h (obeys_ite htaken (obeys_settle (obeys_exitRequested _ htaken)))

theorem obeysNext_exitAllowanceExpiry (l : LaneId) (h : s.obeys k) : obeysNext k (execExitAllowanceExpiry l s) := by
  refine obeysNext_whileRunning h ?_
  dsimp only
  split
  · exact h
  · exact obeys_setLane _ _ (obeys_reach _ h)

theorem obeysNext_encoderChange (l : LaneId) (a b : Bool) (h : s.obeys k) :
    obeysNext k (execEncoderChange l a b s) :=
  have htaken := obeys_takeChange (.encoder l a b) h
  obeysNext_whileRunning h (obeys_ite (obeys_settle (obeys_encoderMoves _ _ _ htaken)) htaken)

theorem obeysNext_interlockWaitExpiry (l : LaneId) (h : s.obeys k) : obeysNext k (execInterlockWaitExpiry l s) := by
  refine obeysNext_whileRunning h ?_
  split
  · exact h
  · exact obeys_settle (obeys_look _ (obeys_endGrant _ _ (obeys_reach _ h)))

theorem obeysNext_deadTimeEnd (l : LaneId) (h : s.obeys k) : obeysNext k (execDeadTimeEnd l s) := by
  refine obeysNext_whileRunning h ?_
  dsimp only
  split
  · exact h
  · exact obeys_settle (obeys_look _ (obeys_setLane _ _ (obeys_reach _ h)))

theorem obeysNext_laneMode (lanes : LaneSet) (mode : Choice LaneMode) (h : s.obeys k) :
    obeysNext k (execLaneMode lanes mode s) := by
  refine obeysNext_whileRunning h ?_
  dsimp only
  split
  · exact obeys_refuse _ _ h
  · exact obeys_ite (obeys_refuse _ _ h) (obeys_answer _ _ _ (obeys_settle (obeys_askModes _ _ h)))

theorem obeysNext_laneRelease (lane : Nat) (dir : Choice Dir) (h : s.obeys k) :
    obeysNext k (execLaneRelease lane dir s) := by
  refine obeysNext_whileRunning h ?_
  cases dir with
  | unlisted => exact obeys_refuse _ _ h
  | listed d =>
    dsimp only
    split
    · exact obeys_ite (obeys_refuse _ _ h) (obeys_ite (obeys_refuse _ _ h) (obeys_releaseRemote _ _ _ h))
    · exact obeys_refuse _ _ h

theorem obeysNext_laneRead (lane : Nat) (h : s.obeys k) : obeysNext k (execLaneRead lane s) := by
  refine obeysNext_whileRunning h ?_
  split
  · exact obeys_answer _ _ _ h
  · exact obeys_refuse _ _ h

/-! ### Bells, inputs and output holds (R140–R165) -/

theorem obeysNext_bellRing (outputs : BellSet) (tone duration : Nat) (h : s.obeys k) :
    obeysNext k (execBellRing outputs tone duration s) :=
  obeysNext_whileRunning h (obeys_ite (obeys_refuse _ _ h)
    (obeys_answer _ _ _ (obeys_settle (obeys_requestRings _ _ _ h))))

theorem obeysNext_bellStop (outputs : BellSet) (h : s.obeys k) : obeysNext k (execBellStop outputs s) :=
  obeysNext_whileRunning h (obeys_answer _ _ _ (obeys_settle (obeys_foldl (fun _ b => obeys_stopRing _ b) _ h)))

theorem obeysNext_ringEnd (b : BellId) (h : s.obeys k) : obeysNext k (execRingEnd b s) := by
  refine obeysNext_whileRunning h ?_
  split
  · exact h
  · split
    · exact h
    · exact obeys_settle (obeys_endRing _ (obeys_reach _ h))

theorem obeysNext_cadencePhaseChange (b : BellId) (h : s.obeys k) : obeysNext k (execCadencePhaseChange b s) := by
  refine obeysNext_whileRunning h ?_
  split
  · exact h
  · split
    · exact h
    · exact obeys_settle (obeys_startRing _ _ (obeys_reach _ h))

theorem obeysNext_debounceSample (x : Sample) (h : s.obeys k) : obeysNext k (execDebounceSample x s) := by
  refine obeysNext_whileRunning h ?_
  cases x with
  | general levels => exact obeys_sampleGeneral _ h
  | contacts doors exits => exact obeys_sampleContacts _ _ h
  | encoders a b => exact obeys_sampleEncoders _ _ h

theorem obeysNext_watchFire (w : WatchId) (h : s.obeys k) : obeysNext k (execWatchFire w s) :=
  have htaken := obeys_takeChange (.watch w) h
  obeysNext_whileRunning h (obeys_ite (obeys_settle (obeys_fireWatch _ htaken)) htaken)

theorem obeysNext_outputHold (releases : LaneSet) (bells : BellSet) (hold : HoldRequest) (h : s.obeys k) :
    obeysNext k (execOutputHold releases bells hold s) :=
  obeysNext_whileRunning h (obeys_ite (obeys_refuse _ _ h)
    (obeys_answer _ _ _ (obeys_settle (obeys_writeHolds _ _ _ h))))

theorem obeysNext_egressEnd (h : s.obeys k) : obeysNext k (execEgressEnd s) := by
  refine obeysNext_whileRunning h (obeys_ite (obeys_refuse _ _ h) ?_)
  split
  · exact obeys_answer _ _ _ h
  · exact obeys_answer _ _ _ (obeys_systemEvent _ _ (obeys_settle (obeys_endEvacRings (obeys_endEvacuation h))))

/-! ### The rule banks (R169–R175) -/

theorem BankStore.setStandby_generation (x : BankStore) (b : Bank) : (x.setStandby b).generation = x.generation := by
  unfold BankStore.setStandby
  split <;> rfl

theorem obeysNext_loadBegin (kind : Choice LoadKind) (h : s.obeys k) : obeysNext k (execLoadBegin kind s) := by
  refine obeysNext_whileRunning h ?_
  cases kind with
  | unlisted => exact obeys_refuse _ _ h
  | listed x =>
    exact obeys_ite (obeys_refuse _ _ h)
      (obeys_answer _ _ _ (obeys_setBanks h (BankStore.setStandby_generation s.banks (s.loadStart x))))

theorem obeysNext_loadRows (table : Choice TableName) (first : Nat) (rows : List Row) (h : s.obeys k) :
    obeysNext k (execLoadRows table first rows s) := by
  refine obeysNext_whileRunning h ?_
  cases table with
  | unlisted => exact obeys_refuse _ _ h
  | listed x =>
    exact obeys_ite (obeys_refuse _ _ h) (obeys_ite (obeys_refuse _ _ h) (obeys_ite (obeys_refuse _ _ h)
      (obeys_ite (obeys_answer _ _ _ (obeys_setBanks h (BankStore.setStandby_generation _ _))) (obeys_refuse _ _ h))))

theorem obeysNext_loadEnd (h : s.obeys k) : obeysNext k (execLoadEnd s) := by
  refine obeysNext_whileRunning h (obeys_ite (obeys_refuse _ _ h) ?_)
  split
  · exact obeys_answer _ _ _ (obeys_setBanks h rfl)
  · exact obeys_answer _ _ _ (obeys_setBanks h rfl)

theorem obeysNext_bankSwitch (time : SwitchTime) (h : s.obeys k) : obeysNext k (execBankSwitch time s) := by
  refine obeysNext_whileRunning h (obeys_ite (obeys_refuse _ _ h) (obeys_ite (obeys_refuse _ _ h)
    (obeys_ite (obeys_refuse _ _ h) ?_)))
  split
  · exact obeys_answer _ _ _ (obeys_carryOutSwitch _ _ (obeys_keepOldBank _ h))
  · exact obeys_ite (obeys_refuse _ _ h) (obeys_answer _ _ _ (obeys_setBanks h rfl))

theorem obeysNext_tableRead (bank : Choice BankSelector) (table : Choice TableName) (first count : Nat)
    (h : s.obeys k) : obeysNext k (execTableRead bank table first count s) := by
  refine obeysNext_whileRunning h ?_
  dsimp only
  split
  · exact obeys_ite (obeys_answer _ _ _ h) (obeys_answer _ _ _ h)
  · exact obeys_answer _ _ _ h

/-! ### The Spool (R110, R182, R183) -/

theorem obeysNext_spoolTake (start count : Nat) (h : s.obeys k) : obeysNext k (execSpoolTake start count s) := by
  refine obeysNext_whileRunning h (obeys_ite (obeys_refuse _ _ h) ?_)
  split
  · exact obeys_answer _ _ _ h
  · exact obeys_answer _ _ _ h

theorem obeysNext_spoolClear (through : Nat) (h : s.obeys k) : obeysNext k (execSpoolClear through s) := by
  refine obeysNext_whileRunning h (obeys_ite (obeys_refuse _ _ h) ?_)
  split
  · exact obeys_answer _ _ _ h
  · exact obeys_answer _ _ _ (obeys_clearThrough _ h)

theorem obeysNext_moveWaitingTotals (h : s.obeys k) : obeysNext k (execMoveWaitingTotals s) :=
  obeysNext_whileRunning h (obeys_moveTotals (obeys_setRecords _ h))

/-! ### The plant link, setup and restart (R187–R193) -/

theorem obeysNext_status (h : s.obeys k) : obeysNext k (execStatus s) :=
  obeysNext_whileRunning h (obeys_answer _ _ _ h)

theorem obeysNext_setupWrite (x : SetupPart) (h : s.obeys k) : obeysNext k (execSetupWrite x s) := by
  refine obeysNext_whileRunning h ?_
  cases x with
  | general g => exact obeys_answer _ _ _ (obeys_writeGeneral _ h)
  | bells b =>
    dsimp only
    split
    · exact obeys_refuse _ _ h
    · exact obeys_answer _ _ _ (obeys_writeBells _ h)
  | lane index r =>
    refine obeys_ite (obeys_refuse _ _ h) ?_
    split
    · split
      · exact obeys_refuse _ _ h
      · exact obeys_answer _ _ _ (obeys_writeLane _ _ h)
    · exact obeys_refuse _ _ h
  | watch index r =>
    dsimp only
    split
    · exact obeys_refuse _ _ h
    · split
      · exact obeys_answer _ _ _ (obeys_writeWatch _ _ h)
      · exact obeys_refuse _ _ h
  | stations entries =>
    dsimp only
    split
    · exact obeys_refuse _ _ h
    · exact obeys_answer _ _ _ (obeys_setSetup _ h)

theorem obeysNext_setupRead (name : SetupName) (h : s.obeys k) : obeysNext k (execSetupRead name s) := by
  refine obeysNext_whileRunning h ?_
  cases name with
  | lane index =>
    dsimp only
    split
    · exact obeys_answer _ _ _ h
    · exact obeys_refuse _ _ h
  | watch index =>
    dsimp only
    split
    · exact obeys_answer _ _ _ h
    · exact obeys_refuse _ _ h
  | _ => exact obeys_answer _ _ _ h

theorem obeysNext_restart (h : s.obeys k) : obeysNext k (execRestart s) :=
  obeysNext_whileRunning h (obeys_setLink_sameBuffers (obeys_answer .restart .ok .none h) rfl rfl rfl)

theorem obeysNext_warmRestart (h : s.obeys k) : obeysNext k (execWarmRestart s) :=
  obeysNext_whileRunning h (obeys_ite h (obeys_warmRestart h))

theorem obeysNext_frameReceipt (bytes : List Byte) (h : s.obeys k) : obeysNext k (execFrameReceipt bytes s) := by
  refine obeysNext_whileRunning h ?_
  split
  · exact h
  · exact obeys_receiveBytes _ h
  · exact obeys_ite (obeys_receiveBytes _ (obeys_frameBad h)) (obeys_receiveBytes _ h)

theorem obeysNext_receiveTimeout (h : s.obeys k) : obeysNext k (execReceiveTimeout s) := by
  refine obeysNext_whileRunning h ?_
  split
  · exact h
  · exact obeys_frameBad (obeys_reach _ h)

theorem obeysNext_frameLengthBad (length : Nat) (h : s.obeys k) : obeysNext k (execFrameLengthBad length s) :=
  obeysNext_whileRunning h (obeys_ite (obeys_frameBad h) h)

theorem obeysNext_frameDispatch (h : s.obeys k) : obeysNext k (execFrameDispatch s) := by
  refine obeysNext_whileRunning h ?_
  split
  · exact h
  · next f rest hreceived =>
    split
    · next hready => exact obeys_dispatch hreceived hready h
    · exact h

theorem obeysNext_frameSent (h : s.obeys k) : obeysNext k (execFrameSent s) := by
  refine obeysNext_whileRunning h ?_
  dsimp only
  split
  · exact h
  · next x rest htransmit =>
    exact obeys_setLink h fun hl => Link.inBounds_of_sublist hl (List.Sublist.refl _)
      (htransmit ▸ List.sublist_cons_self x rest) id

theorem obeysNext_silenceTimeout (h : s.obeys k) : obeysNext k (execSilenceTimeout s) := by
  refine obeysNext_whileRunning h ?_
  dsimp only
  split
  · exact h
  · exact obeys_setLink (obeys_reach _ h) fun hl =>
      Link.inBounds_of_sublist hl (List.Sublist.refl _) List.filter_sublist id

/-! ### Supply (R194–R196) -/

theorem obeys_reset (k : Law) : State.reset.obeys k := by
  cases k with
  | spool => exact ⟨by decide, trivial⟩
  | verdicts => exact List.nodup_nil
  | link => exact ⟨by decide, by decide, by decide⟩
  | ranges =>
    have hregisters : State.reset.time.inRange := ⟨by decide, by decide⟩
    exact ⟨hregisters.1, hregisters.2, Nat.zero_le _, le_refl 1, by decide⟩

theorem obeys_goneDark : s.goneDark.obeys k := obeys_setPending _ (obeys_setSupply _ (obeys_reset k))

theorem obeys_powerUp : s.powerUp.obeys k := obeys_setPending _ (obeys_reset k)

theorem obeysNext_supplyHold (h : s.obeys k) : obeysNext k (execSupplyHold s) :=
  obeysNext_next (obeys_ite (obeys_ite (obeys_enterHold h) obeys_goneDark) h)

theorem obeysNext_supplyReturn (h : s.obeys k) : obeysNext k (execSupplyReturn s) := by
  refine obeysNext_next ?_
  split
  · exact h
  · exact obeys_leaveHold h
  · exact obeys_powerUp

theorem obeysNext_backupLoss (h : s.obeys k) : obeysNext k (execBackupLoss s) := by
  refine obeysNext_next ?_
  split
  · exact obeys_setSupply _ h
  · exact obeys_goneDark
  · exact h

theorem obeysNext_powerOn : obeysNext k (execPowerOn s) := obeysNext_next obeys_powerUp

/-! ### Every command and every step -/

/-- Every command keeps every one of these laws. -/
theorem obeysNext_exec (c : Instr) (h : s.obeys k) : obeysNext k (exec c s) := by
  cases c with
  | clockSet => exact obeysNext_clockSet _ _ _ h
  | clockSlew => exact obeysNext_clockSlew _ h
  | clockTrim => exact obeysNext_clockTrim _ h
  | clockRead => exact obeysNext_clockRead h
  | secondEnd => exact obeysNext_secondEnd h
  | secondBoundary => exact obeysNext_secondBoundary _ h
  | deadlineExpiry => exact obeysNext_deadlineExpiry h
  | stepNotice => exact obeysNext_stepNotice _ h
  | resumptionNotice => exact obeysNext_resumptionNotice _ h
  | pendingSwitchDue => exact obeysNext_pendingSwitchDue h
  | rosterEnrol => exact obeysNext_rosterEnrol _ _ _ _ h
  | rosterAmend => exact obeysNext_rosterAmend _ _ _ _ _ h
  | rosterWithdraw => exact obeysNext_rosterWithdraw _ _ h
  | rosterRead => exact obeysNext_rosterRead _ h
  | rosterPurge => exact obeysNext_rosterPurge _ h
  | presenceSet => exact obeysNext_presenceSet _ _ h
  | presenceClear => exact obeysNext_presenceClear h
  | poll => exact obeysNext_poll h
  | pollTimeout => exact obeysNext_pollTimeout h
  | idle => exact obeysNext_idle _ h
  | garbledAnswer => exact obeysNext_garbledAnswer h
  | strayCharacters => exact obeysNext_strayCharacters h
  | punch => exact obeysNext_punch _ _ _ h
  | referralTimeout => exact obeysNext_referralTimeout _ h
  | ruling => exact obeysNext_ruling _ _ _ _ h
  | doorOpening => exact obeysNext_doorOpening _ h
  | doorClosing => exact obeysNext_doorClosing _ h
  | releaseExpiry => exact obeysNext_releaseExpiry _ h
  | heldOpenExpiry => exact obeysNext_heldOpenExpiry _ h
  | requestToExit => exact obeysNext_requestToExit _ h
  | exitAllowanceExpiry => exact obeysNext_exitAllowanceExpiry _ h
  | encoderChange => exact obeysNext_encoderChange _ _ _ h
  | interlockWaitExpiry => exact obeysNext_interlockWaitExpiry _ h
  | deadTimeEnd => exact obeysNext_deadTimeEnd _ h
  | laneMode => exact obeysNext_laneMode _ _ h
  | laneRelease => exact obeysNext_laneRelease _ _ h
  | laneRead => exact obeysNext_laneRead _ h
  | bellRing => exact obeysNext_bellRing _ _ _ h
  | bellStop => exact obeysNext_bellStop _ h
  | ringEnd => exact obeysNext_ringEnd _ h
  | cadencePhaseChange => exact obeysNext_cadencePhaseChange _ h
  | debounceSample => exact obeysNext_debounceSample _ h
  | watchFire => exact obeysNext_watchFire _ h
  | outputHold => exact obeysNext_outputHold _ _ _ h
  | egressEnd => exact obeysNext_egressEnd h
  | loadBegin => exact obeysNext_loadBegin _ h
  | loadRows => exact obeysNext_loadRows _ _ _ h
  | loadEnd => exact obeysNext_loadEnd h
  | bankSwitch => exact obeysNext_bankSwitch _ h
  | tableRead => exact obeysNext_tableRead _ _ _ _ h
  | spoolTake => exact obeysNext_spoolTake _ _ h
  | spoolClear => exact obeysNext_spoolClear _ h
  | moveWaitingTotals => exact obeysNext_moveWaitingTotals h
  | status => exact obeysNext_status h
  | setupWrite => exact obeysNext_setupWrite _ h
  | setupRead => exact obeysNext_setupRead _ h
  | restart => exact obeysNext_restart h
  | warmRestart => exact obeysNext_warmRestart h
  | frameReceipt => exact obeysNext_frameReceipt _ h
  | receiveTimeout => exact obeysNext_receiveTimeout h
  | frameDispatch => exact obeysNext_frameDispatch h
  | frameSent => exact obeysNext_frameSent h
  | silenceTimeout => exact obeysNext_silenceTimeout h
  | supplyHold => exact obeysNext_supplyHold h
  | supplyReturn => exact obeysNext_supplyReturn h
  | backupLoss => exact obeysNext_backupLoss h
  | powerOn => exact obeysNext_powerOn
  | frameLengthBad => exact obeysNext_frameLengthBad _ h

theorem obeysNext_idleStep (h : s.obeys k) : obeysNext k s.idleStep := by
  unfold State.idleStep
  split
  · exact obeysNext_exec _ h
  · exact obeysNext_next (obeys_ite h (obeys_passPeriods _ h))

/-- Every step keeps every one of these laws. -/
theorem obeysNext_step (h : s.obeys k) : obeysNext k (step s) := by
  unfold step
  split
  · exact obeysNext_idleStep h
  · exact obeysNext_exec _ (obeys_setPending _ h)

end

/-- Settles O5: the laws are kept by every operation of the model, hence by every command. -/
theorem stepKeepsQueuesAndRanges : Obligations.StepKeepsQueuesAndRanges :=
  ⟨⟨fun _ t h ht => obeysNext_step (k := .spool) h t ht, fun _ t h ht => obeysNext_step (k := .verdicts) h t ht,
    fun _ t h ht => obeysNext_step (k := .link) h t ht⟩,
    fun _ t htime helapsed hgeneration hepoch ht =>
      obeysNext_step (k := .ranges) ⟨htime, helapsed, hgeneration, hepoch⟩ t ht⟩

end Sys2Proof.Machine
end

section
/-! ## The orders of the clock, and the orders that read (R12–R15, R90, R175, R191, R192) -/
namespace Sys2Proof.Machine

theorem whileRunning_of_run {s : State} {act : State → State} (h : s.supply.state = .run) :
    whileRunning s act = .next (act s) := if_pos h

theorem unchangedBut.same {L : List Block} {s t : State} {b : Block} (h : unchangedBut L s t) (hb : b ∉ L) :
    b.same s t := (h.2 b).resolve_left hb

/-! ### Entries requested (R180) -/

section
variable {s t u : State}

/-- What the Spool and the link become by a request turns on what they were, and on nothing else. -/
theorem entered_requestEntry (e : Entry) (hspool : t.spool = s.spool) (hlink : t.link = s.link) :
    entered e s (t.requestEntry e) := by
  have hcopy : ∀ {v w : State} (seq : Option Nat), w.spool = v.spool → w.link = v.link →
      (w.copyAlarm e seq).spool = (v.copyAlarm e seq).spool ∧ (w.copyAlarm e seq).link = (v.copyAlarm e seq).link := by
    intro v w seq hv hw
    have hreport : ∀ r, (w.sendReport r).spool = (v.sendReport r).spool ∧ (w.sendReport r).link = (v.sendReport r).link := by
      intro r
      unfold State.sendReport
      rw [hw]
      split_ifs <;> exact ⟨hv, by simp [hw]⟩
    cases e with
    | laneAlarm => exact hreport _
    | system => exact hreport _
    | _ => exact ⟨hv, hw⟩
  unfold entered State.requestEntry
  rw [hspool]
  split
  · exact hcopy _ (by simp [State.appendEntry, hspool]) hlink
  · exact hcopy _ (by simp) hlink

/-- What follows a request leaves it as requested where it touches neither the Spool nor the link. -/
theorem entered.of_same {e : Entry} (h : entered e s t) (hspool : u.spool = t.spool) (hlink : u.link = t.link) :
    entered e s u := ⟨hspool.trans h.1, hlink.trans h.2⟩

/-- The same request starts from any state with the same Spool and link. -/
theorem entered.from_same {e : Entry} (h : entered e t u) (hspool : t.spool = s.spool) (hlink : t.link = s.link) :
    entered e s u :=
  have hrequest := entered_requestEntry e hspool hlink
  ⟨h.1.trans hrequest.1, h.2.trans hrequest.2⟩

theorem requestEntry_frame (s : State) (e : Entry) : unchangedBut entryBlocks s (s.requestEntry e) :=
  frame_requestEntry e (.refl _ _) (by decide) (by decide)

theorem requestEntry_time (s : State) (e : Entry) : (s.requestEntry e).time = s.time :=
  (requestEntry_frame s e).same (b := .time) (by decide)

theorem requestEntry_notices (s : State) (e : Entry) : (s.requestEntry e).notices = s.notices :=
  (requestEntry_frame s e).same (b := .notices) (by decide)

end

/-! ### CLOCK SET (R8, R12) -/

section
variable (s : State) (o : Option Stamp) (new : Stamp)

theorem giveStep_frame : unchangedBut [.notices] s (s.giveStep o new) :=
  frame_giveStep o new (.refl _ _) (by decide)

theorem giveStep_notices_of_moved {o new : Stamp} (h : o ≠ new) : (s.giveStep (some o) new).notices =
    { s.notices with
      recordUnit := s.notices.recordUnit ++ [.step o new]
      scheduleUnit := s.notices.scheduleUnit ++ [.step o new]
      bankStore := s.notices.bankStore ++ [.step o new] } := by
  simp [State.giveStep, h, State.giveNotice]

theorem giveStep_of_same (h : o = none ∨ o = some new) : s.giveStep o new = s := by
  rcases h with rfl | rfl
  · rfl
  · exact if_pos rfl

end

/-- The length of a second that begins with no slew remainder (R1). -/
theorem secondLength_zero (trim : Int) (second : Nat) :
    secondLength 0 trim second = (32768 - (if second % 60 = 59 then trim else 0)).toNat := by
  simp [secondLength]

/-- The state CLOCK SET leaves, its reply apart (R12). -/
def clockSetTo (s : State) (day second offset : Nat) : State :=
  ((s.setTime (s.time.setClock day second offset)).systemEvent (some (absSecond day second))
    (.clockSet s.now offset (stepKind s.now (absSecond day second)))).giveStep s.now (absSecond day second)

theorem exec_clockSet {s : State} {day second offset : Nat} (hrun : s.supply.state = .run) :
    exec (.clockSet day second offset) s = .next (if 65535 < day ∨ 86399 < second ∨ 6 < offset
      then s.refuse (.clockSet day second offset) .outOfRange
      else (clockSetTo s day second offset).answer (.clockSet day second offset) .ok .none) := by
  change execClockSet day second offset s = _
  exact whileRunning_of_run hrun

section
variable (s : State) (day second offset : Nat)

theorem clockSetTo_frame : unchangedBut [.time, .notices, .spool, .link] s (clockSetTo s day second offset) :=
  frame_giveStep _ _ (frame_systemEvent _ _ (frame_setTime _ (.refl _ _) (by decide)) (by decide) (by decide)) (by decide)

theorem clockSetTo_time : (clockSetTo s day second offset).time = s.time.setClock day second offset :=
  ((giveStep_frame _ _ _).same (b := .time) (by decide)).trans (requestEntry_time _ _)

theorem clockSetTo_entered : entered (.system (some (absSecond day second))
    (.clockSet s.now offset (stepKind s.now (absSecond day second)))) s (clockSetTo s day second offset) := by
  have hstep := giveStep_frame ((s.setTime (s.time.setClock day second offset)).systemEvent (some (absSecond day second))
    (.clockSet s.now offset (stepKind s.now (absSecond day second)))) s.now (absSecond day second)
  exact (entered_requestEntry (s := s) (t := s.setTime (s.time.setClock day second offset)) _ rfl rfl).of_same
    (hstep.same (b := .spool) (by decide))
    (hstep.same (b := .link) (by decide))

theorem clockSetTo_notices_of_moved {o : Stamp} (ho : s.now = some o) (hne : o ≠ absSecond day second) :
    (clockSetTo s day second offset).notices = { s.notices with
      recordUnit := s.notices.recordUnit ++ [.step o (absSecond day second)]
      scheduleUnit := s.notices.scheduleUnit ++ [.step o (absSecond day second)]
      bankStore := s.notices.bankStore ++ [.step o (absSecond day second)] } := by
  unfold clockSetTo
  rw [ho, giveStep_notices_of_moved _ hne, State.systemEvent, requestEntry_notices]
  rfl

theorem clockSetTo_notices_of_same (h : s.now = none ∨ s.now = some (absSecond day second)) :
    (clockSetTo s day second offset).notices = s.notices := by
  unfold clockSetTo
  rw [giveStep_of_same _ _ _ h]
  exact requestEntry_notices _ _

end

/-- Settles O18: the refusal and the clock written by the order's two branches, each part read off the state it leaves. -/
theorem clockSetWritesTheClock : Obligations.ClockSetWritesTheClock := by
  intro s day second offset hrun
  refine ⟨fun hout => ?_, fun hday hsecond hoffset => ⟨clockSetTo s day second offset, ?_, clockSetTo_frame .., ?_,
    ?_, fun o => clockSetTo_notices_of_moved s day second offset,
    clockSetTo_notices_of_same s day second offset⟩⟩
  · rw [exec_clockSet hrun, if_pos hout]
  · rw [exec_clockSet hrun, if_neg (by omega)]
  · rw [clockSetTo_time, ← secondLength_zero]
    rfl
  · have hentered := clockSetTo_entered s day second offset
    cases hnow : s.now with
    | none => rwa [hnow] at hentered
    | some o => rwa [hnow] at hentered

/-! ### CLOCK TRIM and CLOCK SLEW (R13, R14) -/

/-- Settles O19: each refusal and the change by its own branch of the order. -/
theorem clockTrimAndSlewReplaceTheirValues : Obligations.ClockTrimAndSlewReplaceTheirValues := by
  refine ⟨fun s trim hrun => ?_, fun s seconds hrun => ?_⟩
  · have hexec : exec (.clockTrim trim) s = .next (if trim < -255 ∨ 255 < trim then s.refuse (.clockTrim trim) .outOfRange
        else if s.time.valid = false then s.refuse (.clockTrim trim) .clockInvalid
        else (s.setTime { s.time with trim := trim }).answer (.clockTrim trim) .ok .none) := by
      change execClockTrim trim s = _
      exact whileRunning_of_run hrun
    refine ⟨fun hout => ?_, fun hlow hhigh hinvalid => ?_, fun hlow hhigh hvalid => ?_⟩
    · rw [hexec, if_pos hout]
    · rw [hexec, if_neg (by omega), if_pos hinvalid]
    · rw [hexec, if_neg (by omega), if_neg (by simp [hvalid])]
  · have hexec : exec (.clockSlew seconds) s = .next (if seconds < -3600 ∨ 3600 < seconds
        then s.refuse (.clockSlew seconds) .outOfRange
        else if s.time.valid = false then s.refuse (.clockSlew seconds) .clockInvalid
        else (s.setTime { s.time with slew := 64 * seconds, slewing := false }).answer (.clockSlew seconds) .ok .none) := by
      change execClockSlew seconds s = _
      exact whileRunning_of_run hrun
    refine ⟨fun hout => ?_, fun hlow hhigh hinvalid => ?_, fun hlow hhigh hvalid => ?_⟩
    · rw [hexec, if_pos hout]
    · rw [hexec, if_neg (by omega), if_pos hinvalid]
    · rw [hexec, if_neg (by omega), if_neg (by simp [hvalid])]

/-! ### The orders that read (R15, R90, R175, R191, R192) -/

section
variable {s : State} (hrun : s.supply.state = .run)
include hrun

theorem exec_clockRead (hsecond : s.time.second ≤ 86399) :
    exec .clockRead s = .next (s.answer .clockRead .ok (.clock
      { valid := s.time.valid, day := s.time.day, second := s.time.second, weekdayOffset := s.time.weekdayOffset
        dayType := if s.time.valid = true then some (dayType s.activeBank s.time.weekdayOffset s.time.day) else none
        weekIndex := if s.time.valid = true then some (s.weekOf (s.time.day * 86400 + s.time.second)) else none
        trim := s.time.trim, slew := s.time.slew, stepCount := s.time.stepCount, holdCount := s.time.holdCount
        elapsed := s.time.elapsed })) := by
  have hday : dayOf (absSecond s.time.day s.time.second) = s.time.day := by
    unfold dayOf absSecond
    omega
  have hnow : ∀ {α : Type} (f : Stamp → α), s.now.map f =
      if s.time.valid = true then some (f (absSecond s.time.day s.time.second)) else none := fun f => by
    unfold State.now
    split <;> rfl
  change whileRunning s (fun s => s.answer .clockRead .ok (.clock s.clockReport)) = _
  rw [whileRunning_of_run hrun]
  unfold State.clockReport
  simp only [hnow, hday]
  rfl

theorem exec_laneRead (l : LaneId) :
    exec (.laneRead l.val) s = .next (s.answer (.laneRead l.val) .ok (.lane (s.laneReport l))) := by
  change execLaneRead l.val s = _
  exact (whileRunning_of_run hrun).trans (congrArg _ (dif_pos l.isLt))

theorem exec_laneRead_beyond {n : Nat} (hn : 7 < n) : exec (.laneRead n) s = .next (s.refuse (.laneRead n) .outOfRange) := by
  change execLaneRead n s = _
  exact (whileRunning_of_run hrun).trans (congrArg _ (dif_neg (by omega)))

theorem exec_status : exec .status s = .next (s.answer .status .ok (.status s.statusReport)) := by
  change execStatus s = _
  exact whileRunning_of_run hrun

theorem exec_setupRead_general :
    exec (.setupRead .general) s = .next (s.answer (.setupRead .general) .ok (.setup false (.general s.setup.general))) := by
  change execSetupRead .general s = _
  exact whileRunning_of_run hrun

theorem exec_setupRead_bells :
    exec (.setupRead .bells) s = .next (s.answer (.setupRead .bells) .ok (.setup false (.bells s.setup.bells))) := by
  change execSetupRead .bells s = _
  exact whileRunning_of_run hrun

theorem exec_setupRead_stations : exec (.setupRead .stations) s =
    .next (s.answer (.setupRead .stations) .ok (.setup false (.stations s.setup.stations))) := by
  change execSetupRead .stations s = _
  exact whileRunning_of_run hrun

theorem exec_setupRead_lane (l : LaneId) : exec (.setupRead (.lane l.val)) s = .next (s.answer (.setupRead (.lane l.val))
    .ok (.setup (s.lane l).pendingSetup.isSome (.lane (s.lane l).setup (s.lane l).pendingSetup))) := by
  change execSetupRead (.lane l.val) s = _
  exact (whileRunning_of_run hrun).trans (congrArg _ (dif_pos l.isLt))

theorem exec_setupRead_lane_beyond {n : Nat} (hn : 7 < n) :
    exec (.setupRead (.lane n)) s = .next (s.refuse (.setupRead (.lane n)) .outOfRange) := by
  change execSetupRead (.lane n) s = _
  exact (whileRunning_of_run hrun).trans (congrArg _ (dif_neg (by omega)))

theorem exec_setupRead_watch (w : WatchId) : exec (.setupRead (.watch w.val)) s =
    .next (s.answer (.setupRead (.watch w.val)) .ok
      (.setup false (.watch (s.watch w) s.inputs.equal[w] s.inputs.captures[w]))) := by
  change execSetupRead (.watch w.val) s = _
  exact (whileRunning_of_run hrun).trans (congrArg _ (dif_pos w.isLt))

theorem exec_setupRead_watch_beyond {n : Nat} (hn : 3 < n) :
    exec (.setupRead (.watch n)) s = .next (s.refuse (.setupRead (.watch n)) .outOfRange) := by
  change execSetupRead (.watch n) s = _
  exact (whileRunning_of_run hrun).trans (congrArg _ (dif_neg (by omega)))

theorem exec_tableRead (bank : BankSelector) (table : TableName) (first count : Nat) :
    exec (.tableRead (.listed bank) (.listed table) first count) s =
      .next (if tableSize table ≤ first ∨ count < 1 ∨ 16 < count
        then s.answerRows (.tableRead (.listed bank) (.listed table) first count) .outOfRange []
        else s.answerRows (.tableRead (.listed bank) (.listed table) first count) .ok
          ((s.selectBank bank).readRows table first count)) := by
  change execTableRead (.listed bank) (.listed table) first count s = _
  exact whileRunning_of_run hrun

theorem exec_tableRead_unlisted {bank : Choice BankSelector} {table : Choice TableName} (first count : Nat)
    (h : bank.isListed = false ∨ table.isListed = false) :
    exec (.tableRead bank table first count) s = .next (s.answerRows (.tableRead bank table first count) .badOrder []) := by
  change execTableRead bank table first count s = _
  refine (whileRunning_of_run hrun).trans ?_
  cases bank with
  | unlisted => rfl
  | listed b =>
    cases table with
    | unlisted => rfl
    | listed t => rcases h with h | h <;> cases h

end

theorem Bank.readRows_length (b : Bank) (table : TableName) (first count : Nat) :
    (b.readRows table first count).length = min count (tableSize table - first) := by
  simp [Bank.readRows]

theorem Bank.readRows_getElem (b : Bank) (table : TableName) (first count i : Nat)
    (h : i < (b.readRows table first count).length) :
    (b.readRows table first count)[i] = b.row table (first + i) := by
  simp [Bank.readRows]

theorem remainingOf_waiting (s : State) {g : Grant} (h : g.phase = .waiting) :
    s.remainingOf g = some (g.waitExpiry - s.time.elapsed) := by
  unfold State.remainingOf
  rw [h]
  rfl

theorem remainingOf_released (s : State) {g : Grant} {t : Elapsed} (h : g.phase = .released)
    (ht : g.releaseExpiry = some t) : s.remainingOf g = some (t - s.time.elapsed) := by
  unfold State.remainingOf
  rw [h, ht]
  rfl

/-- Settles O60: each order by its own equation. -/
theorem readingOrdersOnlyReply : Obligations.ReadingOrdersOnlyReply := by
  refine ⟨fun s hrun => exec_clockRead hrun, fun s n hrun => exec_laneRead_beyond hrun, fun s l hrun => ?_,
    fun s hrun => exec_status hrun, fun s hrun => ?_, fun s bank table first count hrun => ?_⟩
  · refine ⟨s.laneReport l, exec_laneRead hrun l, rfl, rfl, rfl, rfl, rfl, rfl, rfl, rfl, rfl, rfl, rfl, rfl, rfl, rfl,
      rfl, ?_, ?_, ?_⟩
    · intro t ht
      exact congrArg (Option.map _) ht
    · intro g hg hphase
      exact (congrArg (Option.bind · s.remainingOf) hg).trans (remainingOf_waiting s hphase)
    · intro g t hg hphase ht
      exact (congrArg (Option.bind · s.remainingOf) hg).trans (remainingOf_released s hphase ht)
  · exact ⟨exec_setupRead_general hrun, exec_setupRead_bells hrun, exec_setupRead_stations hrun,
      exec_setupRead_lane hrun, exec_setupRead_watch hrun, fun _ => exec_setupRead_lane_beyond hrun,
      fun _ => exec_setupRead_watch_beyond hrun⟩
  · have hexec := exec_tableRead hrun bank table first count
    refine ⟨fun hout => ?_, fun hfirst hlow hhigh => ?_, fun b t h => exec_tableRead_unlisted hrun first count h⟩
    · rw [hexec, if_pos hout]
      rfl
    · refine ⟨(s.selectBank bank).readRows table first count, ?_, Bank.readRows_length .., fun i h => ?_⟩
      · rw [hexec, if_neg (by omega)]
        rfl
      · cases bank <;> exact Bank.readRows_getElem _ table first count i h

end Sys2Proof.Machine
end

section
/-! ## Plant time and elapsed time (R1–R9) -/
namespace Sys2Proof.Machine

/-! ### Crystal periods counted (R1, R4; log entry 9) -/

/-- The clock with elapsed time at `e` and `p` of its fraction. -/
def TimeBase.elapsedTo (x : TimeBase) (e : Elapsed) (p : Nat) : TimeBase := { x with elapsed := e, phase := p }

/-- Elapsed time advances by `n` crystal periods (R4). -/
def TimeBase.elapse (x : TimeBase) (n : Nat) : TimeBase :=
  x.elapsedTo (min elapsedTop ((x.elapsed * 32768 + x.phase + 1000 * n) / 32768))
    ((x.elapsed * 32768 + x.phase + 1000 * n) % 32768)

theorem passPeriods_eq (s : State) (n : Nat) :
    s.passPeriods n = State.countPeriods (n / 32001 + 2) (s.setTime (s.time.elapse n)) n := rfl

section
variable {s : State} {n k : Nat}

theorem countPeriods_of_invalid (h : s.time.valid = false) : State.countPeriods (k + 1) s n = s := by
  unfold State.countPeriods
  rw [if_pos h]

theorem countPeriods_within (h : s.time.valid = true) (hn : n ≤ s.time.length - s.time.prescaler) :
    State.countPeriods (k + 1) s n = s.setTime { s.time with prescaler := s.time.prescaler + n } := by
  unfold State.countPeriods
  rw [if_neg (by simp [h]), if_pos hn]

theorem countPeriods_past (h : s.time.valid = true) (hn : s.time.length - s.time.prescaler < n) :
    State.countPeriods (k + 1) s n = State.countPeriods k s.endSecond (n - (s.time.length - s.time.prescaler)) := by
  conv_lhs => unfold State.countPeriods
  rw [if_neg (by simp [h]), if_neg (by omega)]

theorem countPeriods_elapsedTo_within (e : Elapsed) (p : Nat) (h : s.time.valid = true)
    (hn : n ≤ s.time.length - s.time.prescaler) :
    State.countPeriods (k + 1) (s.setTime (s.time.elapsedTo e p)) n =
      s.setTime { s.time.elapsedTo e p with prescaler := s.time.prescaler + n } :=
  countPeriods_within (s := s.setTime (s.time.elapsedTo e p)) h hn

theorem countPeriods_elapsedTo_past (e : Elapsed) (p : Nat) (h : s.time.valid = true)
    (hn : s.time.length - s.time.prescaler < n) :
    State.countPeriods (k + 1) (s.setTime (s.time.elapsedTo e p)) n =
      State.countPeriods k (s.setTime (s.time.elapsedTo e p)).endSecond (n - (s.time.length - s.time.prescaler)) :=
  countPeriods_past (s := s.setTime (s.time.elapsedTo e p)) h hn

theorem countPeriods_elapsedTo_of_invalid (e : Elapsed) (p : Nat) (h : s.time.valid = false) :
    State.countPeriods (k + 1) (s.setTime (s.time.elapsedTo e p)) n = s.setTime (s.time.elapsedTo e p) :=
  countPeriods_of_invalid (s := s.setTime (s.time.elapsedTo e p)) h

theorem passPeriods_within (h : s.time.valid = true) (hn : n ≤ s.time.length - s.time.prescaler) :
    s.passPeriods n = s.setTime { s.time.elapse n with prescaler := s.time.prescaler + n } :=
  countPeriods_elapsedTo_within _ _ h hn

theorem elapsed_carry {e p top : Nat} (hp : p < 32768) (htop : e < top) :
    min top ((e * 32768 + p + 1000 * 1) / 32768) * 32768 + (e * 32768 + p + 1000 * 1) % 32768 = e * 32768 + p + 1000 := by
  have hle : (e * 32768 + p + 1000 * 1) / 32768 ≤ top := by omega
  rw [Nat.min_eq_right hle]
  omega

end

/-! ### A step with no command waiting (log entry 1) -/

section
variable {s : State}

theorem step_of_empty (h : s.pending = []) : step s = s.idleStep := by
  unfold step
  rw [h]

/-- With no event due the current second of a VALID clock lacks a period still. -/
theorem prescaler_lt_length_of_none_due (h : s.dueEvent = none) (hdark : s.supply.state ≠ .dark)
    (hvalid : s.time.valid = true) : s.time.prescaler < s.time.length := by
  have hsecond : s.secondEvent = none := by
    unfold State.dueEvent at h
    split at h
    · exact List.findSome?_eq_none_iff.1 h s.secondEvent (by simp only [List.mem_cons, true_or, or_true])
    · exact h
    · contradiction
  by_contra hlong
  rw [State.secondEvent, if_pos ⟨hvalid, Nat.le_of_not_lt hlong⟩] at hsecond
  cases hsecond

/-- With no event due one crystal period passes, and ends no second. -/
theorem passPeriods_one (h : s.dueEvent = none) (hdark : s.supply.state ≠ .dark) (hlaw : s.elapsedLaw)
    (htop : s.time.elapsed < elapsedTop) :
    ∃ e p, e * 32768 + p = s.time.elapsed * 32768 + s.time.phase + 1000 ∧ p < 32768 ∧
      s.passPeriods 1 = s.setTime { s.time with
        elapsed := e, phase := p, prescaler := if s.time.valid then s.time.prescaler + 1 else s.time.prescaler } := by
  have hcarry := elapsed_carry hlaw.2 htop
  have hfraction := Nat.mod_lt (s.time.elapsed * 32768 + s.time.phase + 1000 * 1) (by decide : 0 < 32768)
  rw [passPeriods_eq, TimeBase.elapse]
  generalize min elapsedTop _ = e at *
  generalize _ % 32768 = p at *
  refine ⟨e, p, hcarry, hfraction, ?_⟩
  by_cases hvalid : s.time.valid = true
  · have := prescaler_lt_length_of_none_due h hdark hvalid
    rw [if_pos hvalid]
    exact countPeriods_elapsedTo_within e p hvalid (by omega)
  · rw [if_neg hvalid]
    exact countPeriods_elapsedTo_of_invalid e p (by simpa using hvalid)

end

/-- Settles O2: with nothing due the second in progress lacks a period still, so that the one that passes ends none. -/
theorem emptyQueueStep : Obligations.EmptyQueueStep := by
  refine ⟨fun c s hempty hdue => ?_, fun s hempty hdue hdark hlaw htop => ?_⟩
  · rw [step_of_empty hempty, State.idleStep, hdue]
  · obtain ⟨e, p, hsum, hphase, hpass⟩ := passPeriods_one hdue hdark hlaw htop
    refine ⟨s.passPeriods 1, ?_, ?_⟩
    · rw [step_of_empty hempty, State.idleStep, hdue]
      exact congrArg _ (if_neg hdark)
    · rw [hpass]
      exact ⟨frame_setTime _ (.refl _ _) (by decide), hsum, hphase, rfl⟩

/-! ### The end of a second (R1, R3, R5, R7, R9) -/

/-- The length of a second by the signs of the slew remainder and the trim, which keeps it within 32,001 and 33,535 periods
(R1). -/
theorem secondLength_bounds {trim : Int} (slew : Int) (second : Nat) (hlow : -255 ≤ trim) (hhigh : trim ≤ 255) :
    (secondLength slew trim second : Int) = 32768 - (if 0 < slew then 512 else if slew < 0 then -512 else 0) -
      (if second % 60 = 59 then trim else 0) ∧
    32001 ≤ secondLength slew trim second ∧ secondLength slew trim second ≤ 33535 := by
  unfold secondLength
  split_ifs <;> omega

theorem TimeBase.advance_stamp {x : TimeBase} (h : x.second ≤ 86399) :
    x.advance.day * 86400 + x.advance.second = x.day * 86400 + x.second + 1 ∧ x.advance.second ≤ 86399 := by
  dsimp only [TimeBase.advance, nextSecond]
  split <;> dsimp only <;> omega

section
variable {s : State}

theorem endSecond_of_run (hrun : s.supply.state = .run) (hlast : ¬ (s.time.day = 65535 ∧ s.time.second = 86399)) :
    s.endSecond = (s.setTime s.time.advance).giveNotice
      (.boundary (s.time.advance.day * 86400 + s.time.advance.second)) := by
  unfold State.endSecond
  rw [if_neg hlast]
  exact if_pos hrun

theorem endSecond_outside_run (hrun : s.supply.state ≠ .run) (hlast : ¬ (s.time.day = 65535 ∧ s.time.second = 86399)) :
    s.endSecond = s.setTime s.time.advance := by
  unfold State.endSecond
  rw [if_neg hlast]
  exact if_neg hrun

theorem endSecond_of_last (hlast : s.time.day = 65535 ∧ s.time.second = 86399) : s.endSecond = s.endOfRange := if_pos hlast

theorem endSecond_time (hlast : ¬ (s.time.day = 65535 ∧ s.time.second = 86399)) : s.endSecond.time = s.time.advance := by
  by_cases hrun : s.supply.state = .run
  · rw [endSecond_of_run hrun hlast]
    rfl
  · rw [endSecond_outside_run hrun hlast]
    rfl

theorem endSecond_frame (hlast : ¬ (s.time.day = 65535 ∧ s.time.second = 86399)) :
    unchangedBut [.time, .notices] s s.endSecond := by
  by_cases hrun : s.supply.state = .run
  · rw [endSecond_of_run hrun hlast]
    exact frame_giveNotice _ (frame_setTime _ (.refl _ _) (by decide)) (by decide)
  · rw [endSecond_outside_run hrun hlast]
    exact frame_setTime _ (.refl _ _) (by decide)

/-- Outside a supply hold the boundary of the second begun is given to the three receiving blocks (R7). -/
theorem endSecond_notices_of_run (hsecond : s.time.second ≤ 86399) (hrun : s.supply.state = .run)
    (hlast : ¬ (s.time.day = 65535 ∧ s.time.second = 86399)) :
    s.endSecond.notices = { s.notices with
      recordUnit := s.notices.recordUnit ++ [.boundary (s.time.day * 86400 + s.time.second + 1)]
      scheduleUnit := s.notices.scheduleUnit ++ [.boundary (s.time.day * 86400 + s.time.second + 1)]
      bankStore := s.notices.bankStore ++ [.boundary (s.time.day * 86400 + s.time.second + 1)] } := by
  rw [endSecond_of_run hrun hlast, (TimeBase.advance_stamp hsecond).1]
  rfl

/-- The clock as it stands with the current second's last period counted, elapsed time at `e` and `p` of its fraction. -/
def TimeBase.atSecondEnd (x : TimeBase) (e : Elapsed) (p : Nat) : TimeBase :=
  { x.elapsedTo e p with prescaler := x.prescaler + (x.length - x.prescaler) }

theorem exec_secondEnd (hvalid : s.time.valid = true) (hdark : s.supply.state ≠ .dark) :
    ∃ e p, exec .secondEnd s = .next (s.setTime (s.time.atSecondEnd e p)).endSecond := by
  change ∃ e p, execSecondEnd s = _
  unfold execSecondEnd
  rw [if_neg (by simp [hdark, hvalid]), passPeriods_within hvalid (le_refl _)]
  exact ⟨_, _, rfl⟩

/-- The clock as it runs off its range (R5). -/
theorem endOfRange_time : s.endOfRange.time = { s.time with
    valid := false, prescaler := 0, slew := 0, slewing := false, lostInHold := decide (s.supply.state = .hold) } := by
  unfold State.endOfRange
  dsimp only
  split
  · rfl
  · exact requestEntry_time _ _

theorem endOfRange_of_hold (h : s.supply.state = .hold) : unchangedBut [.time] s s.endOfRange := by
  unfold State.endOfRange
  rw [if_pos h]
  exact frame_setTime _ (.refl _ _) (by decide)

theorem endOfRange_of_run (h : s.supply.state = .run) :
    entered (.system none .clockLost) s s.endOfRange ∧ s.endOfRange.notices = s.notices.withoutBoundaries := by
  unfold State.endOfRange
  rw [if_neg (by simp [h])]
  exact ⟨entered_requestEntry _ rfl rfl, requestEntry_notices _ _⟩

end

/-- A second's end that does not end the range of the clock. -/
theorem secondEnd_advances {s : State} (htime : s.timeLaw) (hvalid : s.time.valid = true) (hdark : s.supply.state ≠ .dark)
    (hlast : ¬ (s.time.day = 65535 ∧ s.time.second = 86399)) :
    ∃ t, exec .secondEnd s = .next t ∧ unchangedBut [.time, .notices] s t ∧ t.time.valid = true ∧
      t.time.day * 86400 + t.time.second = s.time.day * 86400 + s.time.second + 1 ∧ t.time.second ≤ 86399 ∧
      t.time.prescaler = 0 ∧
      t.time.slew = (if s.time.slewing then (if 0 < s.time.slew then s.time.slew - 1
        else if s.time.slew < 0 then s.time.slew + 1 else 0) else s.time.slew) ∧
      (t.time.length : Int) = 32768 - (if 0 < t.time.slew then 512 else if t.time.slew < 0 then -512 else 0) -
        (if t.time.second % 60 = 59 then s.time.trim else 0) ∧
      32001 ≤ t.time.length ∧ t.time.length ≤ 33535 ∧
      t.time.trim = s.time.trim ∧ t.time.stepCount = s.time.stepCount ∧ t.time.holdCount = s.time.holdCount ∧
      t.time.weekdayOffset = s.time.weekdayOffset ∧
      (s.supply.state = .hold → t.notices = s.notices) ∧
      (s.supply.state = .run →
        let b := Notice.boundary (s.time.day * 86400 + s.time.second + 1)
        t.notices = { s.notices with
          recordUnit := s.notices.recordUnit ++ [b], scheduleUnit := s.notices.scheduleUnit ++ [b]
          bankStore := s.notices.bankStore ++ [b] }) := by
  obtain ⟨-, hsecond, -, -, -, htrim, -⟩ := htime
  obtain ⟨e, p, hexec⟩ := exec_secondEnd hvalid hdark
  have hadvanced : (s.setTime (s.time.atSecondEnd e p)).endSecond.time = (s.time.atSecondEnd e p).advance :=
    endSecond_time hlast
  have hstamp := TimeBase.advance_stamp (x := s.time.atSecondEnd e p) hsecond
  have hlength := secondLength_bounds (s.time.atSecondEnd e p).advance.slew (s.time.atSecondEnd e p).advance.second
    htrim.1 htrim.2
  refine ⟨_, hexec, (frame_setTime _ (.refl _ _) (by decide)).trans (endSecond_frame hlast), ?_⟩
  rw [hadvanced]
  refine ⟨hvalid, hstamp.1, hstamp.2, rfl, rfl, hlength.1, hlength.2.1, hlength.2.2, rfl, rfl, rfl, rfl, fun hhold => ?_,
    fun hrun => endSecond_notices_of_run (s := s.setTime (s.time.atSecondEnd e p)) hsecond hrun hlast⟩
  rw [endSecond_outside_run (s := s.setTime (s.time.atSecondEnd e p)) (by simp [hhold]) hlast]
  rfl

theorem spansOf_eq (l : List Notice) : spansOf l = l.filter fun x => match x with
    | .boundary _ => false
    | .step _ _ => true
    | .resumption _ _ => true := by
  unfold spansOf
  congr 1
  funext x
  cases x <;> rfl

theorem Notices.withoutBoundaries_oldBanks {x : Notices} (h : x.oldBanks = []) : x.withoutBoundaries.oldBanks = [] := by
  simp [Notices.withoutBoundaries, h]

/-- The end of the last second of day 65,535 (R5; log entry 44). -/
theorem secondEnd_endsRange {s : State} (hvalid : s.time.valid = true) (hdark : s.supply.state ≠ .dark)
    (hlast : s.time.day = 65535 ∧ s.time.second = 86399) :
    ∃ t, exec .secondEnd s = .next t ∧ unchangedBut [.time, .notices, .spool, .link] s t ∧ t.time.valid = false ∧
      t.time.day = 65535 ∧ t.time.second = 86399 ∧ t.time.prescaler = 0 ∧ t.time.slew = 0 ∧
      t.time.trim = s.time.trim ∧ t.time.stepCount = s.time.stepCount ∧ t.time.holdCount = s.time.holdCount ∧
      (s.supply.state = .run → entered (.system none .clockLost) s t ∧ t.notices = s.notices.withoutBoundaries) ∧
      (s.supply.state = .hold → t.time.lostInHold = true ∧ t.notices = s.notices ∧ t.spool = s.spool ∧
        t.link = s.link) := by
  obtain ⟨e, p, hexec⟩ := exec_secondEnd hvalid hdark
  rw [endSecond_of_last (s := s.setTime (s.time.atSecondEnd e p)) hlast] at hexec
  refine ⟨_, hexec, frame_endOfRange (frame_setTime _ (.refl _ _) (by decide)) (by decide) (by decide) (by decide)
    (by decide), ?_⟩
  rw [endOfRange_time]
  refine ⟨rfl, hlast.1, hlast.2, rfl, rfl, rfl, rfl, rfl, fun hrun => ?_, fun hhold => ?_⟩
  · have hrange := endOfRange_of_run (s := s.setTime (s.time.atSecondEnd e p)) hrun
    exact ⟨hrange.1.from_same rfl rfl, hrange.2⟩
  · have hframe := endOfRange_of_hold (s := s.setTime (s.time.atSecondEnd e p)) hhold
    exact ⟨by simp [hhold], hframe.same (b := .notices) (by decide), hframe.same (b := .spool) (by decide),
      hframe.same (b := .link) (by decide)⟩

/-- Where more periods pass than the current second lacks, it ends and the rest is counted into the next (R1; log entry 9). -/
theorem countPeriods_past_once {s : State} {n k : Nat} (e : Elapsed) (p : Nat) (htime : s.timeLaw)
    (hvalid : s.time.valid = true) (hlast : ¬ (s.time.day = 65535 ∧ s.time.second = 86399))
    (hn : s.time.length - s.time.prescaler < n) (hrest : n - (s.time.length - s.time.prescaler) ≤ 32001) :
    State.countPeriods (k + 2) (s.setTime (s.time.elapsedTo e p)) n =
      (s.setTime (s.time.elapsedTo e p)).endSecond.setTime { (s.time.elapsedTo e p).advance with
        prescaler := n - (s.time.length - s.time.prescaler) } := by
  obtain ⟨-, -, -, -, -, htrim, -⟩ := htime
  have hlength := secondLength_bounds (s.time.elapsedTo e p).advance.slew (s.time.elapsedTo e p).advance.second
    htrim.1 htrim.2
  have hadvanced : (s.setTime (s.time.elapsedTo e p)).endSecond.time = (s.time.elapsedTo e p).advance := endSecond_time hlast
  have hwithin : n - (s.time.length - s.time.prescaler) ≤ (s.setTime (s.time.elapsedTo e p)).endSecond.time.length -
      (s.setTime (s.time.elapsedTo e p)).endSecond.time.prescaler := by
    rw [hadvanced]
    exact le_trans hrest hlength.2.1
  rw [countPeriods_elapsedTo_past e p hvalid hn, countPeriods_within (by rw [hadvanced]; exact hvalid) hwithin, hadvanced]
  exact congrArg (fun p' => State.setTime _ { (s.time.elapsedTo e p).advance with prescaler := p' }) (Nat.zero_add _)

/-- Settles O20: the end of a second by whether it ends the range, and periods past it by one look more at the next. -/
theorem secondEndAdvancesTheClock : Obligations.SecondEndAdvancesTheClock := by
  refine ⟨fun s htime hvalid hdark => ⟨fun hlast => secondEnd_advances htime hvalid hdark hlast, fun hday hsecond => ?_⟩,
    fun s n htime hvalid hrun hlast hwithin hpast hrest => ?_⟩
  · obtain ⟨t, hexec, hframe, hinvalid, hd, hs, hprescaler, hslew, htrim, hstep, hhold, hrun, hheld⟩ :=
      secondEnd_endsRange hvalid hdark ⟨hday, hsecond⟩
    refine ⟨t, hexec, hframe, hinvalid, hd, hs, hprescaler, hslew, htrim, hstep, hhold, fun h => ?_, hheld⟩
    obtain ⟨hentered, hnotices⟩ := hrun h
    rw [hnotices]
    exact ⟨hentered, spansOf_eq _, spansOf_eq _, spansOf_eq _, Notices.withoutBoundaries_oldBanks⟩
  · dsimp only
    rw [passPeriods_eq, TimeBase.elapse]
    generalize min elapsedTop _ = e
    generalize _ % 32768 = p
    rw [countPeriods_past_once e p htime hvalid hlast (by omega) (by omega)]
    obtain ⟨-, hsecond, -, -, -, htrim, -⟩ := htime
    have hstamp := TimeBase.advance_stamp (x := s.time.elapsedTo e p) hsecond
    have hlength := secondLength_bounds (s.time.elapsedTo e p).advance.slew (s.time.elapsedTo e p).advance.second
      htrim.1 htrim.2
    have hframe : unchangedBut [.time, .notices] s (s.setTime (s.time.elapsedTo e p)).endSecond :=
      (frame_setTime _ (.refl _ _) (by decide)).trans (endSecond_frame hlast)
    refine ⟨frame_setTime _ hframe (by decide), hvalid, hstamp.2, hstamp.1, ?_, ?_,
      endSecond_notices_of_run (s := s.setTime (s.time.elapsedTo e p)) hsecond hrun hlast⟩
    · dsimp only [State.setTime_time]
      omega
    · exact le_trans (by omega : n - (s.time.length - s.time.prescaler) ≤ 32001) hlength.2.1

end Sys2Proof.Machine
end

section
/-! ## Dispatch of the oldest frame (R188) -/
namespace Sys2Proof.Machine

/-! ### The class of a station -/

/-- The entries of the station table that are not EMPTY. -/
theorem mem_stationEntries {s : State} {x : Station} :
    x ∈ s.setup.stations.toList.filterMap (fun e => e) ↔ ∃ k : Fin 4, s.setup.stations[k] = some x := by
  rw [List.mem_filterMap]
  constructor
  · rintro ⟨e, he, rfl⟩
    obtain ⟨i, hi, hget⟩ := Vector.mem_iff_getElem.1 (Vector.mem_toList_iff.1 he)
    exact ⟨⟨i, hi⟩, hget⟩
  · rintro ⟨k, hk⟩
    exact ⟨_, Vector.mem_toList_iff.2 (Vector.getElem_mem k.isLt), hk⟩

theorem stationEntries_eq_nil {s : State} :
    s.setup.stations.toList.filterMap (fun e => e) = [] ↔ ∀ k : Fin 4, s.setup.stations[k] = none := by
  rw [List.eq_nil_iff_forall_not_mem]
  simp only [mem_stationEntries, not_exists, Option.eq_none_iff_forall_ne_some]
  exact forall_comm

section
variable {s : State} {id : Nat}

theorem stationClass_of_empty (h : ∀ k : Fin 4, s.setup.stations[k] = none) : s.stationClass id = some .operator :=
  if_pos (stationEntries_eq_nil.2 h)

theorem stationClass_of_entry (h : ∃ k : Fin 4, s.setup.stations[k] ≠ none) : s.stationClass id =
    ((s.setup.stations.toList.filterMap fun e => e).find? fun e => decide (e.id = id)).map Station.cls := by
  obtain ⟨k, hk⟩ := h
  exact if_neg fun hnil => hk (stationEntries_eq_nil.1 hnil k)

theorem stationClass_eq_none (h : ∃ k : Fin 4, s.setup.stations[k] ≠ none) :
    s.stationClass id = none ↔ ∀ (k : Fin 4) (x : Station), s.setup.stations[k] = some x → x.id ≠ id := by
  rw [stationClass_of_entry h, Option.map_eq_none_iff, List.find?_eq_none]
  simp only [mem_stationEntries, decide_eq_true_eq]
  exact ⟨fun hall k x hx => hall x ⟨k, hx⟩, fun hall x ⟨k, hx⟩ => hall k x hx⟩

theorem stationClass_eq_some {cls : StationClass} (h : ∃ k : Fin 4, s.setup.stations[k] ≠ none)
    (hcls : s.stationClass id = some cls) : ∃ k : Fin 4, s.setup.stations[k] = some ⟨id, cls⟩ := by
  rw [stationClass_of_entry h, Option.map_eq_some_iff] at hcls
  obtain ⟨x, hfind, rfl⟩ := hcls
  obtain ⟨k, hk⟩ := mem_stationEntries.1 (List.mem_of_find?_eq_some hfind)
  have hid : x.id = id := by simpa using List.find?_some hfind
  exact ⟨k, hid ▸ hk⟩

end

/-! ### The checks of a frame -/

/-- The orders that carry no fields (R15, R29, R164, R171, R192, R193). -/
theorem bareOrder_eq (name : OrderName) : bareOrder name = ([(.clockRead, .clockRead), (.presenceClear, .presenceClear),
    (.egressEnd, .egressEnd), (.loadEnd, .loadEnd), (.status, .status), (.restart, .restart)].find?
      fun x : OrderName × Instr => decide (x.1 = name)).map Prod.snd := by
  cases name <;> rfl

section
variable {s : State} {f : Frame} {rest : List Frame}

theorem exec_frameDispatch_of_not_ready (h : s.mayDispatch ≠ true) : exec .frameDispatch s = .next s := by
  change execFrameDispatch s = _
  unfold execFrameDispatch whileRunning
  split
  · dsimp only
    split
    · rfl
    · rw [if_neg h]
  · rfl

/-- A frame that may be dispatched leaves the receive buffer, with its reply queued or its order in hand. -/
theorem exec_frameDispatch (hrun : s.supply.state = .run) (hreceived : s.link.received = f :: rest)
    (hready : s.mayDispatch = true) :
    exec .frameDispatch s = .next (match s.checkFrame f with
      | .error code => s.setLink { s.link with
          received := rest, transmit := s.link.transmit ++ [.reply f.ref ⟨code, .none⟩], lastReply := some ⟨code, .none⟩ }
      | .ok order => s.setLink { s.link with received := rest, handed := some ⟨f.ref, order⟩ }) := by
  change execFrameDispatch s = _
  refine (whileRunning_of_run hrun).trans ?_
  rw [hreceived]
  dsimp only
  rw [if_pos hready]
  unfold State.dispatch
  have hcheck : (s.setLink { s.link with received := rest }).checkFrame f = s.checkFrame f := rfl
  dsimp only
  rw [hcheck]
  cases s.checkFrame f <;> rfl

theorem checkFrame_of_unknown (h : s.stationClass f.station = none) : s.checkFrame f = .error .unknownStation := by
  unfold State.checkFrame
  rw [h]

theorem orderNameOf_of_out {code : Nat} (h : code = 0 ∨ 0x6F < code) : orderNameOf code = none :=
  if_neg (by omega)

theorem orderNameOf_of_in {code : Nat} (hlow : 1 ≤ code) (hhigh : code ≤ 0x6F) :
    orderNameOf code = Config.orderOfCode code := if_pos ⟨hlow, hhigh⟩

theorem checkFrame_of_nameless {cls : StationClass} (h : s.stationClass f.station = some cls)
    (hname : orderNameOf f.code = none) : s.checkFrame f = .error .badOrder := by
  unfold State.checkFrame
  simp only [h, hname]

variable {cls : StationClass} {name : OrderName}

theorem checkFrame_of_denied (h : s.stationClass f.station = some cls) (hname : orderNameOf f.code = some name)
    (hrank : classRank cls < classRank (minimumClass name)) : s.checkFrame f = .error .notPermitted := by
  unfold State.checkFrame
  simp only [h, hname, if_pos hrank]

theorem checkFrame_of_permitted (h : s.stationClass f.station = some cls) (hname : orderNameOf f.code = some name)
    (hrank : ¬ classRank cls < classRank (minimumClass name)) :
    s.checkFrame f = (orderOf name f.payload).elim (.error .badOrder) .ok := by
  unfold State.checkFrame
  simp only [h, hname, if_neg hrank]
  cases orderOf name f.payload <;> rfl

theorem orderOf_bare {order : Instr} {payload : List Byte} (h : bareOrder name = some order) :
    orderOf name payload = if payload = [] then some order else none := by
  unfold orderOf
  rw [h]

theorem orderOf_fields {payload : List Byte} (h : bareOrder name = none) : orderOf name payload =
    (Config.orderOfPayload name payload).bind fun order => if orderName order = some name then some order else none := by
  unfold orderOf
  rw [h]
  cases Config.orderOfPayload name payload <;> rfl

end

/-- Settles O54: the checks in their order, each by the equation of the check that fails first. -/
theorem dispatchChecksTheOldestFrame : Obligations.DispatchChecksTheOldestFrame := by
  refine ⟨fun s f rest hrun hreceived => ⟨fun hready => ?_, fun hready hclass => ?_, fun cls hready hclass hcode => ?_,
    fun cls hready hclass hlow hhigh => ?_⟩,
    fun s id => ⟨stationClass_of_empty, stationClass_eq_none, fun cls => stationClass_eq_some⟩⟩
  · exact exec_frameDispatch_of_not_ready fun h => hready (s.mayDispatch_iff.1 h)
  · rw [exec_frameDispatch hrun hreceived (s.mayDispatch_iff.2 hready), checkFrame_of_unknown hclass]
  · rw [exec_frameDispatch hrun hreceived (s.mayDispatch_iff.2 hready),
      checkFrame_of_nameless hclass (orderNameOf_of_out hcode)]
  · rw [exec_frameDispatch hrun hreceived (s.mayDispatch_iff.2 hready)]
    have hname := orderNameOf_of_in hlow hhigh
    cases hcode : Config.orderOfCode f.code with
    | none => rw [checkFrame_of_nameless hclass (hname.trans hcode)]
    | some name =>
      have hnamed := hname.trans hcode
      dsimp only
      rw [← bareOrder_eq]
      by_cases hrank : classRank cls < classRank (minimumClass name)
      · rw [checkFrame_of_denied hclass hnamed hrank, if_pos hrank]
      rw [checkFrame_of_permitted hclass hnamed hrank, if_neg hrank]
      cases hbare : bareOrder name with
      | some order =>
        rw [orderOf_bare hbare]
        by_cases hpayload : f.payload = [] <;> simp only [hpayload, if_true, if_false, Option.elim]
      | none =>
        rw [orderOf_fields hbare]
        cases Config.orderOfPayload name f.payload with
        | none => rfl
        | some order =>
          by_cases hspelt : orderName order = some name <;>
            simp only [hspelt, if_true, if_false, Option.elim, Option.bind]

end Sys2Proof.Machine
end

section
/-! ## What is done to each lane in turn, and the levels taken again (R71, R160) -/
namespace Sys2Proof.Machine

/-! ### What is done to each lane or bell in turn -/

section
variable {σ ι α : Type} [DecidableEq ι]

/-- An operation for each index, which changes what is seen at its own index alone. -/
theorem foldl_pointwise {P : σ → ι → α} {F : ι → α → α} {op : σ → ι → σ} (hsame : ∀ u i, P (op u i) i = F i (P u i))
    (hother : ∀ u i j, i ≠ j → P (op u i) j = P u j) {l : List ι} (hl : l.Nodup) (u : σ) (j : ι) :
    P (l.foldl op u) j = if j ∈ l then F j (P u j) else P u j := by
  induction l generalizing u with
  | nil => rfl
  | cons i rest ih =>
    obtain ⟨hi, hrest⟩ := List.nodup_cons.1 hl
    rw [List.foldl_cons, ih hrest]
    by_cases hj : i = j
    · subst hj
      rw [if_neg hi, if_pos (List.mem_cons_self), hsame]
    · have hmem : j ∈ i :: rest ↔ j ∈ rest := by simp [Ne.symm hj]
      rw [hother u i j hj]
      exact if_congr hmem.symm rfl rfl

omit [DecidableEq ι] in
/-- What every operation leaves alone, all of them leave alone. -/
theorem foldl_keeps {β : Type} {P : σ → β} {op : σ → ι → σ} (hop : ∀ u i, P (op u i) = P u) (l : List ι) (u : σ) :
    P (l.foldl op u) = P u := by
  induction l generalizing u with
  | nil => rfl
  | cons i rest ih => rw [List.foldl_cons, ih, hop]

/-- What is done to each lane in turn. -/
theorem allLanes_foldl {P : σ → LaneId → α} {F : LaneId → α → α} {op : σ → LaneId → σ}
    (hsame : ∀ u l, P (op u l) l = F l (P u l)) (hother : ∀ u l m, l ≠ m → P (op u l) m = P u m) (u : σ) (l : LaneId) :
    P (allLanes.foldl op u) l = F l (P u l) := by
  have hmem : ∀ m : LaneId, m ∈ allLanes := by decide
  rw [foldl_pointwise hsame hother (by decide), if_pos (hmem l)]

/-- What is done to each bell output in turn. -/
theorem allBells_foldl {P : σ → BellId → α} {F : BellId → α → α} {op : σ → BellId → σ}
    (hsame : ∀ u b, P (op u b) b = F b (P u b)) (hother : ∀ u b c, b ≠ c → P (op u b) c = P u c) (u : σ) (b : BellId) :
    P (allBells.foldl op u) b = F b (P u b) := by
  have hmem : ∀ c : BellId, c ∈ allBells := by decide
  rw [foldl_pointwise hsame hother (by decide), if_pos (hmem b)]

end

/-- A change of each lane's own, made in turn. -/
theorem allLanes_foldl_setLane {op : State → LaneId → State} {F : LaneId → Lane → Lane}
    (hop : ∀ u l, op u l = u.setLane l (F l (u.lane l))) (s : State) (l : LaneId) :
    (allLanes.foldl op s).lane l = F l (s.lane l) := by
  refine allLanes_foldl (P := State.lane) (fun u m => ?_) (fun u m n hne => ?_) s l
  · rw [hop, State.setLane_same]
  · rw [hop, State.setLane_other _ _ _ _ hne]

/-! ### The levels taken again -/

section
variable (s : State)

/-- What a release output is driven to turns on neither the requested levels held nor the driven ones. -/
theorem driveRelease_congr {s t : State} {l : LaneId} (hsetup : (t.lane l).setup = (s.lane l).setup)
    (hwants : (t.lane l).wantsRelease = (s.lane l).wantsRelease) (hsupply : t.supply = s.supply)
    (hevacuating : t.inputs.evacuating = s.inputs.evacuating) (hholds : t.inputs.releaseHolds = s.inputs.releaseHolds) :
    t.driveRelease l = s.driveRelease l := by
  unfold State.driveRelease
  rw [hsetup, hwants, hsupply, hevacuating, hholds]

/-- The state with its requested levels taken again. -/
def State.requestedAgain (s : State) : State := allLanes.foldl State.retakeRequested s

/-- The state with its requested levels and its release outputs taken again. -/
def State.releasesAgain (s : State) : State := allLanes.foldl State.retakeRelease s.requestedAgain

theorem retakeLevels_eq : s.retakeLevels = allBells.foldl State.retakeBell s.releasesAgain := rfl

theorem requestedAgain_frame : unchangedBut [.lanes] s s.requestedAgain :=
  frame_foldl (fun _ l h => frame_retakeRequested l h (by decide)) (.refl _ _)

theorem requestedAgain_lane (l : LaneId) :
    s.requestedAgain.lane l = { s.lane l with requested := (s.lane l).wantsRelease } :=
  allLanes_foldl_setLane (F := fun _ x => { x with requested := x.wantsRelease }) (fun _ _ => rfl) s l

/-- The inputs but for the driven levels. -/
def InputSampler.undriven (x : InputSampler) : InputSampler :=
  { x with drivenRelease := Vector.replicate 8 false, drivenBell := Vector.replicate 8 .off }

theorem InputSampler.eq_of_undriven {x y : InputSampler} (h : x.undriven = y.undriven) :
    ∃ v w, x = { y with drivenRelease := v, drivenBell := w } := by
  refine ⟨x.drivenRelease, x.drivenBell, ?_⟩
  have hx : x = { x.undriven with drivenRelease := x.drivenRelease, drivenBell := x.drivenBell } := rfl
  rw [h] at hx
  exact hx

theorem releasesAgain_drivenRelease (l : LaneId) :
    s.releasesAgain.inputs.drivenRelease[l] = s.requestedAgain.driveRelease l := by
  have h := allLanes_foldl (P := fun (u : State) l => (u.inputs.drivenRelease[l.val], u.driveRelease l))
    (F := fun _ x => (x.2, x.2)) (op := State.retakeRelease)
    (fun u l => by simp only [State.retakeRelease, State.setInputs_inputs, putAt_same]; rfl)
    (fun u l m hne => by simp only [State.retakeRelease, State.setInputs_inputs, putAt_other _ _ _ _ hne]; rfl)
    s.requestedAgain l
  exact congrArg Prod.fst h

theorem releasesAgain_frame : unchangedBut [.lanes, .inputs] s s.releasesAgain :=
  frame_foldl (fun _ l h => frame_retakeRelease l h (by decide)) ((requestedAgain_frame s).mono (by decide))

theorem releasesAgain_lanes : s.releasesAgain.lanes = s.requestedAgain.lanes :=
  (frame_foldl (L := [.inputs]) (fun _ l h => frame_retakeRelease l h (by decide)) (.refl _ _)).same (b := .lanes) (by decide)

theorem releasesAgain_supply : s.releasesAgain.supply = s.supply :=
  (releasesAgain_frame s).same (b := .supply) (by decide)

theorem releasesAgain_undriven : s.releasesAgain.inputs.undriven = s.inputs.undriven := by
  have hlanes : s.requestedAgain.inputs = s.inputs := (requestedAgain_frame s).same (b := .inputs) (by decide)
  rw [← hlanes]
  exact foldl_keeps (P := fun u : State => u.inputs.undriven) (op := State.retakeRelease) (fun _ _ => rfl) allLanes
    s.requestedAgain

theorem retakeLevels_drivenBell (b : BellId) : s.retakeLevels.inputs.drivenBell[b] = s.releasesAgain.driveBell b := by
  have h := allBells_foldl (P := fun (u : State) b => (u.inputs.drivenBell[b.val], u.driveBell b))
    (F := fun _ x => (x.2, x.2)) (op := State.retakeBell)
    (fun u l => by simp only [State.retakeBell, State.setInputs_inputs, putAt_same]; rfl)
    (fun u l m hne => by simp only [State.retakeBell, State.setInputs_inputs, putAt_other _ _ _ _ hne]; rfl)
    s.releasesAgain b
  exact congrArg Prod.fst h

theorem retakeLevels_frame : unchangedBut [.lanes, .inputs] s s.retakeLevels :=
  frame_retakeLevels (.refl _ _) (by decide) (by decide)

theorem retakeLevels_lane (l : LaneId) :
    s.retakeLevels.lane l = { s.lane l with requested := (s.lane l).wantsRelease } := by
  have hbells : s.retakeLevels.lanes = s.releasesAgain.lanes :=
    (frame_foldl (L := [.inputs]) (fun _ b h => frame_retakeBell b h (by decide)) (.refl _ _)).same (b := .lanes) (by decide)
  rw [← requestedAgain_lane, State.lane, hbells, releasesAgain_lanes, ← State.lane]

/-- Taking the levels again leaves every other input as it was. -/
theorem retakeLevels_undriven : s.retakeLevels.inputs.undriven = s.inputs.undriven := by
  rw [← releasesAgain_undriven s, retakeLevels_eq]
  exact foldl_keeps (P := fun u : State => u.inputs.undriven) (op := State.retakeBell) (fun _ _ => rfl) allBells
    s.releasesAgain

theorem retakeLevels_evacuating : s.retakeLevels.inputs.evacuating = s.inputs.evacuating := by
  have h := congrArg InputSampler.evacuating (retakeLevels_undriven s)
  exact h

theorem retakeLevels_releaseHolds : s.retakeLevels.inputs.releaseHolds = s.inputs.releaseHolds := by
  have h := congrArg InputSampler.releaseHolds (retakeLevels_undriven s)
  exact h

theorem retakeLevels_driveRelease (l : LaneId) : s.retakeLevels.driveRelease l = s.driveRelease l := by
  have hlane := retakeLevels_lane s l
  exact driveRelease_congr (by rw [hlane]) (by rw [hlane]; rfl)
    ((retakeLevels_frame s).same (b := .supply) (by decide))
    (retakeLevels_evacuating s) (retakeLevels_releaseHolds s)

/-- Every release output is then driven as the rules give it (R160). -/
theorem retakeLevels_drivenRelease (l : LaneId) :
    s.retakeLevels.inputs.drivenRelease[l] = s.driveRelease l := by
  have hbells : s.retakeLevels.inputs.drivenRelease = s.releasesAgain.inputs.drivenRelease :=
    foldl_keeps (P := fun u : State => u.inputs.drivenRelease) (op := State.retakeBell) (fun _ _ => rfl) allBells
      s.releasesAgain
  have hlane := requestedAgain_lane s l
  rw [hbells, releasesAgain_drivenRelease]
  exact driveRelease_congr (by rw [hlane]) (by rw [hlane]; rfl)
    ((requestedAgain_frame s).same (b := .supply) (by decide))
    (congrArg InputSampler.evacuating ((requestedAgain_frame s).same (b := .inputs) (by decide)))
    (congrArg InputSampler.releaseHolds ((requestedAgain_frame s).same (b := .inputs) (by decide)))

end

/-! ### Levels settled with no grant (R86) -/

section
variable {s : State}

theorem look_of_no_grants (h : ∀ l, (s.lane l).grant = none) (l : LaneId) : s.look l = s := by
  have hwaiting : ∀ m, s.waitingGrant m = none := fun m => by simp [State.waitingGrant, h m]
  have hchoice : ∀ p, s.arbiterChoice l p = none := fun p => by simp [State.arbiterChoice, State.goesFirst, hwaiting]
  unfold State.look
  split
  · rfl
  · rw [hchoice]

/-- Where no lane holds a grant, no look of the arbiter finds one to release. -/
theorem settle_of_no_grants (h : ∀ l, (s.lane l).grant = none) : s.settle = s.retakeLevels := by
  have hlooks : allLanes.foldl State.lookIfChanged s = s :=
    List.foldl_fixed' (fun l => by
      unfold State.lookIfChanged
      split
      · rfl
      · exact look_of_no_grants h l) allLanes
  unfold State.settle
  rw [hlooks]

end

end Sys2Proof.Machine
end

section
/-! ## Supply return (R195) -/
namespace Sys2Proof.Machine

/-- The Spool and the plant link, where a requested entry leaves its trace. -/
def State.sent (s : State) : Spool × Link := (s.spool, s.link)

theorem State.sent_eq_iff {s t : State} : t.sent = s.sent ↔ t.spool = s.spool ∧ t.link = s.link := Prod.ext_iff

theorem requestEntry_sent {s t : State} (e : Entry) (h : t.sent = s.sent) :
    (t.requestEntry e).sent = (s.requestEntry e).sent := by
  obtain ⟨hspool, hlink⟩ := State.sent_eq_iff.1 h
  exact State.sent_eq_iff.2 (entered_requestEntry e hspool hlink)

theorem unchangedBut.sent {L : List Block} {s t : State} (h : unchangedBut L s t) (hspool : Block.spool ∉ L)
    (hlink : Block.link ∉ L) : t.sent = s.sent :=
  State.sent_eq_iff.2 ⟨h.same (b := .spool) hspool, h.same (b := .link) hlink⟩

/-! ### A lane takes its remembered mode (R91) -/

/-- A lane with its mode written at a given time (R69, R79). -/
def Lane.withMode (x : Lane) (m : LaneMode) (now : Elapsed) : Lane :=
  if x.mode = m then x
  else { x with
    mode := m
    heldTimer := if x.doorOpen = true ∧ (m = .secure ∨ m = .locked) then some (now + 1000 * x.setup.heldLimit)
      else x.heldTimer }

/-- A lane with its remembered mode taken, as a member of a pair or not (R91). -/
def Lane.restored (x : Lane) (paired : Bool) (now : Elapsed) : Lane :=
  match x.remembered with
  | none => x
  | some m => { x.withMode (if m = .free ∧ paired = true then AskMode.secure else m).toLaneMode now with remembered := none }

section
variable {s t : State}

theorem setMode_eq (s : State) (l : LaneId) (m : LaneMode) :
    s.setMode l m = if (s.lane l).mode = m then s else s.setLane l ((s.lane l).withMode m s.elapsed) := by
  unfold Lane.withMode
  by_cases h : (s.lane l).mode = m
  · rw [if_pos h]
    exact if_pos h
  · rw [if_neg h, if_neg h]
    exact if_neg h

theorem setMode_lane (s : State) (l : LaneId) (m : LaneMode) :
    (s.setMode l m).lane l = (s.lane l).withMode m s.elapsed := by
  rw [setMode_eq]
  split
  · next h => rw [Lane.withMode, if_pos h]
  · exact State.setLane_same _ _ _

theorem setMode_other (s : State) {l k : LaneId} (m : LaneMode) (h : l ≠ k) : (s.setMode l m).lane k = s.lane k := by
  rw [setMode_eq]
  split
  · rfl
  · exact State.setLane_other _ _ _ _ h

theorem restoreMode_lane (s : State) (l : LaneId) :
    (s.restoreMode l).lane l = (s.lane l).restored (s.inPair l) s.elapsed := by
  unfold State.restoreMode Lane.restored
  cases (s.lane l).remembered with
  | none => rfl
  | some m =>
    simp only [State.setLane_same, setMode_lane]
    rfl

theorem restoreMode_other (s : State) {l k : LaneId} (h : l ≠ k) : (s.restoreMode l).lane k = s.lane k := by
  unfold State.restoreMode
  split
  · rfl
  · rw [State.setLane_other _ _ _ _ h, setMode_other _ _ h]

theorem Lane.withMode_setup (x : Lane) (m : LaneMode) (now : Elapsed) : (x.withMode m now).setup = x.setup := by
  unfold Lane.withMode
  split <;> rfl

theorem Lane.restored_setup (x : Lane) (paired : Bool) (now : Elapsed) : (x.restored paired now).setup = x.setup := by
  unfold Lane.restored
  split
  · rfl
  · exact x.withMode_setup _ now

/-- A lane's partner turns on the setups in force alone (R84). -/
theorem inPair_congr (h : ∀ l, (t.lane l).setup = (s.lane l).setup) (l : LaneId) : t.inPair l = s.inPair l := by
  unfold State.inPair State.partnerOf
  simp only [h]

theorem restoreMode_setup (s : State) (l k : LaneId) : ((s.restoreMode l).lane k).setup = (s.lane k).setup := by
  by_cases h : l = k
  · subst h
    rw [restoreMode_lane, Lane.restored_setup]
  · rw [restoreMode_other s h]

theorem restoreMode_elapsed (s : State) (l : LaneId) : (s.restoreMode l).elapsed = s.elapsed :=
  congrArg TimeBase.elapsed ((frame_restoreMode l (.refl [.lanes] s) (by decide)).same (b := .time) (by decide))

theorem restoreMode_inPair (s : State) (l k : LaneId) : (s.restoreMode l).inPair k = s.inPair k :=
  inPair_congr (restoreMode_setup s l) k

theorem restoreModes_lane (s : State) (l : LaneId) :
    (allLanes.foldl State.restoreMode s).lane l = (s.lane l).restored (s.inPair l) s.elapsed := by
  have h := allLanes_foldl (P := fun (u : State) l => (u.lane l, u.inPair l, u.elapsed))
    (F := fun _ x => (x.1.restored x.2.1 x.2.2, x.2.1, x.2.2)) (op := State.restoreMode)
    (fun u l => by rw [restoreMode_lane, restoreMode_inPair, restoreMode_elapsed])
    (fun u l m hne => by rw [restoreMode_other u hne, restoreMode_inPair, restoreMode_elapsed]) s l
  exact (Prod.ext_iff.1 h).1

theorem advanceEpoch_epoch (s : State) :
    s.advanceEpoch.roster.epoch = if s.roster.epoch = 65535 then 1 else s.roster.epoch + 1 := by
  unfold State.advanceEpoch
  split <;> rfl

theorem endEvacuation_lane (s : State) (l : LaneId) :
    s.endEvacuation.lane l = (s.lane l).restored (s.inPair l) s.elapsed := by
  have hlanes : s.endEvacuation.lanes = (allLanes.foldl State.restoreMode
      (s.setInputs { s.inputs with evacuating := false, startingWatch := none })).lanes :=
    (frame_advanceEpoch (.refl [.roster] _) (by decide)).same (b := .lanes) (by decide)
  rw [State.lane, hlanes, ← State.lane, restoreModes_lane]
  rfl

theorem endEvacuation_inputs (s : State) :
    s.endEvacuation.inputs = { s.inputs with evacuating := false, startingWatch := none } :=
  (frame_advanceEpoch (frame_foldl (L := [.roster, .lanes]) (fun _ l h => frame_restoreMode l h (by decide))
    (.refl _ _)) (by decide)).same (b := .inputs) (by decide)

theorem endEvacuation_epoch (s : State) :
    s.endEvacuation.roster.epoch = if s.roster.epoch = 65535 then 1 else s.roster.epoch + 1 := by
  have hroster : (allLanes.foldl State.restoreMode
      (s.setInputs { s.inputs with evacuating := false, startingWatch := none })).roster = s.roster :=
    (frame_foldl (L := [.lanes]) (fun _ l h => frame_restoreMode l h (by decide)) (.refl _ _)).same (b := .roster)
      (by decide)
  rw [State.endEvacuation, advanceEpoch_epoch, hroster]

/-! ### The stages of a return (R9, R165, R195) -/

theorem endHold_frame (s : State) : unchangedBut [.spool, .link, .supply] s s.endHold :=
  frame_endHold (.refl _ _) (by decide) (by decide) (by decide)

theorem endHold_sent (s : State) :
    s.endHold.sent = (s.requestEntry (.system s.now (.holdEnd s.time.holdBegin))).sent := requestEntry_sent _ rfl

theorem endHold_supply (s : State) : s.endHold.supply =
    { s.supply with state := .run, resetCause := .supplyReturn, returnedAt := some s.time.elapsed } :=
  (requestEntry_frame _ _).same (b := .supply) (by decide)

/-- A clock that ran off its range in the hold is reported lost (R5, R9). -/
def State.clockTold (s : State) : State :=
  if s.time.lostInHold then (s.setTime { s.time with lostInHold := false }).systemEvent none .clockLost else s

theorem clockTold_time (s : State) : s.clockTold.time = { s.time with lostInHold := false } := by
  unfold State.clockTold
  split
  · exact requestEntry_time _ _
  · next h => rw [← Bool.eq_false_iff.2 h]

theorem clockTold_sent (s : State) : s.clockTold.sent =
    if s.time.lostInHold = true then (s.requestEntry (.system none .clockLost)).sent else s.sent := by
  unfold State.clockTold
  split
  · exact requestEntry_sent _ rfl
  · rfl

theorem clockTold_frame (s : State) : unchangedBut [.time, .spool, .link] s s.clockTold := by
  unfold State.clockTold
  split
  · exact frame_systemEvent _ _ (frame_setTime _ (.refl _ _) (by decide)) (by decide) (by decide)
  · exact .refl _ _

theorem resumeTime_of_none (h : s.time.holdBegin = none) : s.resumeTime = s.clockTold := by
  have hbegin : s.clockTold.time.holdBegin = none := (congrArg TimeBase.holdBegin (clockTold_time s)).trans h
  change (match s.clockTold.time.holdBegin with
    | none => s.clockTold
    | some h => s.clockTold.giveNotice (.resumption h (absSecond s.clockTold.time.day s.clockTold.time.second))) = _
  rw [hbegin]

theorem resumeTime_of_some {b : Stamp} (h : s.time.holdBegin = some b) :
    s.resumeTime = s.clockTold.giveNotice (.resumption b (s.time.day * 86400 + s.time.second)) := by
  have hbegin : s.clockTold.time.holdBegin = some b := (congrArg TimeBase.holdBegin (clockTold_time s)).trans h
  change (match s.clockTold.time.holdBegin with
    | none => s.clockTold
    | some h => s.clockTold.giveNotice (.resumption h (absSecond s.clockTold.time.day s.clockTold.time.second))) = _
  rw [hbegin]
  dsimp only
  rw [clockTold_time]
  rfl

/-- Beyond the notice it gives, the Time Base's part in a return is the report of a lost clock. -/
theorem resumeTime_frame (s : State) : unchangedBut [.notices] s.clockTold s.resumeTime := by
  cases h : s.time.holdBegin with
  | none =>
    rw [resumeTime_of_none h]
    exact .refl _ _
  | some b =>
    rw [resumeTime_of_some h]
    exact frame_giveNotice _ (.refl _ _) (by decide)

theorem endCutShort_of_quiet (h : s.inputs.evacuating = false) : s.endCutShort = s := if_neg (by simp [h])

theorem endCutShort_of_evacuating (h : s.inputs.evacuating = true) :
    s.endCutShort = s.endEvacuation.systemEvent s.endEvacuation.now (.evacEnd .supplyReturn) := if_pos h

theorem endCutShort_frame (s : State) : unchangedBut [.roster, .lanes, .inputs, .spool, .link] s s.endCutShort :=
  frame_endCutShort (.refl _ _) (by decide) (by decide) (by decide) (by decide) (by decide)

theorem endEvacuation_frame (s : State) : unchangedBut [.roster, .lanes, .inputs] s s.endEvacuation :=
  frame_endEvacuation (.refl _ _) (by decide) (by decide) (by decide)

theorem endCutShort_from_endEvacuation (h : s.inputs.evacuating = true) :
    unchangedBut [.spool, .link] s.endEvacuation s.endCutShort := by
  rw [endCutShort_of_evacuating h]
  exact frame_systemEvent _ _ (.refl _ _) (by decide) (by decide)

theorem endCutShort_lane (h : s.inputs.evacuating = true) (l : LaneId) :
    s.endCutShort.lane l = (s.lane l).restored (s.inPair l) s.elapsed := by
  rw [State.lane, (endCutShort_from_endEvacuation h).same (b := .lanes) (by decide), ← State.lane, endEvacuation_lane]

theorem endCutShort_inputs (h : s.inputs.evacuating = true) :
    s.endCutShort.inputs = { s.inputs with evacuating := false, startingWatch := none } :=
  ((endCutShort_from_endEvacuation h).same (b := .inputs) (by decide)).trans (endEvacuation_inputs s)

theorem endCutShort_epoch (h : s.inputs.evacuating = true) :
    s.endCutShort.roster.epoch = if s.roster.epoch = 65535 then 1 else s.roster.epoch + 1 := by
  rw [(endCutShort_from_endEvacuation h).same (b := .roster) (by decide), endEvacuation_epoch]

theorem now_congr {s t : State} (h : t.time = s.time) : t.now = s.now := by
  unfold State.now
  rw [h]

theorem endCutShort_sent (h : s.inputs.evacuating = true) :
    s.endCutShort.sent = (s.requestEntry (.system s.now (.evacEnd .supplyReturn))).sent := by
  rw [endCutShort_of_evacuating h, now_congr ((endEvacuation_frame s).same (b := .time) (by decide))]
  exact requestEntry_sent _ ((endEvacuation_frame s).sent (by decide) (by decide))

end

/-! ### Sampling and the gate line begin again (R41, R93, R155, R157) -/

section
variable (s : State)

/-- The lanes' encoder counts, the samples and the gate line as a return leaves them. -/
def State.sampledAgain : State := (allLanes.foldl State.zeroEncoder s.resumeSampling).restartGateLine

theorem zeroEncoders_frame : unchangedBut [.lanes] s.resumeSampling (allLanes.foldl State.zeroEncoder s.resumeSampling) :=
  frame_foldl (fun _ l h => frame_zeroEncoder l h (by decide)) (.refl _ _)

theorem sampledAgain_frame : unchangedBut [.lanes, .punch, .inputs] s s.sampledAgain :=
  frame_restartGateLine (frame_foldl (fun _ l h => frame_zeroEncoder l h (by decide))
    (frame_resumeSampling (.refl _ _) (by decide))) (by decide)

theorem sampledAgain_lane (l : LaneId) : s.sampledAgain.lane l = { s.lane l with encoder := 0 } :=
  allLanes_foldl_setLane (F := fun _ x => { x with encoder := 0 }) (op := State.zeroEncoder) (fun _ _ => rfl)
    s.resumeSampling l

theorem sampledAgain_inputs : s.sampledAgain.inputs = s.resumeSampling.inputs :=
  (zeroEncoders_frame s).same (b := .inputs) (by decide)

theorem sampledAgain_punch : s.sampledAgain.punch = { s.punch with
    position := none, outstanding := none, verdicts := [], heads := Vector.replicate 16 ⟨false, 0⟩ } := by
  have hpunch : (allLanes.foldl State.zeroEncoder s.resumeSampling).punch = s.punch :=
    (zeroEncoders_frame s).same (b := .punch) (by decide)
  rw [← hpunch]
  rfl

end

/-! ### What a lane's mode is once it has taken the remembered one -/

section
variable {x : Lane} {m : AskMode} (paired : Bool) (now : Elapsed)

theorem AskMode.toLaneMode_ne_egress (m : AskMode) : m.toLaneMode ≠ .egress := by
  cases m <;> decide

/-- Of the modes that can be asked for, those that are not FREE secure the door. -/
theorem AskMode.securing_iff (m : AskMode) : (m.toLaneMode = .secure ∨ m.toLaneMode = .locked) ↔ m.toLaneMode ≠ .free := by
  cases m <;> decide

theorem Lane.restored_of_none (h : x.remembered = none) : x.restored paired now = x := by
  unfold Lane.restored
  rw [h]

theorem Lane.restored_of_some (h : x.remembered = some m) (hegress : x.mode = .egress) :
    let mode := (if m = .free ∧ paired = true then AskMode.secure else m).toLaneMode
    x.restored paired now = { x with
      remembered := none, mode := mode
      heldTimer := if x.doorOpen = true ∧ mode ≠ .free then some (now + 1000 * x.setup.heldLimit) else x.heldTimer } := by
  unfold Lane.restored Lane.withMode
  rw [h]
  dsimp only
  rw [if_neg (by rw [hegress]; exact (AskMode.toLaneMode_ne_egress _).symm)]
  simp only [AskMode.securing_iff]

theorem Lane.withMode_grant (x : Lane) (m : LaneMode) : (x.withMode m now).grant = x.grant := by
  unfold Lane.withMode
  split <;> rfl

theorem Lane.restored_grant (x : Lane) : (x.restored paired now).grant = x.grant := by
  unfold Lane.restored
  split
  · rfl
  · exact Lane.withMode_grant now x _

/-- A used lane with no grant and a mode that can be asked for requests its release output where it is FREE (R71). -/
theorem Lane.wantsRelease_of_asked (hgrant : x.grant = none) (hkind : x.setup.kind ≠ .unused)
    (hmode : x.mode = m.toLaneMode) : x.wantsRelease = decide (x.mode = .free) := by
  have hegress : x.mode ≠ .egress := hmode ▸ AskMode.toLaneMode_ne_egress m
  simp [Lane.wantsRelease, hgrant, hkind, hegress]

end

/-! ### The whole return -/

section
variable {s : State}

theorem returned_frame (s : State) : unchangedBut [.time, .spool, .link, .supply, .notices] s s.endHold.resumeTime :=
  ((endHold_frame s).mono (by decide)).trans
    (((clockTold_frame s.endHold).mono (by decide)).trans ((resumeTime_frame s.endHold).mono (by decide)))

theorem returned_time (s : State) : s.endHold.resumeTime.time = { s.time with lostInHold := false } := by
  rw [(resumeTime_frame s.endHold).same (b := .time) (by decide), clockTold_time,
    (endHold_frame s).same (b := .time) (by decide)]

theorem returned_lane (s : State) (l : LaneId) : s.endHold.resumeTime.lane l = s.lane l :=
  congrArg (fun v : Vector Lane 8 => v[l]) ((returned_frame s).same (b := .lanes) (by decide))

theorem leaveHold_eq (hgrants : ∀ l, (s.lane l).grant = none) :
    s.leaveHold = s.endHold.resumeTime.endCutShort.sampledAgain.retakeLevels := by
  refine settle_of_no_grants (s := s.endHold.resumeTime.endCutShort.sampledAgain) fun l => ?_
  rw [sampledAgain_lane]
  dsimp only
  by_cases hevac : s.endHold.resumeTime.inputs.evacuating = true
  · rw [endCutShort_lane hevac, Lane.restored_grant, returned_lane, hgrants]
  · rw [endCutShort_of_quiet (by simpa using hevac), returned_lane, hgrants]

/-- The entries of a return, in their order (R9, R165; log entry 18). -/
def State.returnEntries (s : State) : State :=
  let ended := s.requestEntry (.system s.now (.holdEnd s.time.holdBegin))
  let lost := if s.time.lostInHold = true then ended.requestEntry (.system none .clockLost) else ended
  if s.inputs.evacuating = true then lost.requestEntry (.system s.now (.evacEnd .supplyReturn)) else lost

theorem returned_sent (s : State) : s.endHold.resumeTime.sent =
    (if s.time.lostInHold = true
      then (s.requestEntry (.system s.now (.holdEnd s.time.holdBegin))).requestEntry (.system none .clockLost)
      else s.requestEntry (.system s.now (.holdEnd s.time.holdBegin))).sent := by
  have hlost : s.endHold.time.lostInHold = s.time.lostInHold :=
    congrArg TimeBase.lostInHold ((endHold_frame s).same (b := .time) (by decide))
  rw [(resumeTime_frame s.endHold).sent (by decide) (by decide), clockTold_sent, hlost]
  split
  · exact requestEntry_sent _ (endHold_sent s)
  · exact endHold_sent s

theorem returned_now (s : State) : s.endHold.resumeTime.now = s.now := by
  unfold State.now
  rw [returned_time]

theorem returned_inputs (s : State) : s.endHold.resumeTime.inputs = s.inputs :=
  (returned_frame s).same (b := .inputs) (by decide)

theorem cutShort_sent (s : State) : s.endHold.resumeTime.endCutShort.sent = s.returnEntries.sent := by
  have hreturned := returned_sent s
  by_cases hevac : s.inputs.evacuating = true
  · rw [endCutShort_sent (by rw [returned_inputs]; exact hevac), returned_now, State.returnEntries]
    rw [if_pos hevac]
    exact requestEntry_sent _ hreturned
  · rw [endCutShort_of_quiet (by rw [returned_inputs]; simpa using hevac), hreturned, State.returnEntries]
    rw [if_neg hevac]

theorem returned_notices_of_none (h : s.time.holdBegin = none) : s.endHold.resumeTime.notices = s.notices := by
  have hbegin : s.endHold.time.holdBegin = none :=
    (congrArg TimeBase.holdBegin ((endHold_frame s).same (b := .time) (by decide))).trans h
  rw [resumeTime_of_none hbegin, (clockTold_frame s.endHold).same (b := .notices) (by decide),
    (endHold_frame s).same (b := .notices) (by decide)]

theorem returned_notices_of_some {b : Stamp} (h : s.time.holdBegin = some b) :
    s.endHold.resumeTime.notices = { s.notices with
      recordUnit := s.notices.recordUnit ++ [.resumption b (s.time.day * 86400 + s.time.second)]
      scheduleUnit := s.notices.scheduleUnit ++ [.resumption b (s.time.day * 86400 + s.time.second)]
      bankStore := s.notices.bankStore ++ [.resumption b (s.time.day * 86400 + s.time.second)] } := by
  have htime : s.endHold.time = s.time := (endHold_frame s).same (b := .time) (by decide)
  have hnotices : s.endHold.clockTold.notices = s.notices :=
    ((clockTold_frame s.endHold).same (b := .notices) (by decide)).trans
      ((endHold_frame s).same (b := .notices) (by decide))
  rw [resumeTime_of_some (by rw [htime, h]), htime, ← hnotices]
  rfl

theorem returned_supply (s : State) : s.endHold.resumeTime.supply =
    { s.supply with state := .run, resetCause := .supplyReturn, returnedAt := some s.time.elapsed } := by
  rw [(resumeTime_frame s.endHold).same (b := .supply) (by decide),
    (clockTold_frame s.endHold).same (b := .supply) (by decide), endHold_supply]

/-- The state after the return's entries and an evacuation cut short. -/
theorem cutShort_frame (s : State) : unchangedBut [.time, .roster, .lanes, .inputs, .spool, .link, .supply, .notices] s
    s.endHold.resumeTime.endCutShort :=
  ((returned_frame s).mono (by decide)).trans ((endCutShort_frame _).mono (by decide))

section
variable (hgrants : ∀ l, (s.lane l).grant = none)
include hgrants

theorem leaveHold_after : unchangedBut [.lanes, .punch, .inputs] s.endHold.resumeTime.endCutShort s.leaveHold := by
  rw [leaveHold_eq hgrants]
  exact (sampledAgain_frame _).trans ((retakeLevels_frame _).mono (by decide))

theorem leaveHold_lane (l : LaneId) : s.leaveHold.lane l = { s.endHold.resumeTime.endCutShort.lane l with
    encoder := 0, requested := (s.endHold.resumeTime.endCutShort.lane l).wantsRelease } := by
  rw [leaveHold_eq hgrants, retakeLevels_lane, sampledAgain_lane]
  rfl

theorem leaveHold_punch : s.leaveHold.punch = { s.punch with
    position := none, outstanding := none, verdicts := [], heads := Vector.replicate 16 ⟨false, 0⟩ } := by
  rw [leaveHold_eq hgrants, (retakeLevels_frame _).same (b := .punch) (by decide), sampledAgain_punch,
    (cutShort_frame s).same (b := .punch) (by decide)]

/-- Every release output is driven as the rules give it (R160). -/
theorem leaveHold_drivenRelease (l : LaneId) : s.leaveHold.inputs.drivenRelease[l] = s.leaveHold.driveRelease l := by
  rw [leaveHold_eq hgrants, retakeLevels_driveRelease]
  exact retakeLevels_drivenRelease _ l

end

theorem cutShort_lane_of_quiet (h : s.inputs.evacuating = false) (l : LaneId) :
    s.endHold.resumeTime.endCutShort.lane l = s.lane l := by
  rw [endCutShort_of_quiet (by rw [returned_inputs, h]), returned_lane]

theorem cutShort_lane_of_evacuating (h : s.inputs.evacuating = true) (l : LaneId) :
    s.endHold.resumeTime.endCutShort.lane l = (s.lane l).restored (s.inPair l) s.time.elapsed := by
  rw [endCutShort_lane (by rw [returned_inputs, h]), returned_lane,
    inPair_congr (fun k => congrArg Lane.setup (returned_lane s k)), State.elapsed, returned_time]

/-- The inputs but for the evacuation state are then as they were. -/
theorem cutShort_inputs (s : State) : s.endHold.resumeTime.endCutShort.inputs = { s.inputs with
    evacuating := false
    startingWatch := if s.inputs.evacuating = true then none else s.inputs.startingWatch } := by
  by_cases h : s.inputs.evacuating = true
  · rw [endCutShort_inputs (by rw [returned_inputs, h]), returned_inputs, if_pos h]
  · have hquiet : s.inputs.evacuating = false := by simpa using h
    rw [endCutShort_of_quiet (by rw [returned_inputs, hquiet]), returned_inputs, if_neg h, ← hquiet]

theorem cutShort_time (s : State) : s.endHold.resumeTime.endCutShort.time = { s.time with lostInHold := false } :=
  ((endCutShort_frame _).same (b := .time) (by decide)).trans (returned_time s)

theorem cutShort_setup (s : State) : s.endHold.resumeTime.endCutShort.setup = s.setup :=
  (cutShort_frame s).same (b := .setup) (by decide)

/-- The inputs as a return leaves them, but for the driven levels. -/
theorem leaveHold_inputs (hgrants : ∀ l, (s.lane l).grant = none) : ∃ v w, s.leaveHold.inputs = { s.inputs with
    evacuating := false
    startingWatch := if s.inputs.evacuating = true then none else s.inputs.startingWatch
    equal := Vector.replicate 4 false
    nextGeneral := s.time.elapsed + s.setup.general.generalDebounce.period
    nextContacts := s.time.elapsed + s.setup.general.contactDebounce.period
    nextEncoders := s.time.elapsed + s.setup.general.encoderDebounce.period
    drivenRelease := v, drivenBell := w } := by
  obtain ⟨v, w, h⟩ := InputSampler.eq_of_undriven (retakeLevels_undriven s.endHold.resumeTime.endCutShort.sampledAgain)
  refine ⟨v, w, ?_⟩
  rw [leaveHold_eq hgrants, h, sampledAgain_inputs, State.resumeSampling, State.elapsed, cutShort_time, cutShort_setup,
    cutShort_inputs]
  rfl

/-- A lane's count returned to 0 and its requested level taken again where that is what it was (R71). -/
theorem Lane.levelAgain {x : Lane} (h : x.requested = x.wantsRelease) :
    { x with encoder := 0, requested := x.wantsRelease } = { x with encoder := 0 } := by
  rw [← h]

/-- A lane that remembers no mode keeps the one it has; one that remembers a mode takes it (R91, R165). -/
theorem leaveHold_lane_of_evacuating (hgrants : ∀ l, (s.lane l).grant = none)
    (hrequested : ∀ l, (s.lane l).requested = (s.lane l).wantsRelease) (hmodes : s.modeLaw)
    (hevac : s.inputs.evacuating = true) (l : LaneId) :
    (s.leaveHold.lane l).remembered = none ∧ (s.leaveHold.lane l).mode ≠ .egress ∧ (s.leaveHold.lane l).encoder = 0 ∧
      ((s.lane l).remembered = none → s.leaveHold.lane l = { s.lane l with encoder := 0 }) ∧
      ∀ m, (s.lane l).remembered = some m →
        let mode := (if m = .free ∧ s.inPair l = true then AskMode.secure else m).toLaneMode
        s.leaveHold.lane l = { s.lane l with
          encoder := 0, remembered := none, mode := mode, requested := decide (mode = .free)
          heldTimer := if (s.lane l).doorOpen = true ∧ mode ≠ .free
            then some (s.time.elapsed + 1000 * (s.lane l).setup.heldLimit) else (s.lane l).heldTimer } := by
  obtain ⟨hegress, hremembers, -⟩ := hmodes l
  rw [leaveHold_lane hgrants, cutShort_lane_of_evacuating hevac]
  cases hm : (s.lane l).remembered with
  | none =>
    have hunused : ¬ (s.lane l).mode = .egress := fun h => by simpa [hm] using hremembers.2 (hegress.1 h)
    rw [Lane.restored_of_none _ _ hm, Lane.levelAgain (hrequested l)]
    exact ⟨hm, hunused, rfl, fun _ => rfl, fun m h => by cases h⟩
  | some m =>
    have hused := hremembers.1 (by rw [hm]; rfl)
    have hrestored := Lane.restored_of_some (s.inPair l) s.time.elapsed hm (hegress.2 hused)
    have hwants := Lane.wantsRelease_of_asked (x := (s.lane l).restored (s.inPair l) s.time.elapsed)
      (by rw [Lane.restored_grant, hgrants]) (by rw [Lane.restored_setup]; exact hused.2) (by rw [hrestored])
    rw [hwants, hrestored]
    exact ⟨rfl, AskMode.toLaneMode_ne_egress _, rfl, fun h => (by cases h), fun k hk => by cases hk; rfl⟩

theorem leaveHold_sent (hgrants : ∀ l, (s.lane l).grant = none) :
    s.leaveHold.spool = s.returnEntries.spool ∧ s.leaveHold.link = s.returnEntries.link :=
  State.sent_eq_iff.1 (((leaveHold_after hgrants).sent (by decide) (by decide)).trans (cutShort_sent s))

end

/-- Settles O57: the return's stages one after the other, and with no grant held the levels settle without a look. -/
theorem supplyReturnResumesThePart : Obligations.SupplyReturnResumesThePart := by
  intro s hhold hlevels hmodes hgrants
  obtain ⟨hrequested, -, -⟩ := hlevels
  have hafter := leaveHold_after hgrants
  obtain ⟨v, w, hinputs⟩ := leaveHold_inputs hgrants
  have hpunch := leaveHold_punch hgrants
  obtain ⟨hspool, hlink⟩ := leaveHold_sent hgrants
  have hresumed : s.leaveHold.notices = s.endHold.resumeTime.notices :=
    (hafter.same (b := .notices) (by decide)).trans ((endCutShort_frame _).same (b := .notices) (by decide))
  refine ⟨s.leaveHold, ?_, ((cutShort_frame s).mono (by decide)).trans (hafter.mono (by decide)), ?_, ?_,
    hspool, hlink, fun hnone => hresumed.trans (returned_notices_of_none hnone),
    fun b hb => hresumed.trans (returned_notices_of_some hb), ?_, fun hquiet => ⟨?_, fun l => ?_⟩,
    fun hevac => ⟨?_, ?_, leaveHold_lane_of_evacuating hgrants hrequested hmodes hevac⟩, fun k => ?_, ?_, ?_, ?_, ?_, ?_,
    fun i => ?_, ?_, ?_, ?_, leaveHold_drivenRelease hgrants⟩
  · change execSupplyReturn s = _
    unfold execSupplyReturn
    rw [hhold]
  · rw [hafter.same (b := .supply) (by decide), (endCutShort_frame _).same (b := .supply) (by decide), returned_supply]
  · rw [hafter.same (b := .time) (by decide), cutShort_time]
  · rw [hinputs]
  · rw [hafter.same (b := .roster) (by decide), endCutShort_of_quiet (by rw [returned_inputs, hquiet]),
      (returned_frame s).same (b := .roster) (by decide)]
  · rw [leaveHold_lane hgrants, cutShort_lane_of_quiet hquiet, Lane.levelAgain (hrequested l)]
  · rw [hinputs]
    exact if_pos hevac
  · rw [hafter.same (b := .roster) (by decide), endCutShort_epoch (by rw [returned_inputs, hevac]),
      (returned_frame s).same (b := .roster) (by decide)]
  · rw [hinputs]
    exact Vector.getElem_replicate _
  · rw [hinputs]
  · rw [hinputs]
  · rw [hinputs]
  · rw [hinputs]
  · rw [hinputs]
  · rw [State.headAt, hpunch]
    exact Vector.getElem_replicate _
  · rw [hpunch]
  · rw [hpunch]
  · rw [hpunch]

end Sys2Proof.Machine
end

section
/-! ## Supply hold, and supplies lost (R194, R196) -/
namespace Sys2Proof.Machine

/-! ### A checked write with every word sound (R20, R33) -/

/-- A value that is not what an unlisted key reads as is read back, whatever the form of the table. -/
theorem cellsGet_put_of_ne {α : Type} [DecidableEq α] {d v : α} (hv : v ≠ d) (l : List (Nat × α)) (k : Nat) :
    cellsGet d (cellsPut d l k v) k = v := by
  induction l with
  | nil => simp [cellsPut, cellsGet, hv]
  | cons c rest ih =>
    obtain ⟨j, w⟩ := c
    simp only [cellsPut, if_neg hv]
    split
    · simp [cellsGet]
    · split
      · simp [cellsGet]
      · next hne =>
        rw [cellsGet, if_neg (Ne.symm hne)]
        exact ih

section
variable {s : State}

theorem checkedRead_of_sound (h : s.soundWords) (a : Nat) : s.checkedRead a = s := by
  unfold State.checkedRead
  cases hdamaged : s.isDamaged a with
  | true => rfl
  | false => simp [h a hdamaged]

/-- A slot that is written and not FREE keeps the words sound where its own are. -/
theorem soundWords_setSlot (h : s.soundWords) {a : Nat} {x : Slot} (hstatus : x.status ≠ .free)
    (hx : s.isDamaged a = false → x.errors = ⟨0, false⟩) : (s.setSlot a x).soundWords := by
  intro c hc
  have hdamage : s.isDamaged c = false := hc
  by_cases hac : a = c
  · subst hac
    have hread : (s.setSlot a x).slot a = x :=
      cellsGet_put_of_ne (fun hfree => hstatus (congrArg Slot.status hfree)) s.roster.slots.cells a
    rw [hread]
    exact hx hdamage
  · have hread : (s.setSlot a x).slot c = s.slot c := Tab.get_put_other _ _ _ _ _ hac
    rw [hread]
    exact h c hdamage

theorem slot_of_status_active {a : Nat} (h : s.statusOf a = .active) : (s.slot a).status = .active := by
  unfold State.statusOf at h
  split at h
  · cases h
  · split at h
    · cases h
    · assumption
    · cases h

theorem slot_of_status_withdrawn {a : Nat} (h : s.statusOf a = .withdrawn) : (s.slot a).status = .withdrawn := by
  unfold State.statusOf at h
  split at h
  · cases h
  · split at h
    · cases h
    · cases h
    · assumption

/-- With every word sound a mark is cleared without a word corrected or a slot damaged. -/
theorem clearMark_of_sound (h : s.soundWords) (l : LaneId) (slot : Option Nat) :
    (s.clearMark l slot).soundWords ∧ unchangedBut [.roster] s (s.clearMark l slot) := by
  cases slot with
  | none => exact ⟨h, .refl _ _⟩
  | some a =>
    have hwrite : ∀ y : Slot, y.status = (s.slot a).status → y.errors = (s.slot a).errors →
        (s.slot a).status ≠ .free →
        (s.setSlot a y).soundWords ∧ unchangedBut [.roster] s (s.setSlot a y) := fun y hstatus herrors hfree =>
      ⟨soundWords_setSlot h (hstatus ▸ hfree) fun hd => herrors.trans (h a hd), frame_setSlot _ _ (.refl _ _) (by decide)⟩
    unfold State.clearMark State.writeSlot
    simp only [checkedRead_of_sound h]
    split
    · next hactive => exact hwrite _ rfl rfl (by rw [slot_of_status_active hactive]; decide)
    · next hwithdrawn => exact hwrite _ rfl rfl (by rw [slot_of_status_withdrawn hwithdrawn]; decide)
    · exact ⟨h, .refl _ _⟩
    · exact ⟨h, .refl _ _⟩

end

/-! ### What a lane holds of a grant's or a wait's course (R53, R65, R70) -/

/-- A lane's activity, grant and pending setup, its referral wait and its handed punch. -/
structure LaneCourse where
  activity : Activity
  grant : Option Grant
  pendingSetup : Option LaneSetup
  wait : Option ReferralWait
  handed : Option HandedPunch

def State.course (s : State) (l : LaneId) : LaneCourse :=
  { activity := (s.lane l).activity, grant := (s.lane l).grant, pendingSetup := (s.lane l).pendingSetup
    wait := s.punch.waits[l], handed := s.handedAt l }

/-- Between two states no lane's course has changed, nor the evacuation state or a capture. -/
def sameCourse (s t : State) : Prop :=
  (∀ l, t.course l = s.course l) ∧ t.inputs.evacuating = s.inputs.evacuating ∧ t.inputs.captures = s.inputs.captures

section
variable {s t u : State}

theorem sameCourse.refl (s : State) : sameCourse s s := ⟨fun _ => rfl, rfl, rfl⟩

theorem sameCourse.trans (h : sameCourse s t) (g : sameCourse t u) : sameCourse s u :=
  ⟨fun l => (g.1 l).trans (h.1 l), g.2.1.trans h.2.1, g.2.2.trans h.2.2⟩

theorem course_congr {l : LaneId} (hlane : (t.lane l).activity = (s.lane l).activity ∧ (t.lane l).grant = (s.lane l).grant ∧
    (t.lane l).pendingSetup = (s.lane l).pendingSetup) (hwaits : t.punch.waits = s.punch.waits)
    (hhanded : t.punch.handed = s.punch.handed) : t.course l = s.course l := by
  obtain ⟨hactivity, hgrant, hpending⟩ := hlane
  unfold State.course State.handedAt
  rw [hactivity, hgrant, hpending, hwaits, hhanded]

/-- A lane replaced by one with the same activity, grant and pending setup. -/
theorem sameCourse_setLane (h : sameCourse s t) (l : LaneId) {x : Lane} (hactivity : x.activity = (t.lane l).activity)
    (hgrant : x.grant = (t.lane l).grant) (hpending : x.pendingSetup = (t.lane l).pendingSetup) :
    sameCourse s (t.setLane l x) := by
  refine h.trans ⟨fun m => course_congr ?_ rfl rfl, rfl, rfl⟩
  by_cases hlm : l = m
  · subst hlm
    rw [State.setLane_same]
    exact ⟨hactivity, hgrant, hpending⟩
  · rw [State.setLane_other _ _ _ _ hlm]
    exact ⟨rfl, rfl, rfl⟩

theorem sameCourse_setInputs (h : sameCourse s t) {x : InputSampler} (hevacuating : x.evacuating = t.inputs.evacuating)
    (hcaptures : x.captures = t.inputs.captures) : sameCourse s (t.setInputs x) :=
  h.trans ⟨fun _ => rfl, hevacuating, hcaptures⟩

theorem sameCourse_setPunch (h : sameCourse s t) {x : PunchUnit} (hwaits : x.waits = t.punch.waits)
    (hhanded : x.handed = t.punch.handed) : sameCourse s (t.setPunch x) :=
  h.trans ⟨fun _ => course_congr ⟨rfl, rfl, rfl⟩ hwaits hhanded, rfl, rfl⟩

theorem sameCourse_ite {c : Prop} [Decidable c] (ht : sameCourse s t) (hu : sameCourse s u) :
    sameCourse s (if c then t else u) := by
  split
  · exact ht
  · exact hu

theorem sameCourse_foldl {α : Type} {f : State → α → State} (hf : ∀ v a, sameCourse s v → sameCourse s (f v a)) (l : List α)
    (h : sameCourse s t) : sameCourse s (l.foldl f t) := by
  induction l generalizing t with
  | nil => exact h
  | cons a rest ih => exact ih (hf t a h)

theorem sameCourse_setMode (h : sameCourse s t) (l : LaneId) (m : LaneMode) : sameCourse s (t.setMode l m) :=
  sameCourse_ite h (sameCourse_setLane h l rfl rfl rfl)

theorem sameCourse_restoreMode (h : sameCourse s t) (l : LaneId) : sameCourse s (t.restoreMode l) := by
  unfold State.restoreMode
  split
  · exact h
  · exact sameCourse_setLane (sameCourse_setMode h l _) l rfl rfl rfl

theorem sameCourse_kindInEvacuation (h : sameCourse s t) (l : LaneId) (was now : LaneKind) :
    sameCourse s (t.kindInEvacuation l was now) :=
  sameCourse_ite (sameCourse_ite (sameCourse_setLane h l rfl rfl rfl) (sameCourse_ite (sameCourse_restoreMode h l) h)) h

theorem sameCourse_fitPairMember (h : sameCourse s t) (l : LaneId) : sameCourse s (t.fitPairMember l) := by
  have hmode : sameCourse s (if (t.lane l).mode = .free then t.setMode l .secure else t) :=
    sameCourse_ite (sameCourse_setMode h l _) h
  have hremembered := fun v (hv : sameCourse s v) => sameCourse_ite (c := (v.lane l).remembered = some .free)
    (sameCourse_setLane (x := { v.lane l with remembered := some .secure }) hv l rfl rfl rfl) hv
  exact sameCourse_ite (sameCourse_setInputs (hremembered _ hmode) rfl rfl) (hremembered _ hmode)

theorem sameCourse_fitPair (h : sameCourse s t) (l : LaneId) : sameCourse s (t.fitPair l) := by
  unfold State.fitPair
  split
  · exact h
  · exact sameCourse_fitPairMember (sameCourse_fitPairMember h _) _

theorem sameCourse_dropIfLeft (h : sameCourse s t) (before : Bool) (i : Head) : sameCourse s (t.dropIfLeft before i) :=
  sameCourse_ite (sameCourse_setPunch h rfl rfl) h

theorem sameCourse_keepDead (was : State) (l : LaneId) (h : sameCourse s t) : sameCourse s (State.keepDead was t l) :=
  sameCourse_setLane h l rfl rfl rfl

/-- The lane as a setup of another kind, of another passage step, or of neither is applied to it (R66). -/
def State.takenSetup (s : State) (l : LaneId) (setup : LaneSetup) : Lane :=
  if (s.lane l).setup.kind ≠ setup.kind then s.takenKind l { s.lane l with setup := setup }
  else if (s.lane l).setup.passageStep ≠ setup.passageStep then { s.lane l with setup := setup, encoder := 0 }
  else { s.lane l with setup := setup }

/-- The state as a setup is applied to its lane, before the pair, the dead times and the heads follow (R66). -/
def State.placeSetup (s : State) (l : LaneId) (setup : LaneSetup) : State :=
  (if (s.lane l).setup.kind ≠ setup.kind then s.fitToKind l else s).setLane l (s.takenSetup l setup)

theorem sameCourse_placeSetup (h : sameCourse s t) (l : LaneId) (x : LaneSetup) : sameCourse s (t.placeSetup l x) := by
  have hlane : (t.takenSetup l x).activity = (t.lane l).activity ∧ (t.takenSetup l x).grant = (t.lane l).grant ∧
      (t.takenSetup l x).pendingSetup = (t.lane l).pendingSetup := by
    unfold State.takenSetup
    split_ifs <;> exact ⟨rfl, rfl, rfl⟩
  obtain ⟨hactivity, hgrant, hpending⟩ := hlane
  unfold State.placeSetup
  split
  · exact sameCourse_setLane (t := t.fitToKind l) (sameCourse_setInputs h rfl rfl) l hactivity hgrant hpending
  · exact sameCourse_setLane h l hactivity hgrant hpending

/-- A setup applied changes no lane's course. -/
theorem sameCourse_applySetup (h : sameCourse s t) (l : LaneId) (x : LaneSetup) : sameCourse s (t.applySetup l x) := by
  have hpair := sameCourse_fitPair
    (sameCourse_kindInEvacuation (sameCourse_placeSetup h l x) l (t.lane l).setup.kind x.kind) l
  exact sameCourse_dropIfLeft (sameCourse_dropIfLeft
    (sameCourse_foldl (fun v m => sameCourse_keepDead (t := v) t m) _ hpair) _ _) _ _

end

/-! ### A lane left IDLE, its grant voided or its wait cancelled (R57, R62, R65, R73) -/

/-- A course with the lane IDLE and no setup pending. -/
def LaneCourse.idle (x : LaneCourse) : LaneCourse := { x with activity := .idle, grant := none, pendingSetup := none }

/-- A course with its grant voided, where it holds one. -/
def LaneCourse.voided (x : LaneCourse) : LaneCourse :=
  match x.grant with
  | none => x
  | some _ => { x.idle with handed := none }

/-- A course with its referral wait cancelled, where it holds one. -/
def LaneCourse.cancelled (x : LaneCourse) : LaneCourse :=
  match x.wait with
  | none => x
  | some _ => { x.idle with wait := none }

section
variable (s : State) (l : LaneId)

/-- The lane IDLE, before a pending setup is applied. -/
def State.idled (s : State) (l : LaneId) : State :=
  s.setLane l { s.lane l with activity := .idle, grant := none, pendingSetup := none }

theorem becomeIdle_sameCourse : sameCourse (s.idled l) (s.becomeIdle l) := by
  unfold State.becomeIdle
  dsimp only
  split
  · exact .refl _
  · exact sameCourse_applySetup (.refl _) l _

theorem idled_course_same : (s.idled l).course l = (s.course l).idle := by
  unfold State.idled State.course
  rw [State.setLane_same]
  rfl

theorem idled_course_other {m : LaneId} (h : l ≠ m) : (s.idled l).course m = s.course m := by
  unfold State.idled State.course
  rw [State.setLane_other _ _ _ _ h]
  rfl

theorem becomeIdle_course_same : (s.becomeIdle l).course l = (s.course l).idle :=
  ((becomeIdle_sameCourse s l).1 l).trans (idled_course_same s l)

theorem becomeIdle_course_other {m : LaneId} (h : l ≠ m) : (s.becomeIdle l).course m = s.course m :=
  ((becomeIdle_sameCourse s l).1 m).trans (idled_course_other s l h)

/-- The handed punch of a grant that ends is dropped. -/
theorem dropHanded_from_setHanded : unchangedBut [.roster, .records, .spool, .link]
    (if (s.handedAt l).isSome then s.setHanded l none else s) (s.dropHanded l) := by
  unfold State.dropHanded
  cases s.handedAt l with
  | none => exact .refl _ _
  | some p => exact frame_clearMark _ _ (.refl _ _) (by decide) (by decide) (by decide) (by decide)

theorem dropHanded_lanes : (s.dropHanded l).lanes = s.lanes := by
  rw [(dropHanded_from_setHanded s l).same (b := .lanes) (by decide)]
  split <;> rfl

theorem dropHanded_waits : (s.dropHanded l).punch.waits = s.punch.waits := by
  rw [(dropHanded_from_setHanded s l).same (b := .punch) (by decide)]
  split <;> rfl

theorem dropHanded_inputs : (s.dropHanded l).inputs = s.inputs := by
  rw [(dropHanded_from_setHanded s l).same (b := .inputs) (by decide)]
  split <;> rfl

theorem dropHanded_handed_same : (s.dropHanded l).handedAt l = none := by
  rw [State.handedAt, (dropHanded_from_setHanded s l).same (b := .punch) (by decide)]
  split
  · exact putAt_same _ l none
  · next h => exact Option.not_isSome_iff_eq_none.1 h

theorem dropHanded_handed_other {m : LaneId} (h : l ≠ m) : (s.dropHanded l).handedAt m = s.handedAt m := by
  rw [State.handedAt, (dropHanded_from_setHanded s l).same (b := .punch) (by decide)]
  split
  · exact putAt_other _ l m none h
  · rfl

/-- In supply hold a void notice drops the handed punch, and neither verdict nor report is given (R57, R62). -/
theorem voidPunch_supplyHold : s.voidPunch l .supplyHold = s.dropHanded l := by
  unfold State.voidPunch
  split
  · next h => rw [State.dropHanded, h]
  · rfl

theorem voidGrant_of_none (h : (s.lane l).grant = none) : State.voidGrant .supplyHold s l = s := by
  unfold State.voidGrant
  rw [h]

theorem voidGrant_of_some {g : Grant} (h : (s.lane l).grant = some g) :
    State.voidGrant .supplyHold s l = (s.dropHanded l).becomeIdle l := by
  unfold State.voidGrant
  rw [h, ← voidPunch_supplyHold]
  rfl

theorem dropHanded_lane (m : LaneId) : (s.dropHanded l).lane m = s.lane m :=
  congrArg (fun v : Vector Lane 8 => v[m]) (dropHanded_lanes s l)

theorem dropHanded_course_same : (s.dropHanded l).course l = { s.course l with handed := none } := by
  unfold State.course
  rw [dropHanded_lane, dropHanded_waits, dropHanded_handed_same]

theorem dropHanded_course_other {m : LaneId} (h : l ≠ m) : (s.dropHanded l).course m = s.course m := by
  unfold State.course
  rw [dropHanded_lane, dropHanded_waits, dropHanded_handed_other s l h]

theorem voidGrant_course_same : (State.voidGrant .supplyHold s l).course l = (s.course l).voided := by
  cases hgrant : (s.lane l).grant with
  | none =>
    have hcourse : (s.course l).grant = none := hgrant
    rw [voidGrant_of_none s l hgrant, LaneCourse.voided, hcourse]
  | some g =>
    have hcourse : (s.course l).grant = some g := hgrant
    rw [voidGrant_of_some s l hgrant, becomeIdle_course_same, dropHanded_course_same, LaneCourse.voided, hcourse]
    rfl

theorem voidGrant_course_other {m : LaneId} (h : l ≠ m) : (State.voidGrant .supplyHold s l).course m = s.course m := by
  cases hgrant : (s.lane l).grant with
  | none => rw [voidGrant_of_none s l hgrant]
  | some g => rw [voidGrant_of_some s l hgrant, becomeIdle_course_other _ _ h, dropHanded_course_other s l h]

/-- The state without the wait of a lane. -/
def State.dropWait (s : State) (l : LaneId) : State := s.setPunch { s.punch with waits := putAt s.punch.waits l none }

theorem cancelWait_of_none (h : s.punch.waits[l] = none) : State.cancelWait false s l = s := by
  unfold State.cancelWait
  rw [h]

theorem cancelWait_of_some {w : ReferralWait} (h : s.punch.waits[l] = some w) :
    State.cancelWait false s l = (s.dropWait l).becomeIdle l := by
  unfold State.cancelWait
  rw [h]
  rfl

theorem dropWait_course_same : (s.dropWait l).course l = { s.course l with wait := none } := by
  have hwait : (s.dropWait l).punch.waits[l] = none := putAt_same _ l none
  unfold State.course
  rw [hwait]
  rfl

theorem dropWait_course_other {m : LaneId} (h : l ≠ m) : (s.dropWait l).course m = s.course m := by
  have hwait : (s.dropWait l).punch.waits[m] = s.punch.waits[m] := putAt_other _ l m none h
  unfold State.course
  rw [hwait]
  rfl

theorem cancelWait_course_same : (State.cancelWait false s l).course l = (s.course l).cancelled := by
  cases hwait : s.punch.waits[l] with
  | none =>
    have hcourse : (s.course l).wait = none := hwait
    rw [cancelWait_of_none s l hwait, LaneCourse.cancelled, hcourse]
  | some w =>
    have hcourse : (s.course l).wait = some w := hwait
    rw [cancelWait_of_some s l hwait, becomeIdle_course_same, dropWait_course_same, LaneCourse.cancelled, hcourse]
    rfl

theorem cancelWait_course_other {m : LaneId} (h : l ≠ m) : (State.cancelWait false s l).course m = s.course m := by
  cases hwait : s.punch.waits[l] with
  | none => rw [cancelWait_of_none s l hwait]
  | some w => rw [cancelWait_of_some s l hwait, becomeIdle_course_other _ _ h, dropWait_course_other s l h]

end

/-- A lane at rest: IDLE, with no grant, no pending setup, no wait and no handed punch. -/
def LaneCourse.rest : LaneCourse := { activity := .idle, grant := none, pendingSetup := none, wait := none, handed := none }

theorem course_eq_rest {s : State} {l : LaneId} (h : s.course l = .rest) :
    (s.lane l).activity = .idle ∧ (s.lane l).grant = none ∧ (s.lane l).pendingSetup = none ∧ s.punch.waits[l] = none ∧
      s.handedAt l = none := by
  simpa only [State.course, LaneCourse.rest, LaneCourse.mk.injEq] using h

/-- By the law of the lanes a lane whose grant is voided and whose wait is cancelled is at rest (R70, R73). -/
theorem voided_cancelled_rest {s : State} (h : s.laneLaw) (l : LaneId) : (s.course l).voided.cancelled = .rest := by
  obtain ⟨hreleased, hwaiting, hreferral, hhanded, hpending⟩ := h l
  cases hgrant : (s.lane l).grant with
  | some g =>
    have hactivity : (s.lane l).activity ≠ .referralWait := by
      cases hphase : g.phase with
      | released => rw [hreleased.2 ⟨g, hgrant, hphase⟩]; decide
      | waiting => rw [hwaiting.2 ⟨g, hgrant, hphase⟩]; decide
    have hwait : s.punch.waits[l] = none := Option.not_isSome_iff_eq_none.1 fun hw => hactivity (hreferral.2 hw)
    have hvoided : (s.course l).voided = { (s.course l).idle with handed := none } := by
      rw [LaneCourse.voided, show (s.course l).grant = some g from hgrant]
    rw [hvoided, LaneCourse.cancelled, show ({ (s.course l).idle with handed := none } : LaneCourse).wait = none from hwait]
    simp [LaneCourse.idle, LaneCourse.rest, State.course, hwait]
  | none =>
    have hpunch : s.handedAt l = none := Option.not_isSome_iff_eq_none.1 fun hp => by
      obtain ⟨g, hg, -⟩ := hhanded.1 hp
      rw [hgrant] at hg
      cases hg
    have hvoided : (s.course l).voided = s.course l := by
      rw [LaneCourse.voided, show (s.course l).grant = none from hgrant]
    rw [hvoided]
    cases hwait : s.punch.waits[l] with
    | some w =>
      rw [LaneCourse.cancelled, show (s.course l).wait = some w from hwait]
      simp [LaneCourse.idle, LaneCourse.rest, State.course, hpunch]
    | none =>
      have hidle : (s.lane l).activity = .idle := by
        cases hactivity : (s.lane l).activity with
        | idle => rfl
        | referralWait => simpa [hwait] using hreferral.1 hactivity
        | interlockWait => simpa [hgrant] using hwaiting.1 hactivity
        | released => simpa [hgrant] using hreleased.1 hactivity
      have hsetup : (s.lane l).pendingSetup = none := Option.not_isSome_iff_eq_none.1 fun hp => hpending hp hidle
      rw [LaneCourse.cancelled, show (s.course l).wait = none from hwait]
      simp [LaneCourse.rest, State.course, hidle, hgrant, hsetup, hwait, hpunch]

/-! ### Every grant voided and every wait cancelled (R62, R93) -/

/-- The state with every lane's grant voided and every wait cancelled, as a supply hold begins. -/
def State.lanesEnded (s : State) : State :=
  allLanes.foldl (State.cancelWait false) (allLanes.foldl (State.voidGrant .supplyHold) s)

section
variable {s : State}

theorem lanesEnded_course (s : State) (l : LaneId) : s.lanesEnded.course l = (s.course l).voided.cancelled := by
  rw [State.lanesEnded, allLanes_foldl (P := State.course) (F := fun _ x => x.cancelled) cancelWait_course_same
    fun u m n => cancelWait_course_other u m, allLanes_foldl (P := State.course) (F := fun _ x => x.voided)
    voidGrant_course_same fun u m n => voidGrant_course_other u m]

theorem soundWords_congr {s t : State} (h : s.soundWords) (hroster : t.roster = s.roster) : t.soundWords := by
  intro a
  have hs := h a
  unfold State.isDamaged State.slot at *
  rwa [hroster]

theorem dropHanded_of_sound (h : s.soundWords) (l : LaneId) :
    (s.dropHanded l).soundWords ∧ unchangedBut [.roster, .punch] s (s.dropHanded l) := by
  unfold State.dropHanded
  cases s.handedAt l with
  | none => exact ⟨h, .refl _ _⟩
  | some p =>
    obtain ⟨hsound, hframe⟩ := clearMark_of_sound (s := s.setHanded l none) (soundWords_congr h rfl) l p.slot
    exact ⟨hsound, (frame_setHanded l none (.refl _ _) (by decide)).trans (hframe.mono (by decide))⟩

/-- What voiding grants and cancelling waits may change while every word is sound. -/
def endedBlocks : List Block := [.roster, .punch, .lanes, .inputs]

theorem voidGrant_of_sound (h : s.soundWords) (l : LaneId) :
    (State.voidGrant .supplyHold s l).soundWords ∧ unchangedBut endedBlocks s (State.voidGrant .supplyHold s l) := by
  cases hgrant : (s.lane l).grant with
  | none =>
    rw [voidGrant_of_none s l hgrant]
    exact ⟨h, .refl _ _⟩
  | some g =>
    obtain ⟨hsound, hframe⟩ := dropHanded_of_sound h l
    have hidle : unchangedBut [.punch, .lanes, .inputs] (s.dropHanded l) ((s.dropHanded l).becomeIdle l) :=
      frame_becomeIdle l (.refl _ _) (by decide) (by decide) (by decide)
    rw [voidGrant_of_some s l hgrant]
    exact ⟨soundWords_congr hsound (hidle.same (b := .roster) (by decide)),
      (hframe.mono (by decide)).trans (hidle.mono (by decide))⟩

/-- With every word sound the ends of grants and waits touch neither the Spool nor the records. -/
theorem lanesEnded_of_sound (h : s.soundWords) : unchangedBut endedBlocks s s.lanesEnded := by
  have hvoided : (allLanes.foldl (State.voidGrant .supplyHold) s).soundWords ∧
      unchangedBut endedBlocks s (allLanes.foldl (State.voidGrant .supplyHold) s) :=
    List.foldlRecOn (motive := fun u : State => u.soundWords ∧ unchangedBut endedBlocks s u) allLanes _ ⟨h, .refl _ _⟩
      fun u hu l _ => ⟨(voidGrant_of_sound hu.1 l).1, hu.2.trans (voidGrant_of_sound hu.1 l).2⟩
  exact frame_foldl (fun _ l hu => frame_cancelWait false l hu (by decide) (by decide) (by decide)) hvoided.2

/-- The evacuation state and the captures, which the ends of grants and waits leave alone. -/
def State.watched (s : State) : Bool × Vector (Option Capture) 4 := (s.inputs.evacuating, s.inputs.captures)

theorem watched_eq_iff {s t : State} : t.watched = s.watched ↔
    t.inputs.evacuating = s.inputs.evacuating ∧ t.inputs.captures = s.inputs.captures := Prod.ext_iff

theorem becomeIdle_watched (s : State) (l : LaneId) : (s.becomeIdle l).watched = s.watched :=
  watched_eq_iff.2 (becomeIdle_sameCourse s l).2

theorem voidGrant_watched (s : State) (l : LaneId) : (State.voidGrant .supplyHold s l).watched = s.watched := by
  cases hgrant : (s.lane l).grant with
  | none => rw [voidGrant_of_none s l hgrant]
  | some g =>
    rw [voidGrant_of_some s l hgrant, becomeIdle_watched]
    unfold State.watched
    rw [dropHanded_inputs]

theorem cancelWait_watched (s : State) (l : LaneId) : (State.cancelWait false s l).watched = s.watched := by
  cases hwait : s.punch.waits[l] with
  | none => rw [cancelWait_of_none s l hwait]
  | some w =>
    rw [cancelWait_of_some s l hwait, becomeIdle_watched]
    rfl

theorem lanesEnded_watched (s : State) : s.lanesEnded.watched = s.watched := by
  rw [State.lanesEnded, foldl_keeps (P := State.watched) cancelWait_watched, foldl_keeps (P := State.watched)
    voidGrant_watched]

/-- What a lane keeps where no setup waits to be applied. -/
def Lane.fixture (x : Lane) : LaneSetup × LaneMode × Bool × Option Elapsed := (x.setup, x.mode, x.doorOpen, x.lastClosing)

theorem Lane.fixture_eq_iff {x y : Lane} : x.fixture = y.fixture ↔
    x.setup = y.setup ∧ x.mode = y.mode ∧ x.doorOpen = y.doorOpen ∧ x.lastClosing = y.lastClosing := by
  simp only [Lane.fixture, Prod.mk.injEq]

theorem Lane.fixture_stopped (x : Lane) (v : Bool) : ({ x with
    held := false, heldTimer := none, exitAllowance := none, requested := v } : Lane).fixture = x.fixture := rfl

/-- No lane has a pending setup, and each lane has its setup, mode, door status and last closing as before. -/
def fixturesKept (s t : State) : Prop :=
  ∀ l, (t.lane l).pendingSetup = none ∧ (t.lane l).fixture = (s.lane l).fixture

theorem becomeIdle_of_no_pending {l : LaneId} (h : (s.lane l).pendingSetup = none) : s.becomeIdle l = s.idled l := by
  unfold State.becomeIdle
  dsimp only
  rw [h]
  rfl

theorem fixturesKept_becomeIdle {t : State} (h : fixturesKept s t) (l : LaneId) : fixturesKept s (t.becomeIdle l) := by
  intro m
  rw [becomeIdle_of_no_pending (h l).1]
  by_cases hlm : l = m
  · subst hlm
    rw [State.idled, State.setLane_same]
    exact ⟨rfl, (h l).2⟩
  · rw [State.idled, State.setLane_other _ _ _ _ hlm]
    exact h m

theorem fixturesKept_voidGrant {t : State} (h : fixturesKept s t) (l : LaneId) :
    fixturesKept s (State.voidGrant .supplyHold t l) := by
  cases hgrant : (t.lane l).grant with
  | none => rwa [voidGrant_of_none t l hgrant]
  | some g =>
    rw [voidGrant_of_some t l hgrant]
    exact fixturesKept_becomeIdle (fun m => by rw [dropHanded_lane]; exact h m) l

theorem fixturesKept_cancelWait {t : State} (h : fixturesKept s t) (l : LaneId) :
    fixturesKept s (State.cancelWait false t l) := by
  cases hwait : t.punch.waits[l] with
  | none => rwa [cancelWait_of_none t l hwait]
  | some w =>
    rw [cancelWait_of_some t l hwait]
    exact fixturesKept_becomeIdle (t := t.dropWait l) h l

theorem lanesEnded_fixtures (h : ∀ l, (s.lane l).pendingSetup = none) : fixturesKept s s.lanesEnded :=
  List.foldlRecOn (motive := fixturesKept s) allLanes _
    (List.foldlRecOn (motive := fixturesKept s) allLanes _ (fun l => ⟨h l, rfl⟩)
      fun _ hu l _ => fixturesKept_voidGrant hu l)
    fun _ hu l _ => fixturesKept_cancelWait hu l

end

/-! ### The entry of a hold (R9, R194) -/

section
variable (s : State)

theorem copyAlarm_spool (e : Entry) (seq : Option Nat) : (s.copyAlarm e seq).spool = s.spool :=
  (frame_copyAlarm (L := [.link]) e seq (.refl _ _) (by decide)).same (b := .spool) (by decide)

theorem requestEntry_spool {s t : State} (e : Entry) (h : t.spool = s.spool) :
    (t.requestEntry e).spool = (s.requestEntry e).spool := by
  unfold State.requestEntry
  rw [h]
  split <;> simp only [copyAlarm_spool, State.appendEntry, State.setSpool_spool, h]

theorem copyAlarm_of_offline (e : Entry) (seq : Option Nat) (h : s.link.online = false) : s.copyAlarm e seq = s := by
  have hreport : ∀ r, s.sendReport r = s := fun r => if_neg (by simp [h])
  cases e with
  | laneAlarm => exact hreport _
  | system => exact hreport _
  | _ => rfl

/-- While OFFLINE an entry leaves no report (R189). -/
theorem requestEntry_link_of_offline {s : State} (e : Entry) (h : s.link.online = false) :
    (s.requestEntry e).link = s.link := by
  unfold State.requestEntry
  split
  · have hcopy := copyAlarm_of_offline (s.appendEntry e) e (some s.spool.next) h
    rw [hcopy]
    rfl
  · have hcopy := copyAlarm_of_offline (s.setSpool { s.spool with dropped := satAdd 65535 s.spool.dropped 1 }) e none h
    rw [hcopy]
    rfl

theorem beginHold_frame : unchangedBut [.time, .spool, .link, .supply] s s.beginHold :=
  frame_beginHold (.refl _ _) (by decide) (by decide) (by decide) (by decide)

theorem beginHold_time : s.beginHold.time =
    { s.time with holdCount := wrapSucc s.time.holdCount, holdBegin := s.now } := requestEntry_time _ _

theorem beginHold_supply : s.beginHold.supply = { s.supply with state := .hold } :=
  (requestEntry_frame _ _).same (b := .supply) (by decide)

theorem beginHold_link : s.beginHold.link = s.link.stop := requestEntry_link_of_offline _ rfl

theorem beginHold_spool :
    s.beginHold.spool = (s.requestEntry (.system s.now (.holdBegin (wrapSucc s.time.holdCount)))).spool :=
  requestEntry_spool _ rfl

theorem beginHold_lane (l : LaneId) : s.beginHold.lane l = s.lane l :=
  congrArg (fun v : Vector Lane 8 => v[l]) ((beginHold_frame s).same (b := .lanes) (by decide))

theorem beginHold_punch : s.beginHold.punch = s.punch := (beginHold_frame s).same (b := .punch) (by decide)

theorem beginHold_course (l : LaneId) : s.beginHold.course l = s.course l :=
  course_congr (by rw [beginHold_lane]; exact ⟨rfl, rfl, rfl⟩) (by rw [beginHold_punch]) (by rw [beginHold_punch])

/-! ### Lanes, gate line, rings and sampling stopped (R41, R93, R147, R155) -/

/-- The state with its lanes' timers and its gate line stopped. -/
def State.gateStopped (s : State) : State := (allLanes.foldl State.holdLane s).stopGateLine

/-- The state with its lanes' timers, its gate line and its rings stopped. -/
def State.ringsStopped (s : State) : State := s.gateStopped.stopRings

/-- The state with its lanes' timers, its gate line, its rings and its sampling stopped, as a supply hold begins. -/
def State.stopped (s : State) : State :=
  s.ringsStopped.heldNotices.setInputs s.ringsStopped.heldNotices.inputs.stop

theorem holdLanes_frame : unchangedBut [.lanes] s (allLanes.foldl State.holdLane s) :=
  frame_foldl (fun _ l h => frame_holdLane l h (by decide)) (.refl _ _)

theorem gateStopped_frame : unchangedBut [.lanes, .punch] s s.gateStopped :=
  frame_stopGateLine ((holdLanes_frame s).mono (by decide)) (by decide)

theorem gateStopped_lane (l : LaneId) :
    s.gateStopped.lane l = { s.lane l with held := false, heldTimer := none, exitAllowance := none } :=
  allLanes_foldl_setLane (F := fun _ x => { x with held := false, heldTimer := none, exitAllowance := none })
    (op := State.holdLane) (fun _ _ => rfl) s l

theorem gateStopped_punch : s.gateStopped.punch = { s.punch with outstanding := none, verdicts := [] } := by
  have hpunch : (allLanes.foldl State.holdLane s).punch = s.punch := (holdLanes_frame s).same (b := .punch) (by decide)
  rw [State.gateStopped, State.stopGateLine, State.setPunch_punch, hpunch]

theorem endAllRings_bells (b : BellId) : s.endAllRings.bells.rings[b] = none ∧ s.endAllRings.bells.requested[b] = .off := by
  have h := allBells_foldl (P := fun (u : State) b => (u.bells.rings[b.val], u.bells.requested[b.val]))
    (F := fun _ _ => (none, .off)) (op := State.endRing)
    (fun u b => by simp only [State.endRing, State.setBell, State.setBells_bells, putAt_same])
    (fun u b c hne => by simp only [State.endRing, State.setBell, State.setBells_bells, putAt_other _ _ _ _ hne]) s b
  exact Prod.ext_iff.1 h

theorem stopRings_bells : s.stopRings.bells = { s.endAllRings.bells with evacSet := none } := rfl

theorem ringsStopped_frame : unchangedBut [.bells] s.gateStopped s.ringsStopped := frame_stopRings (.refl _ _) (by decide)

theorem stopped_from_ringsStopped : unchangedBut [.notices, .inputs] s.ringsStopped s.stopped :=
  frame_setInputs _ (frame_heldNotices (.refl _ _) (by decide)) (by decide)

theorem stopped_frame : unchangedBut [.lanes, .punch, .bells, .notices, .inputs] s s.stopped :=
  ((gateStopped_frame s).mono (by decide)).trans
    (((ringsStopped_frame s).mono (by decide)).trans ((stopped_from_ringsStopped s).mono (by decide)))

theorem stopped_lane (l : LaneId) :
    s.stopped.lane l = { s.lane l with held := false, heldTimer := none, exitAllowance := none } := by
  rw [State.lane, (stopped_from_ringsStopped s).same (b := .lanes) (by decide),
    (ringsStopped_frame s).same (b := .lanes) (by decide), ← State.lane, gateStopped_lane]

theorem stopped_punch : s.stopped.punch = { s.punch with outstanding := none, verdicts := [] } := by
  rw [(stopped_from_ringsStopped s).same (b := .punch) (by decide),
    (ringsStopped_frame s).same (b := .punch) (by decide), gateStopped_punch]

theorem stopped_course (l : LaneId) : s.stopped.course l = s.course l :=
  course_congr (by rw [stopped_lane]; exact ⟨rfl, rfl, rfl⟩) (by rw [stopped_punch]) (by rw [stopped_punch])

theorem stopped_bells : s.stopped.bells = { s.gateStopped.endAllRings.bells with evacSet := none } := by
  rw [(stopped_from_ringsStopped s).same (b := .bells) (by decide), State.ringsStopped, stopRings_bells]

/-- Every output's ring has ended (R147, R151). -/
theorem stopped_bell (b : BellId) : s.stopped.bells.rings[b] = none ∧ s.stopped.bells.requested[b] = .off := by
  rw [stopped_bells]
  exact endAllRings_bells s.gateStopped b

theorem stopped_evacSet : s.stopped.bells.evacSet = none := by
  rw [stopped_bells]

theorem ringsStopped_inputs : s.ringsStopped.inputs = s.inputs := by
  rw [(ringsStopped_frame s).same (b := .inputs) (by decide), (gateStopped_frame s).same (b := .inputs) (by decide)]

/-- Inputs that have stopped, whatever the outputs are driven to: no line has a level and no change waits (R155). -/
theorem InputSampler.of_stop {x y : InputSampler} (h : x.undriven = y.stop.undriven) :
    x.evacuating = y.evacuating ∧ x.captures = y.captures ∧ x.deliveries = [] ∧
      (∀ i : Fin 16, x.general[i].level = none) ∧
      ∀ l : LaneId, x.doors[l].level = none ∧ x.exits[l].level = none ∧ x.encodersA[l].level = none ∧
        x.encodersB[l].level = none := by
  obtain ⟨v, w, rfl⟩ := InputSampler.eq_of_undriven h
  exact ⟨rfl, rfl, rfl, fun i => congrArg Line.level (Vector.getElem_replicate _), fun l =>
    ⟨congrArg Line.level (Vector.getElem_replicate _), congrArg Line.level (Vector.getElem_replicate _),
      congrArg Line.level (Vector.getElem_replicate _), congrArg Line.level (Vector.getElem_replicate _)⟩⟩

theorem stopped_inputs : s.stopped.inputs = s.inputs.stop := by
  rw [← ringsStopped_inputs s]
  rfl

theorem ringsStopped_notices : s.ringsStopped.notices = s.notices := by
  rw [(ringsStopped_frame s).same (b := .notices) (by decide), (gateStopped_frame s).same (b := .notices) (by decide)]

theorem stopped_notices : s.stopped.notices =
    { s.notices with scheduleUnit := s.notices.scheduleUnit.map Notice.overHold } := by
  rw [← ringsStopped_notices s]
  rfl

end

/-! ### The whole entry -/

section
variable {s : State}

/-- The state as a supply hold leaves it, before the levels are taken again. -/
def State.heldDown (s : State) : State := s.beginHold.lanesEnded.stopped

theorem heldDown_course (h : s.laneLaw) (l : LaneId) : s.heldDown.course l = .rest := by
  rw [State.heldDown, stopped_course, lanesEnded_course, beginHold_course, voided_cancelled_rest h]

theorem enterHold_settled (s : State) : s.enterHold = s.heldDown.settle := by
  unfold State.enterHold State.heldDown State.stopped State.ringsStopped State.gateStopped State.lanesEnded
  rfl

theorem enterHold_eq (h : s.laneLaw) : s.enterHold = s.heldDown.retakeLevels := by
  have hgrants : ∀ l, (s.heldDown.lane l).grant = none := fun l => by
    obtain ⟨-, hgrant, -⟩ := course_eq_rest (heldDown_course h l)
    exact hgrant
  rw [enterHold_settled, settle_of_no_grants hgrants]

theorem retakeLevels_course (s : State) (l : LaneId) : s.retakeLevels.course l = s.course l := by
  have hpunch : s.retakeLevels.punch = s.punch := (retakeLevels_frame s).same (b := .punch) (by decide)
  exact course_congr (by rw [retakeLevels_lane]; exact ⟨rfl, rfl, rfl⟩) (by rw [hpunch]) (by rw [hpunch])

theorem driveRelease_of_hold (h : s.supply.state = .hold) (l : LaneId) :
    s.driveRelease l = decide ((s.lane l).setup.fail = .failSafe) := by
  unfold State.driveRelease
  rw [h]

theorem driveBell_of_hold (h : s.supply.state = .hold) (b : BellId) : s.driveBell b = .off := by
  unfold State.driveBell
  rw [h]

/-- Beyond the Supply Monitor's and the Time Base's part, with every word sound. -/
theorem enterHold_after (hlanes : s.laneLaw) (hsound : s.soundWords) :
    unchangedBut [.roster, .punch, .lanes, .bells, .inputs, .notices] s.beginHold s.enterHold := by
  have hbegun := soundWords_congr hsound ((beginHold_frame s).same (b := .roster) (by decide))
  rw [enterHold_eq hlanes]
  exact ((lanesEnded_of_sound hbegun).mono (by decide)).trans
    (((stopped_frame _).mono (by decide)).trans ((retakeLevels_frame _).mono (by decide)))

theorem ended_notices (hsound : s.soundWords) : s.beginHold.lanesEnded.notices = s.notices :=
  ((lanesEnded_of_sound (soundWords_congr hsound ((beginHold_frame s).same (b := .roster) (by decide)))).same
    (b := .notices) (by decide)).trans ((beginHold_frame s).same (b := .notices) (by decide))

theorem ended_supply (hsound : s.soundWords) : s.beginHold.lanesEnded.supply = { s.supply with state := .hold } :=
  ((lanesEnded_of_sound (soundWords_congr hsound ((beginHold_frame s).same (b := .roster) (by decide)))).same
    (b := .supply) (by decide)).trans (beginHold_supply s)

theorem ended_watched (s : State) : s.beginHold.lanesEnded.watched = s.watched := by
  rw [lanesEnded_watched]
  have hinputs : s.beginHold.inputs = s.inputs := (beginHold_frame s).same (b := .inputs) (by decide)
  exact watched_eq_iff.2 ⟨congrArg InputSampler.evacuating hinputs, congrArg InputSampler.captures hinputs⟩

theorem ended_fixtures (h : ∀ l, (s.lane l).pendingSetup = none) (l : LaneId) :
    (s.beginHold.lanesEnded.lane l).fixture = (s.lane l).fixture := by
  have hbegun : ∀ m, (s.beginHold.lane m).pendingSetup = none := fun m => by rw [beginHold_lane, h]
  rw [(lanesEnded_fixtures hbegun l).2, beginHold_lane]

theorem heldDown_supply (hsound : s.soundWords) : s.heldDown.supply.state = .hold := by
  rw [State.heldDown, (stopped_frame _).same (b := .supply) (by decide), ended_supply hsound]

section
variable (hlanes : s.laneLaw)
include hlanes

theorem enterHold_lane (l : LaneId) : ∃ v, s.enterHold.lane l = { s.beginHold.lanesEnded.lane l with
    held := false, heldTimer := none, exitAllowance := none, requested := v } := by
  refine ⟨(s.heldDown.lane l).wantsRelease, ?_⟩
  rw [enterHold_eq hlanes, retakeLevels_lane, State.heldDown, stopped_lane]

theorem enterHold_fixture (hpending : ∀ l, (s.lane l).pendingSetup = none) (l : LaneId) :
    (s.enterHold.lane l).fixture = (s.lane l).fixture := by
  obtain ⟨v, hlane⟩ := enterHold_lane hlanes l
  rw [hlane, Lane.fixture_stopped, ended_fixtures hpending]

theorem enterHold_punch : s.enterHold.punch =
    { s.beginHold.lanesEnded.punch with outstanding := none, verdicts := [] } := by
  rw [enterHold_eq hlanes, (retakeLevels_frame _).same (b := .punch) (by decide), State.heldDown, stopped_punch]

theorem enterHold_bells : s.enterHold.bells = s.beginHold.lanesEnded.stopped.bells := by
  rw [enterHold_eq hlanes, (retakeLevels_frame _).same (b := .bells) (by decide), State.heldDown]

theorem enterHold_undriven : s.enterHold.inputs.undriven = s.beginHold.lanesEnded.inputs.stop.undriven := by
  rw [enterHold_eq hlanes, retakeLevels_undriven, State.heldDown, stopped_inputs]

theorem enterHold_notices (hsound : s.soundWords) : s.enterHold.notices =
    { s.notices with scheduleUnit := s.notices.scheduleUnit.map Notice.overHold } := by
  rw [enterHold_eq hlanes, (retakeLevels_frame _).same (b := .notices) (by decide), State.heldDown, stopped_notices,
    ended_notices hsound]

theorem enterHold_rest (l : LaneId) : (s.enterHold.lane l).activity = .idle ∧ (s.enterHold.lane l).grant = none ∧
    (s.enterHold.lane l).pendingSetup = none ∧ s.enterHold.punch.waits[l] = none ∧ s.enterHold.handedAt l = none := by
  refine course_eq_rest ?_
  rw [enterHold_eq hlanes, retakeLevels_course, heldDown_course hlanes]

/-- Every release output is at its fail state (R160). -/
theorem enterHold_drivenRelease (hsound : s.soundWords) (l : LaneId) :
    s.enterHold.inputs.drivenRelease[l] = decide ((s.enterHold.lane l).setup.fail = .failSafe) := by
  rw [enterHold_eq hlanes, retakeLevels_lane, ← driveRelease_of_hold (heldDown_supply hsound)]
  exact retakeLevels_drivenRelease s.heldDown l

theorem enterHold_drivenBell (hsound : s.soundWords) (b : BellId) : s.enterHold.inputs.drivenBell[b] = .off := by
  have hhold : s.heldDown.releasesAgain.supply.state = .hold := by
    rw [releasesAgain_supply, heldDown_supply hsound]
  rw [enterHold_eq hlanes, ← driveBell_of_hold hhold b]
  exact retakeLevels_drivenBell s.heldDown b

end

end

/-! ### The events of the supply (R194, R196) -/

theorem overHold_eq : Notice.overHold = fun x => match x with
    | .boundary b => .resumption (b - 1) b
    | .step o b => .step o b
    | .resumption o b => .resumption o b := by
  funext x
  cases x <;> rfl

/-- The main supply fails with the backup present. -/
theorem supplyHold_enters {s : State} (hrun : s.supply.state = .run) (hbackup : s.supply.backup = true) :
    exec .supplyHold s = .next s.enterHold := by
  change execSupplyHold s = _
  unfold execSupplyHold
  rw [if_pos hrun, if_pos hbackup]

/-- Settles O56: the stages of a hold's entry one after the other, which with every word sound ask nothing of the Spool but
HOLD_BEGIN. -/
theorem supplyLossesStopThePart : Obligations.SupplyLossesStopThePart := by
  refine ⟨fun s hrun hbackup hlanes hsound => ?_, fun s => ⟨fun hrun hbackup => ?_, fun hrun => ?_, fun hrun => ?_,
    fun hhold => ?_, fun hdark => ⟨?_, ?_⟩, rfl⟩⟩
  · have hafter := enterHold_after hlanes hsound
    have hpunch := enterHold_punch hlanes
    have hbells := enterHold_bells hlanes
    obtain ⟨hevac, hcapt, hdeliveries, hgeneral, hlines⟩ := InputSampler.of_stop (enterHold_undriven hlanes)
    obtain ⟨hevacuating, hcaptures⟩ := watched_eq_iff.1 (ended_watched s)
    refine ⟨s.enterHold, supplyHold_enters hrun hbackup,
      ((beginHold_frame s).mono (by decide)).trans (hafter.mono (by decide)), ?_, ?_, ?_, ?_, ?_, fun l => ?_,
      fun hpending l => ?_, ?_, ?_, ?_, fun b => ?_, hevac.trans hevacuating,
      hcapt.trans hcaptures, hdeliveries, hgeneral, hlines⟩
    · rw [hafter.same (b := .supply) (by decide), beginHold_supply]
    · rw [hafter.same (b := .time) (by decide), beginHold_time]
      rfl
    · rw [hafter.same (b := .link) (by decide), beginHold_link]
      rfl
    · exact (enterHold_notices hlanes hsound).trans
        (congrArg (fun f => { s.notices with scheduleUnit := s.notices.scheduleUnit.map f }) overHold_eq)
    · rw [hafter.same (b := .spool) (by decide), beginHold_spool]
      rfl
    · obtain ⟨hactivity, hgrant, hsetup, hwait, hhanded⟩ := enterHold_rest hlanes l
      obtain ⟨v, hlane⟩ := enterHold_lane hlanes l
      exact ⟨hactivity, hgrant, hsetup, by rw [hlane], by rw [hlane], by rw [hlane], hwait, hhanded,
        enterHold_drivenRelease hlanes hsound l⟩
    · exact Lane.fixture_eq_iff.1 (enterHold_fixture hlanes hpending l)
    · rw [hpunch]
    · rw [hpunch]
    · rw [hbells, stopped_evacSet]
    · obtain ⟨hring, hrequested⟩ := stopped_bell s.beginHold.lanesEnded b
      rw [hbells]
      exact ⟨hring, hrequested, enterHold_drivenBell hlanes hsound b⟩
  · change execSupplyHold s = _
    unfold execSupplyHold
    rw [if_pos hrun, if_neg (by simp [hbackup])]
    rfl
  · change execSupplyHold s = _
    unfold execSupplyHold
    rw [if_neg hrun]
  · change execBackupLoss s = _
    unfold execBackupLoss
    rw [hrun]
  · change execBackupLoss s = _
    unfold execBackupLoss
    rw [hhold]
    rfl
  · change execBackupLoss s = _
    unfold execBackupLoss
    rw [hdark]
  · change execSupplyReturn s = _
    unfold execSupplyReturn
    rw [hdark]
    rfl

end Sys2Proof.Machine
end

section
/-! ## Slots of a roster in canonical form, and the checked read (R17, R33, R34) -/
namespace Sys2Proof.Machine

/-! ### A slot written, and what is read of it and of the others -/

section
variable {s : State}

theorem slot_setSlot_same (h : s.rosterForm) (a : Nat) (x : Slot) : (s.setSlot a x).slot a = x :=
  Tab.get_put_same _ _ _ _ h.1

theorem slot_setSlot_other {a c : Nat} (hne : a ≠ c) (x : Slot) : (s.setSlot a x).slot c = s.slot c :=
  Tab.get_put_other _ _ _ _ _ hne

theorem isDamaged_setSlot (a c : Nat) (x : Slot) : (s.setSlot a x).isDamaged c = s.isDamaged c := rfl

theorem rosterForm_setSlot (h : s.rosterForm) (a : Nat) (x : Slot) : (s.setSlot a x).rosterForm :=
  ⟨Tab.put_wf _ _ _ _ h.1, h.2⟩

/-! ### Single errors corrected (R33) -/

/-- The state with the single flipped bits of a slot's words corrected, written back and counted. -/
def State.correctedAt (s : State) (a : Nat) : State :=
  if (s.slot a).errors.single = 0 then s
  else
    let t := s.setSlot a { s.slot a with errors := { (s.slot a).errors with single := 0 } }
    t.setRoster { t.roster with corrected := satAdd 65535 s.roster.corrected (s.slot a).errors.single }

theorem checkedRead_eq (s : State) (a : Nat) : s.checkedRead a =
    if s.isDamaged a then s
    else if (s.slot a).errors.double then (s.correctedAt a).damageSlot a else s.correctedAt a := rfl

theorem correctedAt_frame (s : State) (a : Nat) : unchangedBut [.roster] s (s.correctedAt a) := by
  unfold State.correctedAt
  split
  · exact .refl _ _
  · exact frame_setRoster _ (frame_setSlot _ _ (.refl _ _) (by decide)) (by decide)

theorem correctedAt_slot_same (h : s.rosterForm) (a : Nat) :
    (s.correctedAt a).slot a = { s.slot a with errors := { (s.slot a).errors with single := 0 } } := by
  unfold State.correctedAt
  split
  · next hzero => rw [← hzero]
  · exact slot_setSlot_same h a _

theorem correctedAt_slot_other {a c : Nat} (hne : a ≠ c) : (s.correctedAt a).slot c = s.slot c := by
  unfold State.correctedAt
  split
  · rfl
  · exact slot_setSlot_other hne _

theorem correctedAt_isDamaged (s : State) (a c : Nat) : (s.correctedAt a).isDamaged c = s.isDamaged c := by
  unfold State.correctedAt
  split <;> rfl

theorem correctedAt_rosterForm (h : s.rosterForm) (a : Nat) : (s.correctedAt a).rosterForm := by
  unfold State.correctedAt
  split
  · exact h
  · exact rosterForm_setSlot h a _

theorem correctedAt_corrected (s : State) (a : Nat) : (s.correctedAt a).roster.corrected =
    if (s.slot a).errors.single = 0 then s.roster.corrected
    else min 65535 (s.roster.corrected + (s.slot a).errors.single) := by
  unfold State.correctedAt
  split <;> rfl

theorem correctedAt_counts (s : State) (a : Nat) : (s.correctedAt a).roster.damagedCount = s.roster.damagedCount ∧
    (s.correctedAt a).roster.occupiedCount = s.roster.occupiedCount := by
  unfold State.correctedAt
  split <;> exact ⟨rfl, rfl⟩

/-! ### A double error (R34) -/

/-- The roster with a slot marked DAMAGED, its contents lost, and both counts following. -/
def State.damagedRoster (s : State) (a : Nat) : Roster :=
  { s.roster with
    slots := s.roster.slots.put Slot.freeSlot a Slot.freeSlot
    damage := s.roster.damage.put false a true
    damagedCount := s.roster.damagedCount + 1
    occupiedCount := s.roster.occupiedCount + (if (s.slot a).status = .free then 1 else 0) }

theorem damageSlot_eq (s : State) (a : Nat) : s.damageSlot a =
    ((s.setRoster (s.damagedRoster a)).dropReferences a).systemEvent s.now (.rosterDamage a) := rfl

theorem damageSlot_roster (s : State) (a : Nat) : (s.damageSlot a).roster = s.damagedRoster a := by
  rw [damageSlot_eq]
  exact (requestEntry_frame _ _).same (b := .roster) (by decide)

theorem damageSlot_records (s : State) (a : Nat) : (s.damageSlot a).records = (s.dropReferences a).records := by
  rw [damageSlot_eq]
  exact (requestEntry_frame _ _).same (b := .records) (by decide)

theorem damageSlot_entered (s : State) (a : Nat) : entered (.system s.now (.rosterDamage a)) s (s.damageSlot a) := by
  rw [damageSlot_eq]
  exact entered_requestEntry _ rfl rfl

theorem damageSlot_slot_same (h : s.rosterForm) (a : Nat) : (s.damageSlot a).slot a = Slot.freeSlot := by
  rw [State.slot, damageSlot_roster]
  exact Tab.get_put_same _ _ _ _ h.1

theorem damageSlot_slot_other {a c : Nat} (hne : a ≠ c) : (s.damageSlot a).slot c = s.slot c := by
  rw [State.slot, damageSlot_roster]
  exact Tab.get_put_other _ _ _ _ _ hne

theorem damageSlot_isDamaged_same (h : s.rosterForm) (a : Nat) : (s.damageSlot a).isDamaged a = true := by
  rw [State.isDamaged, damageSlot_roster]
  exact Tab.get_put_same _ _ _ _ h.2

theorem damageSlot_isDamaged_other {a c : Nat} (hne : a ≠ c) : (s.damageSlot a).isDamaged c = s.isDamaged c := by
  rw [State.isDamaged, damageSlot_roster]
  exact Tab.get_put_other _ _ _ _ _ hne

/-! ### The checked read -/

theorem checkedRead_of_damaged {a : Nat} (h : s.isDamaged a = true) : s.checkedRead a = s := by
  rw [checkedRead_eq, if_pos h]

theorem checkedRead_of_single {a : Nat} (hd : s.isDamaged a = false) (hx : (s.slot a).errors.double = false) :
    s.checkedRead a = s.correctedAt a := by
  rw [checkedRead_eq, if_neg (by simp [hd]), if_neg (by simp [hx])]

theorem checkedRead_of_double {a : Nat} (hd : s.isDamaged a = false) (hx : (s.slot a).errors.double = true) :
    s.checkedRead a = (s.correctedAt a).damageSlot a := by
  rw [checkedRead_eq, if_neg (by simp [hd]), if_pos hx]

end

/-- A slot already DAMAGED, or whose words are sound, is read without a change. -/
theorem checkedRead_quiet {s : State} {a : Nat} (h : s.isDamaged a = true ∨ (s.slot a).errors = ⟨0, false⟩) :
    s.checkedRead a = s := by
  rcases h with hd | hx
  · exact checkedRead_of_damaged hd
  · cases hd : s.isDamaged a with
    | true => exact checkedRead_of_damaged hd
    | false => rw [checkedRead_of_single hd (by rw [hx]), State.correctedAt, if_pos (by rw [hx])]

/-- Settles O12: single errors are corrected and written back, and a double error damages the slot after that. -/
theorem checkedReadCorrectsOrDamages : Obligations.CheckedReadCorrectsOrDamages := by
  refine ⟨fun s a hd => checkedRead_quiet (.inl hd), fun s a hx => checkedRead_quiet (.inr hx), ?_, ?_⟩
  · intro s a n hform hd hx
    rw [checkedRead_of_single hd (by rw [hx])]
    refine ⟨correctedAt_frame s a, ?_, fun c hne => correctedAt_slot_other hne.symm, ?_⟩
    · rw [correctedAt_slot_same hform, hx]
    · rw [correctedAt_corrected, hx]
  · intro s a n hform hd hx
    have hcorrected := correctedAt_rosterForm hform a
    have hframe := correctedAt_frame s a
    have hrecords : (s.correctedAt a).records = s.records := hframe.same (b := .records) (by decide)
    have hnow : (s.correctedAt a).now = s.now := now_congr (hframe.same (b := .time) (by decide))
    rw [checkedRead_of_double hd (by rw [hx])]
    refine ⟨?_, damageSlot_isDamaged_same hcorrected a, damageSlot_slot_same hcorrected a, fun c hne => ⟨?_, ?_⟩, ?_, ?_,
      ?_, ?_, ?_, ?_⟩
    · exact frame_damageSlot a (hframe.mono (by decide)) (by decide) (by decide) (by decide) (by decide)
    · rw [damageSlot_slot_other hne.symm, correctedAt_slot_other hne.symm]
    · rw [damageSlot_isDamaged_other hne.symm, correctedAt_isDamaged]
    · rw [damageSlot_roster]
      exact (correctedAt_corrected s a).trans (by rw [hx])
    · rw [damageSlot_roster, State.damagedRoster, (correctedAt_counts s a).1]
    · rw [damageSlot_roster, State.damagedRoster, (correctedAt_counts s a).2, correctedAt_slot_same hform]
    · rw [damageSlot_records, State.dropReferences, hrecords]
      rfl
    · rw [damageSlot_records, State.dropReferences, hrecords]
      rfl
    · have hentered := damageSlot_entered (s.correctedAt a) a
      rw [hnow] at hentered
      exact hentered.from_same (hframe.same (b := .spool) (by decide)) (hframe.same (b := .link) (by decide))

end Sys2Proof.Machine
end

section
/-! ## What the rules do to a roster, as a relation between rosters, and the laws it keeps (R16–R36) -/
namespace Sys2Proof.Machine

/-! ### One slot -/

/-- A slot's contents and whether the damage map marks it (R34). -/
structure SlotCell where
  slot : Slot
  damaged : Bool

def Roster.cell (r : Roster) (a : Nat) : SlotCell := ⟨r.slots.get Slot.freeSlot a, r.damage.get false a⟩

/-- What an address past the roster reads as, and what a slot freed reads as (R17). -/
def SlotCell.free : SlotCell := ⟨Slot.freeSlot, false⟩

/-- A slot is counted as occupied: it is not FREE, DAMAGED ones among them (R18). -/
def SlotCell.occupied (c : SlotCell) : Bool := c.damaged || decide (c.slot.status ≠ .free)

/-- A slot is ACTIVE and holds a badge (R19). -/
def SlotCell.holds (c : SlotCell) (badge : Nat) : Bool :=
  !c.damaged && decide (c.slot.status = .active) && decide (c.slot.badge = some badge)

/-- A slot holds nothing but the condition of its words (R17). -/
def Slot.vacant (x : Slot) : Prop := ∃ e, x = { Slot.freeSlot with errors := e }

theorem Slot.vacant_iff (x : Slot) : x.vacant ↔ x = { Slot.freeSlot with errors := x.errors } :=
  ⟨fun ⟨e, he⟩ => by rw [he], fun h => ⟨_, h⟩⟩

/-- A slot after an enrolment (R21). -/
def enrolledSlot (badge : Nat) (f : EnrolFields) : Slot :=
  { Slot.freeSlot with
    status := .active, badge := some badge, payClass := f.payClass, pattern := f.pattern, lanes := f.lanes }

section
variable (s : State)

theorem cell_slot (a : Nat) : (s.roster.cell a).slot = s.slot a := rfl

theorem cell_damaged (a : Nat) : (s.roster.cell a).damaged = s.isDamaged a := rfl

theorem cell_eq (a : Nat) : s.roster.cell a = ⟨s.slot a, s.isDamaged a⟩ := rfl

theorem cell_occupied (a : Nat) : (s.roster.cell a).occupied = decide (s.statusOf a ≠ .free) := by
  unfold SlotCell.occupied State.statusOf
  rw [cell_slot, cell_damaged]
  cases s.isDamaged a <;> cases (s.slot a).status <;> rfl

theorem cell_holds (badge a : Nat) : (s.roster.cell a).holds badge = s.holdsBadge badge a := by
  unfold SlotCell.holds State.holdsBadge State.statusOf
  rw [cell_slot, cell_damaged]
  cases s.isDamaged a <;> cases (s.slot a).status <;> rfl

end

theorem not_vacant_of_status {x : Slot} (h : x.status ≠ .free) : ¬ x.vacant := by
  rintro ⟨e, rfl⟩
  exact h rfl

theorem not_vacant_of_record {x : Slot} (h : x.record ≠ .off) : ¬ x.vacant := by
  rintro ⟨e, rfl⟩
  exact h rfl

theorem freeSlot_vacant : Slot.freeSlot.vacant := ⟨⟨0, false⟩, rfl⟩

/-! ### What becomes of one slot -/

/-- Two contents of a slot agree in its status, its badge and its words' condition, and its mark is kept or cleared. -/
structure Slot.Rewritten (x y : Slot) : Prop where
  status : y.status = x.status
  badge : y.badge = x.badge
  errors : y.errors = x.errors
  mark : y.mark = x.mark ∨ y.mark = none

/-- What the rules make of a slot that is not enrolled; a mark is set only where `marks` allows it (R20, R24, R26, R30, R33,
R34). -/
inductive SlotMove (marks : Prop) : SlotCell → SlotCell → Prop where
  | rewrite {x y : Slot} {d : Bool} (hx : ¬ x.vacant) (hy : x.Rewritten y) : SlotMove marks ⟨x, d⟩ ⟨y, d⟩
  | mark {x : Slot} (l : LaneId) (hmarks : marks) (hx : x.status = .active) :
      SlotMove marks ⟨x, false⟩ ⟨{ x with mark := some l }, false⟩
  | correct {x : Slot} (hx : x.errors.single ≠ 0) :
      SlotMove marks ⟨x, false⟩ ⟨{ x with errors := { x.errors with single := 0 } }, false⟩
  | damage {x : Slot} (hx : x.errors.double = true) : SlotMove marks ⟨x, false⟩ ⟨Slot.freeSlot, true⟩
  | withdraw {x : Slot} (hx : x.status = .active) : SlotMove marks ⟨x, false⟩ ⟨{ x with status := .withdrawn }, false⟩
  | free {x : Slot} (hx : x.status ≠ .free) : SlotMove marks ⟨x, false⟩ .free
  | purge {x : Slot} : SlotMove marks ⟨x, true⟩ .free

section
variable {marks : Prop} {c d : SlotCell}

/-- No move but an enrolment gives a slot a badge it did not hold. -/
theorem SlotMove.badge (h : SlotMove marks c d) :
    (d.slot.status ≠ .free → c.slot.status ≠ .free ∧ d.slot.badge = c.slot.badge) ∧
      ∀ b, d.holds b = true → c.holds b = true := by
  cases h with
  | rewrite _ hy =>
    unfold SlotCell.holds
    simp only [hy.status, hy.badge]
    exact ⟨fun h => ⟨h, trivial⟩, fun _ h => h⟩
  | mark | correct => exact ⟨fun h => ⟨h, rfl⟩, fun _ h => h⟩
  | damage => exact ⟨fun h => absurd rfl h, fun b hb => by cases hb⟩
  | withdraw hx => exact ⟨fun _ => ⟨by simp [hx], rfl⟩, fun b hb => by cases hb⟩
  | free | purge => exact ⟨fun h => absurd rfl h, fun b hb => by cases hb⟩

theorem SlotMove.sound (h : SlotMove marks c d) (hc : c.damaged = false → c.slot.errors = ⟨0, false⟩)
    (hd : d.damaged = false) : d.slot.errors = ⟨0, false⟩ := by
  cases h with
  | rewrite _ hy => exact hy.errors.trans (hc hd)
  | mark => exact hc rfl
  | correct hx => exact absurd (congrArg WordErrors.single (hc rfl)) hx
  | damage => cases hd
  | withdraw => exact hc rfl
  | free | purge => rfl

/-- A slot that holds nothing is not moved but by its words' condition or out of the damage map. -/
theorem SlotMove.vacant (h : SlotMove marks c d) (hfree : c.slot.status = .free → c.slot.vacant)
    (hdamaged : c.damaged = true → c.slot.status = .free) :
    (d.slot.status = .free → d.slot.vacant) ∧ (d.damaged = true → d.slot.status = .free) := by
  cases h with
  | @rewrite x _ _ hx hy =>
    have hstatus : x.status ≠ .free := fun hf => hx (hfree hf)
    exact ⟨fun hf => absurd (hy.status.symm.trans hf) hstatus, fun hd => absurd (hdamaged hd) hstatus⟩
  | mark _ _ hx => exact ⟨fun hf => absurd (hx.symm.trans hf) (by decide), fun hd => by cases hd⟩
  | @correct x _ =>
    refine ⟨fun hf => ?_, fun hd => by cases hd⟩
    obtain ⟨e, he⟩ : x.vacant := hfree hf
    exact ⟨{ e with single := 0 }, by rw [he]⟩
  | withdraw => exact ⟨fun hf => (nomatch hf), fun hd => (nomatch hd)⟩
  | damage | free | purge => exact ⟨fun _ => freeSlot_vacant, fun _ => rfl⟩

/-- An address past the roster is not moved. -/
theorem SlotMove.ne_free (h : SlotMove marks c d) : c ≠ .free := by
  rintro rfl
  cases h with
  | rewrite hx => exact hx freeSlot_vacant
  | mark _ _ hx => cases hx
  | correct hx => exact hx rfl
  | damage hx => cases hx
  | withdraw hx => cases hx
  | free hx => exact hx rfl

/-- Where no mark is set, a mark a slot has afterwards it had before. -/
theorem SlotMove.marked (h : SlotMove False c d) {l : LaneId} (hl : d.slot.mark = some l) : c.slot.mark = some l := by
  cases h with
  | rewrite _ hy =>
    rcases hy.mark with heq | hnone
    · exact heq.symm.trans hl
    · rw [hnone] at hl
      cases hl
  | mark _ hmarks => exact hmarks.elim
  | correct | withdraw => exact hl
  | damage | free | purge => cases hl

theorem SlotMove.mono {p q : Prop} (hpq : p → q) (h : SlotMove p c d) : SlotMove q c d := by
  cases h with
  | rewrite hx hy => exact .rewrite hx hy
  | mark l hmarks hx => exact .mark l (hpq hmarks) hx
  | correct hx => exact .correct hx
  | damage hx => exact .damage hx
  | withdraw hx => exact .withdraw hx
  | free hx => exact .free hx
  | purge => exact .purge

end

/-! ### The whole roster -/

/-- Between two rosters one slot is replaced, the damage map and both counts following it (R18, R34). -/
structure Replaced (r t : Roster) (a : Nat) (c : SlotCell) : Prop where
  slots : t.slots = r.slots.put Slot.freeSlot a c.slot
  damage : t.damage = r.damage.put false a c.damaged ∨ t.damage = r.damage ∧ c.damaged = (r.cell a).damaged
  occupied : t.occupiedCount = r.occupiedCount + c.occupied.toNat - (r.cell a).occupied.toNat
  damagedCount : t.damagedCount = r.damagedCount + c.damaged.toNat - (r.cell a).damaged.toNat

/-- What one rule does to the roster: to one slot, by an enrolment, as the presence epoch advances, or at power-on (R16–R36). -/
inductive RosterMove (marks : Prop) (r t : Roster) : Prop where
  | slot {a : Nat} {c : SlotCell} (hmove : SlotMove marks (r.cell a) c) (ht : Replaced r t a c)
  | enrol {a badge : Nat} {f : EnrolFields} (hfree : (r.cell a).occupied = false) (hbadge : validBadge badge = true)
      (hbucket : a / 4 = bucketOf badge) (hnone : ∀ c, c / 4 = bucketOf badge → (r.cell c).holds badge = false)
      (ht : Replaced r t a ⟨enrolledSlot badge f, false⟩)
  | epoch (hslots : t.slots = r.slots ∨
        t.slots = r.slots.mapValues Slot.freeSlot fun x => { x with presenceStamp := 0 })
      (hdamage : t.damage = r.damage) (hoccupied : t.occupiedCount = r.occupiedCount)
      (hdamaged : t.damagedCount = r.damagedCount)
  | reset (ht : t = State.reset.roster)

/-- A roster's storage is in canonical form. -/
def Roster.canonical (r : Roster) : Prop := r.slots.wf Slot.freeSlot = true ∧ r.damage.wf false = true

theorem rosterForm_iff (s : State) : s.rosterForm ↔ s.roster.canonical := Iff.rfl

section
variable {marks : Prop} {r t : Roster} {a : Nat} {c : SlotCell}

theorem Replaced.canonical (ht : Replaced r t a c) (h : r.canonical) : t.canonical := by
  refine ⟨ht.slots ▸ Tab.put_wf _ _ _ _ h.1, ?_⟩
  rcases ht.damage with hput | ⟨hsame, -⟩
  · exact hput ▸ Tab.put_wf _ _ _ _ h.2
  · exact hsame ▸ h.2

theorem Replaced.cell_same (ht : Replaced r t a c) (h : r.canonical) : t.cell a = c := by
  have hslot : t.slots.get Slot.freeSlot a = c.slot := ht.slots ▸ Tab.get_put_same _ _ _ _ h.1
  have hdamage : t.damage.get false a = c.damaged := by
    rcases ht.damage with hput | ⟨hsame, hc⟩
    · exact hput ▸ Tab.get_put_same _ _ _ _ h.2
    · rw [hsame, hc]
      rfl
  rw [Roster.cell, hslot, hdamage]

theorem Replaced.cell_other (ht : Replaced r t a c) {e : Nat} (hne : a ≠ e) : t.cell e = r.cell e := by
  have hslot : t.slots.get Slot.freeSlot e = r.slots.get Slot.freeSlot e :=
    ht.slots ▸ Tab.get_put_other _ _ _ _ _ hne
  have hdamage : t.damage.get false e = r.damage.get false e := by
    rcases ht.damage with hput | ⟨hsame, -⟩
    · exact hput ▸ Tab.get_put_other _ _ _ _ _ hne
    · rw [hsame]
  rw [Roster.cell, hslot, hdamage]
  rfl

/-- What holds of the slot replaced and of every other slot before holds of every slot after. -/
theorem Replaced.all {p : Nat → SlotCell → Prop} (ht : Replaced r t a c) (h : r.canonical) (ha : p a c)
    (hother : ∀ e, a ≠ e → p e (r.cell e)) (e : Nat) : p e (t.cell e) := by
  by_cases hae : a = e
  · subst hae
    rwa [ht.cell_same h]
  · rw [ht.cell_other hae]
    exact hother e hae

end

/-! ### The laws of the roster, slot by slot -/

/-- Every slot that is not FREE stands in its badge's bucket, and no two ACTIVE slots hold one badge (R16, R21). -/
def Roster.badgesPlaced (r : Roster) : Prop :=
  (∀ a, (r.cell a).slot.status ≠ .free →
      a < 6144 ∧ ∃ b, (r.cell a).slot.badge = some b ∧ validBadge b = true ∧ a / 4 = bucketOf b) ∧
    ∀ a c b, (r.cell a).holds b = true → (r.cell c).holds b = true → a = c

/-- No word of a slot that is not DAMAGED holds a flipped bit (R33). -/
def Roster.wordsSound (r : Roster) : Prop := ∀ a, (r.cell a).damaged = false → (r.cell a).slot.errors = ⟨0, false⟩

/-- A FREE slot is vacant, and a DAMAGED one FREE beneath its mark (R17, R34). -/
def Roster.emptied (r : Roster) : Prop :=
  ∀ a, ((r.cell a).slot.status = .free → (r.cell a).slot.vacant) ∧
    ((r.cell a).damaged = true → (r.cell a).slot.status = .free)

/-- Nothing stands past the roster, and both counts are true (R16, R18, R34). -/
def Roster.counted (r : Roster) : Prop :=
  (∀ a, 6143 < a → r.cell a = .free) ∧ r.occupiedCount = countSlots (fun a => (r.cell a).occupied) ∧
    r.damagedCount = countSlots (fun a => (r.cell a).damaged)

theorem badgeLaw_iff (s : State) : s.badgeLaw ↔ s.roster.badgesPlaced := by
  simp only [State.badgeLaw, Roster.badgesPlaced, cell_holds, cell_slot]

theorem soundWords_iff (s : State) : s.soundWords ↔ s.roster.wordsSound := Iff.rfl

theorem emptyLaw_iff (s : State) : s.emptyLaw ↔ s.roster.emptied := by
  simp only [State.emptyLaw, Roster.emptied, cell_slot, cell_damaged, Slot.vacant_iff, forall_and]

theorem addressLaw_countLaw_iff (s : State) : s.addressLaw ∧ s.countLaw ↔ s.roster.counted := by
  have hoccupied : (fun a => (s.roster.cell a).occupied) = fun a => decide (s.statusOf a ≠ .free) :=
    funext (cell_occupied s)
  have hfree : ∀ a, s.roster.cell a = .free ↔ s.slot a = Slot.freeSlot ∧ s.isDamaged a = false := fun a =>
    SlotCell.mk.injEq _ _ _ _ ▸ Iff.rfl
  rw [Roster.counted, hoccupied]
  simp only [hfree]
  exact Iff.rfl

/-! ### What each move makes of the slots -/

/-- A value read after every value is changed, where an unlisted key's value does not change. -/
theorem Tab.get_mapValues {α : Type} [DecidableEq α] {d : α} {f : α → α} (hf : f d = d) {t : Tab α}
    (h : t.wf d = true) (k : Nat) : (t.mapValues d f).get d k = f (t.get d k) := by
  obtain ⟨cells⟩ := t
  have hform : cellsForm d cells := (Tab.wf_iff d _).1 h
  show cellsGet d ((cells.map fun c => (c.1, f c.2)).filter fun c => decide (c.2 ≠ d)) k = f (cellsGet d cells k)
  clear h
  induction cells with
  | nil => exact hf.symm
  | cons c rest ih =>
    obtain ⟨j, v⟩ := c
    obtain ⟨hkeys, hvalues⟩ := hform
    obtain ⟨hbelow, hrest⟩ := List.pairwise_cons.1 hkeys
    have hread := ih ⟨hrest, fun x hx => hvalues x (List.mem_cons_of_mem _ hx)⟩
    simp only [List.map_cons, List.filter_cons, cellsGet]
    by_cases hjk : j = k
    · subst hjk
      rw [if_pos rfl]
      by_cases hv : f v = d
      · rw [if_neg (by simp [hv]), hread, cellsGet_of_below d rest j hbelow, hf, hv]
      · rw [if_pos (by simp [hv]), cellsGet, if_pos rfl]
    · rw [if_neg hjk, ← hread]
      split
      · rw [cellsGet, if_neg hjk]
      · rfl

section
variable {marks : Prop} {r t : Roster}

/-- Every slot is kept, but for its presence stamp, as the presence epoch advances (R29). -/
theorem cell_of_epoch (h : r.canonical) (hslots : t.slots = r.slots ∨
      t.slots = r.slots.mapValues Slot.freeSlot fun x => { x with presenceStamp := 0 })
    (hdamage : t.damage = r.damage) (a : Nat) : ∃ n, (n = (r.cell a).slot.presenceStamp ∨ n = 0) ∧
      t.cell a = ⟨{ (r.cell a).slot with presenceStamp := n }, (r.cell a).damaged⟩ := by
  have hcell : t.cell a = ⟨t.slots.get Slot.freeSlot a, r.damage.get false a⟩ := by rw [Roster.cell, hdamage]
  rw [hcell]
  rcases hslots with hsame | hzeroed
  · exact ⟨(r.cell a).slot.presenceStamp, .inl rfl, by rw [hsame]; rfl⟩
  · exact ⟨0, .inr rfl, by rw [hzeroed, Tab.get_mapValues rfl h.1]; rfl⟩

theorem RosterMove.canonical (hmove : RosterMove marks r t) (h : r.canonical) : t.canonical := by
  cases hmove with
  | slot _ ht => exact ht.canonical h
  | enrol _ _ _ _ ht => exact ht.canonical h
  | epoch hslots hdamage =>
    refine ⟨?_, hdamage ▸ h.2⟩
    rcases hslots with hsame | hzeroed
    · exact hsame ▸ h.1
    · exact hzeroed ▸ Tab.mapValues_wf _ _ _ h.1
  | reset ht =>
    subst ht
    exact ⟨Tab.empty_wf _, Tab.empty_wf _⟩

theorem RosterMove.wordsSound (hmove : RosterMove marks r t) (h : r.canonical) (hr : r.wordsSound) : t.wordsSound := by
  cases hmove with
  | slot hslot ht =>
    exact ht.all (p := fun _ c => c.damaged = false → c.slot.errors = ⟨0, false⟩) h (hslot.sound (hr _)) fun e _ => hr e
  | enrol _ _ _ _ ht =>
    exact ht.all (p := fun _ c => c.damaged = false → c.slot.errors = ⟨0, false⟩) h (fun _ => rfl) fun e _ => hr e
  | epoch hslots hdamage =>
    intro a hd
    obtain ⟨n, hn, hcell⟩ := cell_of_epoch h hslots hdamage a
    rw [hcell] at hd ⊢
    exact hr a hd
  | reset ht =>
    subst ht
    exact fun _ _ => rfl

theorem RosterMove.emptied (hmove : RosterMove marks r t) (h : r.canonical) (hr : r.emptied) : t.emptied := by
  cases hmove with
  | slot hslot ht =>
    exact ht.all (p := fun _ c => (c.slot.status = .free → c.slot.vacant) ∧ (c.damaged = true → c.slot.status = .free)) h
      (hslot.vacant (hr _).1 (hr _).2) fun e _ => hr e
  | enrol _ _ _ _ ht =>
    exact ht.all (p := fun _ c => (c.slot.status = .free → c.slot.vacant) ∧ (c.damaged = true → c.slot.status = .free)) h
      ⟨fun hf => (nomatch hf), fun hd => (nomatch hd)⟩ fun e _ => hr e
  | epoch hslots hdamage =>
    intro a
    obtain ⟨n, hn, hcell⟩ := cell_of_epoch h hslots hdamage a
    obtain ⟨hfree, hdamaged⟩ := hr a
    rw [hcell]
    refine ⟨fun hf => ?_, hdamaged⟩
    obtain ⟨e, he⟩ := hfree hf
    rw [he] at hn ⊢
    have hzero : n = 0 := hn.elim id id
    exact ⟨e, by rw [hzero]; rfl⟩
  | reset ht =>
    subst ht
    exact fun _ => ⟨fun _ => freeSlot_vacant, fun hd => (nomatch hd)⟩

/-- Without a mark set, a mark a slot has afterwards it had before. -/
theorem RosterMove.marked (hmove : RosterMove False r t) (h : r.canonical) {a : Nat} {l : LaneId}
    (hl : (t.cell a).slot.mark = some l) : (r.cell a).slot.mark = some l := by
  cases hmove with
  | slot hslot ht =>
    exact ht.all (p := fun e c => c.slot.mark = some l → (r.cell e).slot.mark = some l) h hslot.marked
      (fun _ _ hm => hm) a hl
  | enrol _ _ _ _ ht =>
    exact ht.all (p := fun e c => c.slot.mark = some l → (r.cell e).slot.mark = some l) h (fun hm => (nomatch hm))
      (fun _ _ hm => hm) a hl
  | epoch hslots hdamage =>
    obtain ⟨n, hn, hcell⟩ := cell_of_epoch h hslots hdamage a
    rw [hcell] at hl
    exact hl
  | reset ht =>
    subst ht
    cases hl

/-! ### Badges (R16, R21) -/

theorem bucketOf_lt (badge : Nat) : bucketOf badge < 1536 := Nat.mod_lt _ (by decide)

theorem lt_of_bucket {a badge : Nat} (h : a / 4 = bucketOf badge) : a < 6144 := by
  have := bucketOf_lt badge
  omega

theorem SlotCell.of_holds {c : SlotCell} {badge : Nat} (h : c.holds badge = true) :
    c.slot.status = .active ∧ c.slot.badge = some badge := by
  simp only [SlotCell.holds, Bool.and_eq_true, decide_eq_true_eq] at h
  exact ⟨h.1.2, h.2⟩

/-- A badge is held in its own bucket. -/
theorem Roster.badgesPlaced.bucket (hr : r.badgesPlaced) {a badge : Nat} (h : (r.cell a).holds badge = true) :
    a / 4 = bucketOf badge := by
  obtain ⟨hstatus, hbadge⟩ := SlotCell.of_holds h
  obtain ⟨-, b, hb, -, hbucket⟩ := hr.1 a (by rw [hstatus]; decide)
  rw [hbadge] at hb
  cases hb
  exact hbucket

/-- A move that gives no slot a badge keeps every badge in its place. -/
theorem Roster.badgesPlaced.of_fewer (hr : r.badgesPlaced)
    (h : ∀ a, ((t.cell a).slot.status ≠ .free →
        (r.cell a).slot.status ≠ .free ∧ (t.cell a).slot.badge = (r.cell a).slot.badge) ∧
      ∀ b, (t.cell a).holds b = true → (r.cell a).holds b = true) : t.badgesPlaced := by
  refine ⟨fun a ha => ?_, fun a c b hab hcb => hr.2 a c b ((h a).2 b hab) ((h c).2 b hcb)⟩
  obtain ⟨hstatus, hbadge⟩ := (h a).1 ha
  rw [hbadge]
  exact hr.1 a hstatus

theorem RosterMove.badgesPlaced (hmove : RosterMove marks r t) (h : r.canonical) (hr : r.badgesPlaced) :
    t.badgesPlaced := by
  cases hmove with
  | slot hslot ht =>
    refine hr.of_fewer (ht.all (p := fun e c =>
      (c.slot.status ≠ .free → (r.cell e).slot.status ≠ .free ∧ c.slot.badge = (r.cell e).slot.badge) ∧
        ∀ b, c.holds b = true → (r.cell e).holds b = true) h hslot.badge fun _ _ => ⟨fun hs => ⟨hs, rfl⟩, fun _ hb => hb⟩)
  | @enrol a badge f _ hbadge hbucket hnone ht =>
    refine ⟨ht.all (p := fun e c => c.slot.status ≠ .free →
      e < 6144 ∧ ∃ b, c.slot.badge = some b ∧ validBadge b = true ∧ e / 4 = bucketOf b) h
      (fun _ => ⟨lt_of_bucket hbucket, badge, rfl, hbadge, hbucket⟩) fun e _ => hr.1 e, ?_⟩
    have hholds : ∀ e b, (t.cell e).holds b = true → e = a ∧ b = badge ∨ (r.cell e).holds b = true ∧ b ≠ badge := by
      refine ht.all (p := fun e c => ∀ b, c.holds b = true → e = a ∧ b = badge ∨ (r.cell e).holds b = true ∧ b ≠ badge) h
        (fun b hb => ?_) fun e _ b hb => .inr ⟨hb, ?_⟩
      · exact .inl ⟨rfl, (Option.some.inj (SlotCell.of_holds hb).2).symm⟩
      · rintro rfl
        rw [hnone e (hr.bucket hb)] at hb
        cases hb
    intro e c b he hc
    rcases hholds e b he with ⟨rfl, rfl⟩ | ⟨he, hne⟩
    · rcases hholds c b hc with ⟨rfl, -⟩ | ⟨-, hne⟩
      · rfl
      · exact absurd rfl hne
    · rcases hholds c b hc with ⟨-, rfl⟩ | ⟨hc, -⟩
      · exact absurd rfl hne
      · exact hr.2 e c b he hc
  | epoch hslots hdamage =>
    refine hr.of_fewer fun a => ?_
    obtain ⟨n, hn, hcell⟩ := cell_of_epoch h hslots hdamage a
    rw [hcell]
    exact ⟨fun hs => ⟨hs, rfl⟩, fun _ hb => hb⟩
  | reset ht =>
    subst ht
    exact ⟨fun a ha => absurd rfl ha, fun a c b hb => (nomatch hb)⟩

/-! ### Counts (R18, R34) -/

/-- A test that changes at one member of a list changes the count by what changes there. -/
theorem length_filter_replaced {α : Type} {p q : α → Bool} {a : α} {l : List α} (hl : l.Nodup) (ha : a ∈ l)
    (h : ∀ e, a ≠ e → q e = p e) :
    (l.filter q).length + (p a).toNat = (l.filter p).length + (q a).toNat := by
  induction l with
  | nil => cases ha
  | cons e rest ih =>
    obtain ⟨he, hrest⟩ := List.nodup_cons.1 hl
    by_cases hae : a = e
    · subst hae
      have hsame : rest.filter q = rest.filter p := List.filter_congr fun c hc => h c (by rintro rfl; exact he hc)
      cases hp : p a <;> cases hq : q a <;> simp [hp, hq, hsame]
    · have hmem : a ∈ rest := (List.mem_cons.1 ha).resolve_left hae
      have hcount := ih hrest hmem
      cases hp : p e <;> simp [h e hae, hp] <;> omega

theorem countSlots_replaced {p q : Nat → Bool} {a : Nat} (ha : a < 6144) (h : ∀ e, a ≠ e → q e = p e) :
    countSlots q + (p a).toNat = countSlots p + (q a).toNat :=
  length_filter_replaced List.nodup_range (List.mem_range.2 ha) h

/-- Both counts follow the slot that is replaced. -/
theorem Replaced.counted {a : Nat} {c : SlotCell} (ht : Replaced r t a c) (h : r.canonical) (ha : a < 6144)
    (hr : r.counted) : t.counted := by
  obtain ⟨hpast, hoccupied, hdamaged⟩ := hr
  have hother : ∀ e, a ≠ e → t.cell e = r.cell e := fun e => ht.cell_other
  have hcount := fun (v : SlotCell → Bool) => countSlots_replaced (p := fun e => v (r.cell e))
    (q := fun e => v (t.cell e)) ha fun e hne => by rw [hother e hne]
  have h1 := hcount SlotCell.occupied
  have h2 := hcount SlotCell.damaged
  have h3 := ht.occupied
  have h4 := ht.damagedCount
  rw [ht.cell_same h] at h1 h2
  exact ⟨fun e he => (hother e (by omega)).trans (hpast e he), by omega, by omega⟩

theorem RosterMove.counted (hmove : RosterMove marks r t) (h : r.canonical) (hr : r.counted) : t.counted := by
  cases hmove with
  | @slot a _ hslot ht =>
    refine ht.counted h ?_ hr
    by_contra ha
    exact hslot.ne_free (hr.1 a (by omega))
  | enrol _ _ hbucket _ ht => exact ht.counted h (lt_of_bucket hbucket) hr
  | epoch hslots hdamage hoccupied hdamaged =>
    obtain ⟨hpast, hoccupied', hdamaged'⟩ := hr
    have hcell := cell_of_epoch h hslots hdamage
    refine ⟨fun a ha => ?_, ?_, ?_⟩
    · obtain ⟨n, hn, hn'⟩ := hcell a
      rw [hpast a ha] at hn hn'
      have hzero : n = 0 := hn.elim id id
      rw [hn', hzero]
      rfl
    · rw [hoccupied, hoccupied']
      refine congrArg countSlots (funext fun a => ?_)
      obtain ⟨n, -, hn⟩ := hcell a
      rw [hn]
      rfl
    · rw [hdamaged, hdamaged']
      refine congrArg countSlots (funext fun a => ?_)
      obtain ⟨n, -, hn⟩ := hcell a
      rw [hn]
  | reset ht =>
    subst ht
    have hnone : countSlots (fun _ => false) = 0 := by simp [countSlots]
    exact ⟨fun _ _ => rfl, hnone.symm, hnone.symm⟩

end

/-! ### Rosters that follow one another by these moves -/

/-- From a roster in canonical form another comes about by the moves of the rules. -/
def rosterRuns (marks : Prop) (r t : Roster) : Prop := r.canonical → Relation.ReflTransGen (RosterMove marks) r t

section
variable {marks : Prop} {r t u : Roster}

theorem rosterRuns.refl (marks : Prop) (r : Roster) : rosterRuns marks r r := fun _ => .refl

/-- What every move keeps, a run keeps. -/
theorem rosterRuns.keeps {P : Roster → Prop} (hP : ∀ {v w}, RosterMove marks v w → v.canonical → P v → P w)
    (h : rosterRuns marks r t) (hr : r.canonical) (hPr : P r) : t.canonical ∧ P t := by
  refine Relation.ReflTransGen.head_induction_on (motive := fun v _ => v.canonical → P v → t.canonical ∧ P t) (h hr)
    (fun hc hv => ⟨hc, hv⟩) (fun hmove _ ih hc hv => ih (hmove.canonical hc) (hP hmove hc hv)) hr hPr

theorem rosterRuns.canonical (h : rosterRuns marks r t) (hr : r.canonical) : t.canonical :=
  (h.keeps (P := fun _ => True) (fun _ _ _ => trivial) hr trivial).1

theorem rosterRuns.trans (h : rosterRuns marks r t) (g : rosterRuns marks t u) : rosterRuns marks r u :=
  fun hr => (h hr).trans (g (h.canonical hr))

theorem rosterRuns.step (h : rosterRuns marks r t) (hmove : t.canonical → RosterMove marks t u) : rosterRuns marks r u :=
  fun hr => (h hr).tail (hmove (h.canonical hr))

theorem RosterMove.mono {p q : Prop} (hpq : p → q) (h : RosterMove p r t) : RosterMove q r t := by
  cases h with
  | slot hslot ht => exact .slot (hslot.mono hpq) ht
  | enrol hfree hbadge hbucket hnone ht => exact .enrol hfree hbadge hbucket hnone ht
  | epoch hslots hdamage hoccupied hdamaged => exact .epoch hslots hdamage hoccupied hdamaged
  | reset ht => exact .reset ht

theorem rosterRuns.mono {p q : Prop} (hpq : p → q) (h : rosterRuns p r t) : rosterRuns q r t := fun hr =>
  Relation.ReflTransGen.mono (fun _ _ hmove => hmove.mono hpq) _ _ (h hr)

theorem rosterRuns.marked (h : rosterRuns False r t) (hr : r.canonical) {a : Nat} {l : LaneId}
    (hl : (t.cell a).slot.mark = some l) : (r.cell a).slot.mark = some l :=
  (h.keeps (P := fun v => (v.cell a).slot.mark = some l → (r.cell a).slot.mark = some l)
    (fun hmove hc ih hm => ih (hmove.marked hc hm)) hr id).2 hl

end

end Sys2Proof.Machine
end

section
/-! ## The operations on slots and records as moves of the roster (R16–R36, R95–R111) -/
namespace Sys2Proof.Machine

section
variable {marks : Prop} {r : Roster} {s t : State} {a : Nat}

/-! ### What changes no slot -/

theorem runs_of_same (h : rosterRuns marks r s.roster) (ht : t.roster = s.roster) : rosterRuns marks r t.roster := by
  rwa [ht]

theorem runs_ite {c : Prop} [Decidable c] (hs : rosterRuns marks r s.roster) (ht : rosterRuns marks r t.roster) :
    rosterRuns marks r (if c then s else t).roster := by
  split
  · exact hs
  · exact ht

theorem answer_frame (s : State) (order : Instr) (code : ReplyCode) (body : ReplyBody) :
    unchangedBut [.link] s (s.answer order code body) := frame_answer _ _ _ (.refl _ _) (by decide)

theorem answer_roster (s : State) (order : Instr) (code : ReplyCode) (body : ReplyBody) :
    (s.answer order code body).roster = s.roster := (answer_frame s order code body).same (b := .roster) (by decide)

/-! ### A status as reported -/

theorem statusOf_eq_active : s.statusOf a = .active ↔ s.isDamaged a = false ∧ (s.slot a).status = .active := by
  unfold State.statusOf
  cases s.isDamaged a <;> cases (s.slot a).status <;> simp

theorem statusOf_eq_withdrawn : s.statusOf a = .withdrawn ↔ s.isDamaged a = false ∧ (s.slot a).status = .withdrawn := by
  unfold State.statusOf
  cases s.isDamaged a <;> cases (s.slot a).status <;> simp

theorem statusOf_eq_free : s.statusOf a = .free ↔ s.isDamaged a = false ∧ (s.slot a).status = .free := by
  unfold State.statusOf
  cases s.isDamaged a <;> cases (s.slot a).status <;> simp

theorem statusOf_eq_damaged : s.statusOf a = .damaged ↔ s.isDamaged a = true := by
  unfold State.statusOf
  cases s.isDamaged a <;> cases (s.slot a).status <;> simp

theorem holdsBadge_eq_true {badge : Nat} : s.holdsBadge badge a = true ↔
    s.statusOf a = .active ∧ (s.slot a).badge = some badge := by
  simp [State.holdsBadge]

theorem statusOf_congr (hdamaged : t.isDamaged a = s.isDamaged a) (hstatus : (t.slot a).status = (s.slot a).status) :
    t.statusOf a = s.statusOf a := by
  unfold State.statusOf
  rw [hdamaged, hstatus]

theorem statusOf_setSlot_same (h : s.rosterForm) {x : Slot} (hx : x.status = (s.slot a).status) :
    (s.setSlot a x).statusOf a = s.statusOf a :=
  statusOf_congr (isDamaged_setSlot a a x) (by rw [slot_setSlot_same h, hx])

/-! ### The checked read (R33, R34) -/

theorem Slot.Rewritten.refl (x : Slot) : x.Rewritten x := ⟨rfl, rfl, rfl, .inl rfl⟩

theorem replaced_setSlot {x : Slot} (hx : x.status = (s.slot a).status) :
    Replaced s.roster (s.setSlot a x).roster a ⟨x, s.isDamaged a⟩ := by
  have hoccupied : (⟨x, s.isDamaged a⟩ : SlotCell).occupied = (s.roster.cell a).occupied := by
    rw [SlotCell.occupied, SlotCell.occupied, hx]
    rfl
  refine ⟨rfl, .inr ⟨rfl, rfl⟩, ?_, (Nat.add_sub_cancel _ _).symm⟩
  rw [hoccupied]
  exact (Nat.add_sub_cancel _ _).symm

theorem runs_rewrite (h : rosterRuns marks r s.roster) {x : Slot} (hvacant : s.rosterForm → ¬ (s.slot a).vacant)
    (hx : s.rosterForm → (s.slot a).Rewritten x) : rosterRuns marks r (s.setSlot a x).roster :=
  h.step fun hform => .slot (.rewrite (hvacant hform) (hx hform)) (replaced_setSlot (hx hform).status)

theorem runs_correctedAt (h : rosterRuns marks r s.roster) (hd : s.isDamaged a = false) :
    rosterRuns marks r (s.correctedAt a).roster := by
  unfold State.correctedAt
  split
  · exact h
  · next hsingle =>
    obtain ⟨hslots, hdamage, hoccupied, hdamaged⟩ := replaced_setSlot (s := s) (a := a)
      (x := { s.slot a with errors := { (s.slot a).errors with single := 0 } }) rfl
    rw [hd] at hdamage hoccupied hdamaged
    refine h.step fun _ => .slot (c := ⟨_, false⟩) ?_ ⟨hslots, hdamage, hoccupied, hdamaged⟩
    rw [cell_eq, hd]
    exact .correct hsingle

theorem runs_damageSlot (h : rosterRuns marks r s.roster) (hd : s.isDamaged a = false)
    (hx : s.rosterForm → (s.slot a).errors.double = true) : rosterRuns marks r (s.damageSlot a).roster := by
  rw [damageSlot_roster]
  refine h.step fun hform => .slot (a := a) (c := ⟨Slot.freeSlot, true⟩) ?_ ⟨rfl, .inl rfl, ?_, ?_⟩
  · rw [cell_eq, hd]
    exact .damage (hx hform)
  · rw [cell_eq, hd]
    show s.roster.occupiedCount + (if (s.slot a).status = .free then 1 else 0) = _
    cases hstatus : (s.slot a).status <;> simp [SlotCell.occupied, hstatus]
  · rw [cell_eq, hd]
    rfl

theorem runs_checkedRead (h : rosterRuns marks r s.roster) : rosterRuns marks r (s.checkedRead a).roster := by
  rw [checkedRead_eq]
  split
  · exact h
  · next hdamaged =>
    have hd : s.isDamaged a = false := by simpa using hdamaged
    have hcorrected := runs_correctedAt h hd
    split
    · next hx =>
      refine runs_damageSlot hcorrected (by rw [correctedAt_isDamaged, hd]) fun _ => ?_
      unfold State.correctedAt
      split
      · exact hx
      · next hsingle =>
        have hne : ({ s.slot a with errors := { (s.slot a).errors with single := 0 } } : Slot) ≠ Slot.freeSlot := by
          intro heq
          have hfalse := congrArg (fun x : Slot => x.errors.double) heq
          rw [show (s.slot a).errors.double = true from hx] at hfalse
          cases hfalse
        exact (congrArg (fun x : Slot => x.errors.double)
          (cellsGet_put_of_ne hne s.roster.slots.cells a)).trans hx
    · exact hcorrected

/-- What a checked read can make of its slot: its words' condition apart nothing, or DAMAGED (R33, R34). -/
theorem checkedRead_cases (h : s.rosterForm) (a : Nat) :
    ((s.checkedRead a).isDamaged a = s.isDamaged a ∧ ∃ e, (s.checkedRead a).slot a = { s.slot a with errors := e }) ∨
      s.isDamaged a = false ∧ (s.checkedRead a).isDamaged a = true ∧ (s.checkedRead a).slot a = Slot.freeSlot := by
  cases hd : s.isDamaged a with
  | true => exact .inl ⟨by rw [checkedRead_of_damaged hd, hd], _, by rw [checkedRead_of_damaged hd]⟩
  | false =>
    have hcorrected := correctedAt_rosterForm h a
    cases hx : (s.slot a).errors.double with
    | false =>
      rw [checkedRead_of_single hd hx]
      exact .inl ⟨by rw [correctedAt_isDamaged, hd], _, correctedAt_slot_same h a⟩
    | true =>
      rw [checkedRead_of_double hd hx]
      exact .inr ⟨rfl, damageSlot_isDamaged_same hcorrected a, damageSlot_slot_same hcorrected a⟩

theorem runs_readSlots (l : List Nat) (h : rosterRuns marks r s.roster) : rosterRuns marks r (s.readSlots l).roster := by
  unfold State.readSlots
  induction l generalizing s with
  | nil => exact h
  | cons a rest ih => exact ih (runs_checkedRead h)

theorem runs_lookup (badge : Nat) (h : rosterRuns marks r s.roster) : rosterRuns marks r (s.lookup badge).1.roster :=
  runs_readSlots _ h

/-- A badge found is held by the slot found, as the slots were read (R19). -/
theorem lookup_holds {badge : Nat} (h : (s.lookup badge).2 = some a) :
    (s.lookup badge).1.statusOf a = .active ∧ ((s.lookup badge).1.slot a).badge = some badge :=
  holdsBadge_eq_true.1 (List.find?_some h)

/-! ### Writes (R20) -/

theorem runs_rewrite_active (h : rosterRuns marks r s.roster) (ha : s.statusOf a = .active) {x : Slot}
    (hx : (s.slot a).Rewritten x) : rosterRuns marks r (s.setSlot a x).roster :=
  runs_rewrite h (fun _ => not_vacant_of_status (by rw [(statusOf_eq_active.1 ha).2]; decide)) fun _ => hx

theorem runs_writeSlot {onWithdrawn : Bool} {f : Slot → Slot} (hf : ∀ x : Slot, x.Rewritten (f x))
    (h : rosterRuns marks r s.roster) : rosterRuns marks r (s.writeSlot a onWithdrawn f).1.roster := by
  have hread := runs_checkedRead (a := a) h
  unfold State.writeSlot
  dsimp only
  split
  · next hactive => exact runs_rewrite_active hread hactive (hf _)
  · next hwithdrawn =>
    split
    · exact runs_rewrite hread (fun _ => not_vacant_of_status (by rw [(statusOf_eq_withdrawn.1 hwithdrawn).2]; decide))
        fun _ => hf _
    · exact hread
  · exact hread
  · exact hread

theorem runs_clearMark (l : LaneId) (slot : Option Nat) (h : rosterRuns marks r s.roster) :
    rosterRuns marks r (s.clearMark l slot).roster := by
  cases slot with
  | none => exact h
  | some a =>
    refine runs_writeSlot (fun x => ⟨rfl, rfl, rfl, ?_⟩) h
    dsimp only
    split
    · exact .inr rfl
    · exact .inl rfl

theorem runs_setMark (hmarks : marks) (l : LaneId) (slot : Option Nat) (h : rosterRuns marks r s.roster) :
    rosterRuns marks r (s.setMark l slot).roster := by
  cases slot with
  | none => exact h
  | some a =>
    have hread := runs_checkedRead (a := a) h
    unfold State.setMark State.writeSlot
    dsimp only
    split
    · next hactive =>
      obtain ⟨hd, hstatus⟩ := statusOf_eq_active.1 hactive
      refine hread.step fun _ => .slot ?_ (replaced_setSlot rfl)
      rw [cell_eq, hd]
      exact .mark l hmarks hstatus
    · exact hread
    · exact hread
    · exact hread

theorem runs_raiseUnrecorded (yes : Bool) (h : rosterRuns marks r s.roster) :
    rosterRuns marks r (s.raiseUnrecorded a yes).roster :=
  runs_ite (runs_writeSlot (fun _ => ⟨rfl, rfl, rfl, .inl rfl⟩) h) h

theorem runs_dropHanded (l : LaneId) (h : rosterRuns marks r s.roster) : rosterRuns marks r (s.dropHanded l).roster := by
  unfold State.dropHanded
  split
  · exact h
  · exact runs_clearMark (s := s.setHanded l none) l _ h

/-! ### Enrolment, withdrawal and purge (R21–R26) -/

theorem mem_bucketSlots {k : Nat} : a ∈ bucketSlots k ↔ a / 4 = k := by
  simp only [bucketSlots, List.mem_cons, List.not_mem_nil, or_false]
  omega

theorem runs_enrol {badge : Nat} (hbadge : validBadge badge = true) (f : EnrolFields)
    (h : rosterRuns marks r s.roster) : rosterRuns marks r (s.enrol badge f).1.roster := by
  have hread := runs_readSlots (bucketSlots (bucketOf badge)) h
  unfold State.enrol
  dsimp only
  split
  · exact hread
  · next hnone =>
    split
    · exact hread
    · next a hfind =>
      obtain ⟨hd, hstatus⟩ := statusOf_eq_free.1 (by simpa using List.find?_some hfind)
      have hbucket : a / 4 = bucketOf badge := mem_bucketSlots.1 (List.mem_of_find?_eq_some hfind)
      refine hread.step fun _ => .enrol (a := a) (f := f) ?_ hbadge hbucket (fun c hc => ?_)
        ⟨rfl, .inr ⟨rfl, hd.symm⟩, ?_, ?_⟩
      · simp [cell_eq, SlotCell.occupied, hd, hstatus]
      · rw [cell_holds]
        simpa using List.find?_eq_none.1 hnone c (mem_bucketSlots.2 hc)
      · rw [cell_eq, hd]
        simp [SlotCell.occupied, hstatus, enrolledSlot, State.setSlot]
      · rw [cell_eq, hd]
        rfl

theorem runs_freeSlotAt (h : rosterRuns marks r s.roster)
    (ha : s.rosterForm → s.isDamaged a = false ∧ (s.slot a).status ≠ .free) :
    rosterRuns marks r (s.freeSlotAt a).roster := by
  refine h.step fun hform => ?_
  obtain ⟨hd, hstatus⟩ := ha hform
  refine .slot (a := a) (c := .free) ?_ ⟨rfl, .inr ⟨rfl, hd.symm⟩, ?_, ?_⟩
  · rw [cell_eq, hd]
    exact .free hstatus
  · rw [cell_eq, hd]
    simp [SlotCell.occupied, SlotCell.free, Slot.freeSlot, State.freeSlotAt, hstatus]
  · rw [cell_eq, hd]
    rfl

theorem runs_markWithdrawn (h : rosterRuns marks r s.roster) (ha : s.rosterForm → s.statusOf a = .active) :
    rosterRuns marks r (s.markWithdrawn a).roster := by
  refine h.step fun hform => ?_
  obtain ⟨hd, hstatus⟩ := statusOf_eq_active.1 (ha hform)
  refine .slot (a := a) (c := ⟨{ s.slot a with status := .withdrawn }, false⟩) ?_
    ⟨rfl, .inr ⟨rfl, hd.symm⟩, ?_, ?_⟩
  · rw [cell_eq, hd]
    exact .withdraw hstatus
  · rw [cell_eq, hd]
    simp [SlotCell.occupied, State.markWithdrawn, State.setSlot, hstatus]
  · rw [cell_eq, hd]
    rfl

theorem runs_purge (h : rosterRuns marks r s.roster) (hd : s.isDamaged a = true) :
    rosterRuns marks r (s.purge a).roster := by
  refine h.step fun _ => .slot (a := a) (c := .free) ?_ ⟨rfl, .inl rfl, ?_, ?_⟩
  · rw [cell_eq, hd]
    exact .purge
  · rw [cell_eq, hd]
    rfl
  · rw [cell_eq, hd]
    rfl

theorem runs_advanceEpoch (h : rosterRuns marks r s.roster) : rosterRuns marks r s.advanceEpoch.roster := by
  unfold State.advanceEpoch
  split
  · exact h.step fun _ => .epoch (.inr rfl) rfl rfl rfl
  · exact h.step fun _ => .epoch (.inl rfl) rfl rfl rfl

theorem runs_reset (h : rosterRuns marks r s.roster) : rosterRuns marks r State.reset.roster :=
  h.step fun _ => .reset rfl

theorem runs_reportSlots (l : List Nat) (h : rosterRuns marks r s.roster) :
    rosterRuns marks r (s.reportSlots l).1.roster := by
  induction l generalizing s with
  | nil => exact h
  | cons a rest ih => exact ih (runs_checkedRead h)

/-! ### Records (R97–R110) -/

theorem offerTotal_roster {x : ShiftTotal} (h : s.offerTotal x = some t) : t.roster = s.roster := by
  unfold State.offerTotal at h
  split at h
  · cases h
    rfl
  · cases h

theorem runs_setRecord (h : rosterRuns marks r s.roster) (x : ShiftRecord)
    (ha : s.rosterForm → ¬ (s.slot a).vacant) : rosterRuns marks r (s.setRecord a x).roster :=
  runs_rewrite h ha fun _ => ⟨rfl, rfl, rfl, .inl rfl⟩

theorem runs_openRecord (i : Stamp) (offWindow : Bool) (h : rosterRuns marks r s.roster)
    (ha : s.rosterForm → ¬ (s.slot a).vacant) : rosterRuns marks r (s.openRecord a i offWindow).roster :=
  runs_setRecord h _ ha

theorem not_vacant_of_open {x : Slot} {d : RecordData} (h : x.record.openData = some d) : ¬ x.vacant :=
  not_vacant_of_record fun hoff => by
    rw [hoff] at h
    cases h

theorem runs_placeTotal (d : RecordData) (out : Stamp) (x : ShiftTotal) (h : rosterRuns marks r s.roster)
    (ha : s.rosterForm → ¬ (s.slot a).vacant) : rosterRuns marks r (s.placeTotal a d out x).1.roster := by
  unfold State.placeTotal
  split
  · next u hu =>
    split at hu
    · have hroster := offerTotal_roster hu
      refine runs_setRecord (runs_of_same h hroster) _ fun hform => ?_
      rw [State.slot, hroster]
      exact ha (by rwa [State.rosterForm, hroster] at hform)
    · cases hu
  · exact runs_setRecord h _ ha

/-- A slot that is written and not vacant is read back, whatever the form of the roster. -/
theorem slot_setSlot_of_not_vacant {x : Slot} (hx : ¬ x.vacant) : (s.setSlot a x).slot a = x :=
  cellsGet_put_of_ne (fun heq => hx (by rw [heq]; exact freeSlot_vacant)) _ a

/-- The state as an open record closes, its reference gone from the deadline list and its slot's week written, before its
total is placed (R106, R126). -/
def State.weekWritten (s : State) (a : Nat) (x : PayInput) : State :=
  (s.setRecords { s.records with deadlines := s.records.deadlines.filter fun c => decide (c ≠ a) }).setSlot a
    { s.slot a with weekIndex := (weekAfter x).1, weekTotal := (weekAfter x).2 }

theorem closeRecord_of_open {d : RecordData} (hd : ((s.checkedRead a).slot a).record.openData = some d) (out : Stamp)
    (cause : ClosureCause) :
    s.closeRecord a out cause =
      let x := (s.checkedRead a).closureInput a d out cause
      ((s.checkedRead a).weekWritten a x).placeTotal a x.data out (shiftTotal x) := by
  unfold State.closeRecord
  dsimp only
  rw [hd]
  rfl

theorem closeRecord_of_not_open (hd : ((s.checkedRead a).slot a).record.openData = none) (out : Stamp)
    (cause : ClosureCause) : s.closeRecord a out cause = (s.checkedRead a, .abandoned) := by
  unfold State.closeRecord
  dsimp only
  rw [hd]

/-- The record of a slot in which its week is written is open as before. -/
theorem weekWritten_open {d : RecordData} (hd : (s.slot a).record.openData = some d) (x : PayInput) :
    ((s.weekWritten a x).slot a) = { s.slot a with weekIndex := (weekAfter x).1, weekTotal := (weekAfter x).2 } :=
  slot_setSlot_of_not_vacant (not_vacant_of_open (d := d) hd)

theorem runs_closeRecord (out : Stamp) (cause : ClosureCause) (h : rosterRuns marks r s.roster) :
    rosterRuns marks r (s.closeRecord a out cause).1.roster := by
  have hread := runs_checkedRead (a := a) h
  cases hd : ((s.checkedRead a).slot a).record.openData with
  | none =>
    rw [closeRecord_of_not_open hd]
    exact hread
  | some d =>
    rw [closeRecord_of_open hd]
    refine runs_placeTotal _ _ _ ?_ fun _ => not_vacant_of_open (d := d) (by rw [weekWritten_open hd]; exact hd)
    exact runs_rewrite (s := (s.checkedRead a).setRecords _) hread (fun _ => not_vacant_of_open hd)
      fun _ => ⟨rfl, rfl, rfl, .inl rfl⟩

theorem setRecord_statusOf (h : s.rosterForm) (x : ShiftRecord) : (s.setRecord a x).statusOf a = s.statusOf a :=
  statusOf_setSlot_same h rfl

theorem weekWritten_rosterForm (h : s.rosterForm) (x : PayInput) : (s.weekWritten a x).rosterForm :=
  rosterForm_setSlot (s := s.setRecords _) h a _

theorem weekWritten_statusOf (h : s.rosterForm) (x : PayInput) : (s.weekWritten a x).statusOf a = s.statusOf a :=
  statusOf_setSlot_same (s := s.setRecords _) h rfl

/-- A total is placed without a change of its slot's status or damage mark. -/
theorem placeTotal_statusOf (h : s.rosterForm) (d : RecordData) (out : Stamp) (x : ShiftTotal) :
    (s.placeTotal a d out x).1.statusOf a = s.statusOf a := by
  unfold State.placeTotal
  split
  · next u hu =>
    split at hu
    · have hroster := offerTotal_roster hu
      have hform : u.rosterForm := by rwa [State.rosterForm, hroster]
      refine (setRecord_statusOf hform _).trans (statusOf_congr ?_ ?_)
      · rw [State.isDamaged, hroster]
        rfl
      · rw [State.slot, hroster]
        rfl
    · cases hu
  · exact setRecord_statusOf h _

/-- The slot of a record that closes is ACTIVE afterwards where it was before (R24, R106). -/
theorem closeRecord_active (h : s.rosterForm) (ha : s.statusOf a = .active) {out : Stamp} {cause : ClosureCause}
    (hplaced : (s.closeRecord a out cause).2 ≠ .abandoned) : (s.closeRecord a out cause).1.statusOf a = .active := by
  cases hd : ((s.checkedRead a).slot a).record.openData with
  | none =>
    rw [closeRecord_of_not_open hd] at hplaced
    exact absurd rfl hplaced
  | some d =>
    have hread : (s.checkedRead a).statusOf a = .active := by
      rcases checkedRead_cases h a with ⟨hdamaged, e, he⟩ | ⟨-, -, hlost⟩
      · exact (statusOf_congr hdamaged (by rw [he])).trans ha
      · rw [hlost] at hd
        cases hd
    have hform : (s.checkedRead a).rosterForm :=
      (runs_checkedRead (marks := True) (rosterRuns.refl _ _)).canonical h
    rw [closeRecord_of_open hd]
    dsimp only
    rw [placeTotal_statusOf (weekWritten_rosterForm hform _), weekWritten_statusOf hform, hread]

theorem runs_forceClosure (order : Instr) (now : Stamp) (h : rosterRuns marks r s.roster)
    (ha : s.statusOf a = .active) : rosterRuns marks r (s.forceClosure order a now).roster := by
  have hclose := runs_closeRecord (a := a) now .forced h
  intro hr
  have hactive := closeRecord_active (out := now) (cause := .forced) (h.canonical hr) ha
  unfold State.forceClosure
  dsimp only
  split
  · next hplaced =>
    obtain ⟨hd, hstatus⟩ := statusOf_eq_active.1 (hactive (by rw [hplaced]; decide))
    refine runs_of_same (runs_freeSlotAt hclose fun _ => ⟨hd, ?_⟩) (answer_roster _ _ _ _) hr
    rw [hstatus]
    decide
  · next hplaced =>
    have hstatus := hactive (by rw [hplaced]; decide)
    exact runs_of_same (runs_markWithdrawn hclose fun _ => hstatus) (answer_roster _ _ _ _) hr
  · exact runs_of_same hclose (answer_roster _ _ _ _) hr

theorem runs_withdraw (order : Instr) (force : Bool) (h : rosterRuns marks r s.roster) (ha : s.statusOf a = .active) :
    rosterRuns marks r (s.withdraw order a force).roster := by
  have hanswer : ∀ code body, rosterRuns marks r (s.answer order code body).roster := fun code body =>
    runs_of_same h (answer_roster _ _ _ _)
  have hopen : rosterRuns marks r (if force then match s.now with
      | none => s.refuse order .clockInvalid
      | some t => s.forceClosure order a t
    else s.refuse order .openRecord).roster := by
    refine runs_ite ?_ (hanswer _ _)
    split
    · exact hanswer _ _
    · exact runs_forceClosure order _ h ha
  unfold State.withdraw
  refine runs_ite (hanswer _ _) ?_
  split
  · obtain ⟨hd, hstatus⟩ := statusOf_eq_active.1 ha
    exact runs_of_same (runs_freeSlotAt h fun _ => ⟨hd, by rw [hstatus]; decide⟩) (answer_roster _ _ _ _)
  · exact runs_of_same (runs_markWithdrawn h fun _ => ha) (answer_roster _ _ _ _)
  · exact hopen
  · exact hopen

theorem runs_recordPunch (cls : Classification) (i : Stamp) (offWindow : Bool) (h : rosterRuns marks r s.roster) :
    rosterRuns marks r (s.recordPunch a cls i offWindow).1.roster := by
  have hread := runs_checkedRead (a := a) h
  unfold State.recordPunch
  dsimp only
  split
  · exact hread
  · next hactive =>
    have hvacant : (s.checkedRead a).rosterForm → ¬ ((s.checkedRead a).slot a).vacant := fun _ =>
      not_vacant_of_status (by rw [(statusOf_eq_active.1 (not_not.1 hactive)).2]; decide)
    split
    · exact runs_openRecord _ _ hread hvacant
    · split
      · exact runs_setRecord hread _ hvacant
      · exact hread
    · exact runs_setRecord hread _ hvacant
    · exact runs_closeRecord _ _ hread
    · exact runs_closeRecord _ _ hread
    · exact hread

theorem runs_closeDue (b : Stamp) (h : rosterRuns marks r s.roster) : rosterRuns marks r (s.closeDue b).roster := by
  unfold State.closeDue
  generalize s.records.deadlines.length = n
  induction n generalizing s with
  | zero => exact h
  | succ n ih =>
    unfold State.closeDueLoop
    split
    · exact h
    · next t ht =>
      refine ih ?_
      unfold State.closeHead at ht
      split at ht
      · cases ht
      · split at ht
        · split at ht
          · cases ht
            exact runs_closeRecord _ _ h
          · cases ht
        · cases ht

theorem runs_moveHead (h : rosterRuns marks r s.roster) : rosterRuns marks r s.moveHead.1.roster := by
  unfold State.moveHead
  split
  · exact h
  · next a _ _ =>
    have hread := runs_checkedRead (a := a) h
    dsimp only
    split
    · exact hread
    · next hdamaged =>
      split
      · next hrecord =>
        split
        · exact hread
        · next u hu =>
          have hroster := offerTotal_roster hu
          have hslot : u.slot a = (s.checkedRead a).slot a := by rw [State.slot, hroster]; rfl
          have hdamage : u.isDamaged a = (s.checkedRead a).isDamaged a := by rw [State.isDamaged, hroster]; rfl
          have hmoved : rosterRuns marks r u.roster := runs_of_same hread hroster
          dsimp only
          split
          · next hstatus =>
            refine runs_freeSlotAt (s := u.setRecords _) hmoved fun _ => ⟨hdamage.trans (by simpa using hdamaged), ?_⟩
            rw [hstatus]
            decide
          · refine runs_setRecord (s := u.setRecords _) hmoved _ fun _ => not_vacant_of_record ?_
            rw [show (u.setRecords _).slot a = u.slot a from rfl, hslot, hrecord]
            intro hoff
            cases hoff
      · exact hread

theorem runs_moveTotals (h : rosterRuns marks r s.roster) : rosterRuns marks r s.moveTotals.roster := by
  unfold State.moveTotals
  generalize s.records.closureQueue.length = n
  induction n generalizing s with
  | zero => exact h
  | succ n ih =>
    unfold State.moveLoop
    exact runs_ite (ih (runs_moveHead h)) (runs_moveHead h)

/-! ### Commits (R54, R55) -/

theorem noteAndReport_roster (l : LaneId) (p : HandedPunch) : (s.noteAndReport l p).roster = s.roster :=
  (frame_noteAndReport (L := [.spool, .link]) l p (.refl _ _) (by decide) (by decide)).same (b := .roster) (by decide)

theorem runs_commitRecord (p : HandedPunch) (h : rosterRuns marks r s.roster) :
    rosterRuns marks r (s.commitRecord a p).1.roster := by
  unfold State.commitRecord
  split
  · next c i _ _ =>
    have hrecord := runs_recordPunch (a := a) c i p.offWindow h
    dsimp only
    split <;> exact hrecord
  · exact h

theorem runs_commit (l : LaneId) (p : HandedPunch) (h : rosterRuns marks r s.roster) :
    rosterRuns marks r (s.commit l p).roster := by
  unfold State.commit
  split
  · exact runs_of_same h (noteAndReport_roster _ _)
  · next a _ =>
    have hread := runs_checkedRead (a := a) h
    refine runs_ite (runs_of_same ?_ (noteAndReport_roster _ _)) (runs_of_same hread (noteAndReport_roster _ _))
    exact runs_writeSlot (fun _ => ⟨rfl, rfl, rfl, .inl rfl⟩) (runs_commitRecord p hread)

theorem runs_passageNotice (l : LaneId) (h : rosterRuns marks r s.roster) :
    rosterRuns marks r (s.passageNotice l).roster := by
  unfold State.passageNotice
  split
  · exact h
  · exact runs_commit _ _ h

end
end Sys2Proof.Machine
end

section
/-! ## The law of the lanes and of the marks, kept by the shared operations (R30, R53, R58, R70–R73) -/
namespace Sys2Proof.Machine

/-! ### What a lane's course can be -/

/-- The activity that stands for a grant in a phase (R70). -/
def GrantPhase.activity : GrantPhase → Activity
  | .waiting => .interlockWait
  | .released => .released

/-- A grant of a punch, behind which a handed punch stands (R53). -/
def Grant.handsPunch (g : Grant) : Prop := g.kind = .worker ∨ g.kind = .visitor

/-- The courses a lane can have between two steps: at rest, in a referral wait of its own head, or with a grant (R58, R70, R72,
R73). -/
inductive LaneCourse.Sound (l : LaneId) : LaneCourse → Prop where
  | rest : Sound l .rest
  | referral (w : ReferralWait) (p : Option LaneSetup) (hw : w.head.lane = l) :
      Sound l { activity := .referralWait, grant := none, pendingSetup := p, wait := some w, handed := none }
  | granted (g : Grant) (p : Option LaneSetup) (q : Option HandedPunch) (hq : q.isSome = true ↔ g.handsPunch) :
      Sound l { activity := g.phase.activity, grant := some g, pendingSetup := p, wait := none, handed := q }

/-- A lane IDLE with nothing held, whose pending setup may still wait (R65). -/
def LaneCourse.resting (x : LaneCourse) : Prop := ∃ p, x = { LaneCourse.rest with pendingSetup := p }

/-- A lane's grant and handed punch are for a slot (R30). -/
def LaneCourse.isFor (x : LaneCourse) (a : Nat) : Prop :=
  (∃ g, x.grant = some g ∧ g.slot = some a) ∧ ∃ p, x.handed = some p ∧ p.slot = some a

theorem markLaw_iff (s : State) : s.markLaw ↔ ∀ a l, (s.slot a).mark = some l → (s.course l).isFor a := Iff.rfl

theorem course_of_laws {s : State} (hlanes : s.laneLaw) (hwaits : s.waitLaw) (l : LaneId) : (s.course l).Sound l := by
  obtain ⟨hreleased, hwaiting, hreferral, hhanded, hpending⟩ := hlanes l
  cases hgrant : (s.lane l).grant with
  | some g =>
    have hactivity : (s.lane l).activity = g.phase.activity := by
      cases hphase : g.phase with
      | released => exact hreleased.2 ⟨g, hgrant, hphase⟩
      | waiting => exact hwaiting.2 ⟨g, hgrant, hphase⟩
    have hwait : s.punch.waits[l] = none := Option.not_isSome_iff_eq_none.1 fun hw => by
      have hactivity' := hreferral.2 hw
      rw [hactivity] at hactivity'
      cases hphase : g.phase <;> rw [hphase] at hactivity' <;> cases hactivity'
    have hcourse : s.course l = ⟨g.phase.activity, some g, (s.lane l).pendingSetup, none, s.handedAt l⟩ := by
      rw [State.course, hactivity, hgrant, hwait]
    rw [hcourse]
    refine .granted g _ _ (hhanded.trans ⟨?_, fun hkind => ⟨g, hgrant, hkind⟩⟩)
    rintro ⟨k, hk, hkind⟩
    rw [hgrant] at hk
    cases hk
    exact hkind
  | none =>
    have hpunch : s.handedAt l = none := Option.not_isSome_iff_eq_none.1 fun hp => by
      obtain ⟨g, hg, -⟩ := hhanded.1 hp
      rw [hgrant] at hg
      cases hg
    cases hwait : s.punch.waits[l] with
    | some w =>
      have hactivity : (s.lane l).activity = .referralWait := hreferral.2 (by rw [hwait]; rfl)
      have hcourse : s.course l = ⟨.referralWait, none, (s.lane l).pendingSetup, some w, none⟩ := by
        rw [State.course, hactivity, hgrant, hwait, hpunch]
      rw [hcourse]
      exact .referral w _ (hwaits l w hwait)
    | none =>
      have hrest : (s.course l).voided.cancelled = .rest := voided_cancelled_rest hlanes l
      rw [LaneCourse.voided, show (s.course l).grant = none from hgrant] at hrest
      dsimp only at hrest
      rw [LaneCourse.cancelled, show (s.course l).wait = none from hwait] at hrest
      dsimp only at hrest
      rw [hrest]
      exact .rest

/-- The clauses of the law of the lanes and of the waits, of one course. -/
theorem LaneCourse.Sound.clauses {l : LaneId} {x : LaneCourse} (h : x.Sound l) :
    ((x.activity = .released ↔ ∃ g, x.grant = some g ∧ g.phase = .released) ∧
      (x.activity = .interlockWait ↔ ∃ g, x.grant = some g ∧ g.phase = .waiting) ∧
      (x.activity = .referralWait ↔ x.wait.isSome = true) ∧
      (x.handed.isSome = true ↔ ∃ g, x.grant = some g ∧ (g.kind = .worker ∨ g.kind = .visitor)) ∧
      (x.pendingSetup.isSome = true → x.activity ≠ .idle)) ∧ ∀ w, x.wait = some w → w.head.lane = l := by
  cases h with
  | rest => simp [LaneCourse.rest]
  | referral w p hw =>
    refine ⟨by simp, ?_⟩
    rintro _ ⟨⟩
    exact hw
  | granted g p q hq => cases hphase : g.phase <;> simp [GrantPhase.activity, hphase, hq, Grant.handsPunch]

theorem laws_of_courses {s : State} (h : ∀ l, (s.course l).Sound l) : s.laneLaw ∧ s.waitLaw :=
  ⟨fun l => (h l).clauses.1, fun l => (h l).clauses.2⟩

section
variable {l : LaneId} {x : LaneCourse} {a : Nat}

theorem LaneCourse.Sound.of_idle (h : x.Sound l) (hidle : x.activity = .idle) : x = .rest := by
  cases h with
  | rest => rfl
  | referral => cases hidle
  | granted g => cases hphase : g.phase <;> simp [GrantPhase.activity, hphase] at hidle

theorem LaneCourse.Sound.of_wait (h : x.Sound l) {w : ReferralWait} (hw : x.wait = some w) :
    w.head.lane = l ∧ ∃ p, x =
      { activity := .referralWait, grant := none, pendingSetup := p, wait := some w, handed := none } := by
  cases h with
  | rest => cases hw
  | referral v p hv =>
    cases hw
    exact ⟨hv, p, rfl⟩
  | granted => cases hw

theorem LaneCourse.Sound.of_grant (h : x.Sound l) {g : Grant} (hg : x.grant = some g) :
    ∃ p q, (q.isSome = true ↔ g.handsPunch) ∧ x =
      { activity := g.phase.activity, grant := some g, pendingSetup := p, wait := none, handed := q } := by
  cases h with
  | rest => cases hg
  | referral => cases hg
  | granted k p q hq =>
    cases hg
    exact ⟨p, q, hq, rfl⟩

theorem LaneCourse.resting.not_isFor (h : x.resting) : ¬ x.isFor a := by
  rintro ⟨⟨g, hg, -⟩, -⟩
  obtain ⟨p, rfl⟩ := h
  cases hg

theorem LaneCourse.resting.idle (h : x.resting) : x.activity = .idle := by
  obtain ⟨p, rfl⟩ := h
  rfl

theorem LaneCourse.rest_resting : LaneCourse.rest.resting := ⟨none, rfl⟩

end

/-! ### What is claimed of a state in the course of a step -/

/-- What is claimed in the course of a step that began with a roster: the law of the lanes with `lanes`, and that of the marks with
`marks`, which rests on the roster it began with. -/
structure Claim where
  roster : Roster
  lanes : Prop
  marks : Prop
  lanes_of_marks : marks → lanes
  roster_of_marks : marks → roster.canonical ∧ roster.emptied

/-- A state has a roster that the rules make of the first one, every lane but `x` has a sound course, and the lane `x` a sound or
a resting one, as a referral's end leaves it (R65); and the marks name grants (R30). -/
structure State.keeps (s : State) (c : Claim) (x : Option LaneId) : Prop where
  runs : rosterRuns True c.roster s.roster
  courses : c.lanes → ∀ l, (s.course l).Sound l ∨ x = some l ∧ (s.course l).resting
  marks : c.marks → s.markLaw

/-- The parts of the state that neither the roster's laws nor those of the lanes speak of. -/
def calmBlocks : List Block := [.time, .records, .bells, .inputs, .banks, .spool, .link, .setup, .supply, .notices]

section
variable {c : Claim} {x y : Option LaneId} {s t : State} {l : LaneId}

theorem course_of_blocks {s t : State} (hlanes : t.lanes = s.lanes) (hpunch : t.punch = s.punch) (l : LaneId) :
    t.course l = s.course l := by
  unfold State.course State.handedAt State.lane
  rw [hlanes, hpunch]

/-- One lane's course changes, and no mark but one that names that lane is set. -/
theorem keeps_at (h : s.keeps c x) (hruns : rosterRuns True s.roster t.roster)
    (hother : ∀ m, l ≠ m → t.course m = s.course m) (hxy : ∀ m, l ≠ m → x = some m → y = some m)
    (hl : c.lanes → (t.course l).Sound l ∨ y = some l ∧ (t.course l).resting)
    (hmarks : c.marks → ∀ a m, (t.slot a).mark = some m →
      l = m ∧ (t.course l).isFor a ∨ l ≠ m ∧ (s.slot a).mark = some m) : t.keeps c y := by
  refine ⟨h.runs.trans hruns, fun hlanes m => ?_, fun hm a m hmark => ?_⟩
  · by_cases hlm : l = m
    · exact hlm ▸ hl hlanes
    · rw [hother m hlm]
      exact (h.courses hlanes m).imp_right (And.imp_left (hxy m hlm))
  · rcases hmarks hm a m hmark with ⟨rfl, hfor⟩ | ⟨hlm, hbefore⟩
    · exact hfor
    · have hfor := (markLaw_iff s).1 (h.marks hm) a m hbefore
      rwa [← hother m hlm] at hfor

theorem keeps_canonical (h : s.keeps c x) (hm : c.marks) : s.roster.canonical ∧ s.roster.emptied :=
  h.runs.keeps (fun hmove hcanonical => hmove.emptied hcanonical) (c.roster_of_marks hm).1 (c.roster_of_marks hm).2

/-- Without a mark set, a mark a slot has afterwards it had before. -/
theorem keeps_marked (h : s.keeps c x) (hm : c.marks) (hruns : rosterRuns False s.roster t.roster) {a : Nat} {m : LaneId}
    (hmark : (t.slot a).mark = some m) : (s.slot a).mark = some m := hruns.marked (keeps_canonical h hm).1 hmark

theorem keeps_of_courses (h : s.keeps c x) (hcourse : ∀ l, t.course l = s.course l)
    (hruns : rosterRuns False s.roster t.roster) : t.keeps c x := by
  refine ⟨h.runs.trans (hruns.mono False.elim), fun hlanes l => ?_, fun hm a l hmark => ?_⟩
  · rw [hcourse]
    exact h.courses hlanes l
  · have hfor := (markLaw_iff s).1 (h.marks hm) a l (keeps_marked h hm hruns hmark)
    rwa [← hcourse] at hfor

theorem keeps_of_calm {L : List Block} (h : s.keeps c x) (hf : unchangedBut L s t) (hL : ∀ b ∈ L, b ∈ calmBlocks) :
    t.keeps c x := by
  have hcalm := hf.mono hL
  refine keeps_of_courses h (course_of_blocks (hcalm.same (b := .lanes) (by decide))
    (hcalm.same (b := .punch) (by decide))) ?_
  rw [show t.roster = s.roster from hcalm.same (b := .roster) (by decide)]
  exact .refl _ _

/-- An operation on the roster and the records. -/
theorem keeps_of_roster (h : s.keeps c x) (hf : unchangedBut [.roster, .records, .spool, .link] s t)
    (hruns : rosterRuns False s.roster s.roster → rosterRuns False s.roster t.roster) : t.keeps c x :=
  keeps_of_courses h (course_of_blocks (hf.same (b := .lanes) (by decide)) (hf.same (b := .punch) (by decide)))
    (hruns (.refl _ _))

theorem keeps_of_same (h : s.keeps c x) (hcourse : sameCourse s t) (hroster : t.roster = s.roster) : t.keeps c x := by
  refine keeps_of_courses h hcourse.1 ?_
  rw [hroster]
  exact .refl _ _

theorem keeps_ite {u : State} {p : Prop} [Decidable p] (ht : t.keeps c x) (hu : u.keeps c x) :
    (if p then t else u).keeps c x := by
  split
  · exact ht
  · exact hu

theorem keeps_ite_fst {α : Type} {u v : State × α} {p : Prop} [Decidable p] (hu : u.1.keeps c x) (hv : v.1.keeps c x) :
    (if p then u else v).1.keeps c x := by
  split
  · exact hu
  · exact hv

theorem keeps_foldl {α : Type} {f : State → α → State} (hf : ∀ u a, u.keeps c x → (f u a).keeps c x) (l : List α)
    (h : s.keeps c x) : (l.foldl f s).keeps c x := by
  induction l generalizing s with
  | nil => exact h
  | cons a rest ih => exact ih (hf s a h)

/-! ### What changes no lane's course -/

theorem keeps_setInputs (v : InputSampler) (h : s.keeps c x) : (s.setInputs v).keeps c x :=
  keeps_of_calm (L := [.inputs]) h (frame_setInputs v (.refl _ _) (by decide)) (by decide)

theorem keeps_setRecords (v : RecordUnit) (h : s.keeps c x) : (s.setRecords v).keeps c x :=
  keeps_of_calm (L := [.records]) h (frame_setRecords v (.refl _ _) (by decide)) (by decide)

theorem keeps_reach (e : Elapsed) (h : s.keeps c x) : (s.reach e).keeps c x :=
  keeps_of_calm h (reach_touches s e) (by decide)

theorem keeps_sendReport (v : Report) (h : s.keeps c x) : (s.sendReport v).keeps c x :=
  keeps_of_calm (L := [.link]) h (frame_sendReport v (.refl _ _) (by decide)) (by decide)

theorem keeps_requestEntry (e : Entry) (h : s.keeps c x) : (s.requestEntry e).keeps c x :=
  keeps_of_calm h (requestEntry_frame s e) (by decide)

theorem keeps_systemEvent (stamp : Option Stamp) (cause : SystemCause) (h : s.keeps c x) :
    (s.systemEvent stamp cause).keeps c x := keeps_requestEntry _ h

theorem keeps_laneAlarm (m : LaneId) (cause : AlarmCause) (h : s.keeps c x) : (s.laneAlarm m cause).keeps c x :=
  keeps_ite h (keeps_requestEntry _ h)

theorem keeps_answer (order : Instr) (code : ReplyCode) (body : ReplyBody) (h : s.keeps c x) :
    (s.answer order code body).keeps c x := keeps_of_calm h (answer_frame s order code body) (by decide)

theorem keeps_refuse (order : Instr) (code : ReplyCode) (h : s.keeps c x) : (s.refuse order code).keeps c x :=
  keeps_answer _ _ _ h

/-- A lane replaced by one with the same activity, grant and pending setup. -/
theorem keeps_setLane {v : Lane} (h : s.keeps c x) (hactivity : v.activity = (s.lane l).activity := by rfl)
    (hgrant : v.grant = (s.lane l).grant := by rfl) (hpending : v.pendingSetup = (s.lane l).pendingSetup := by rfl) :
    (s.setLane l v).keeps c x :=
  keeps_of_same h (sameCourse_setLane (.refl _) l hactivity hgrant hpending) rfl

/-- The Punch Unit replaced by one with the same waits and handed punches. -/
theorem keeps_setPunch {v : PunchUnit} (h : s.keeps c x) (hwaits : v.waits = s.punch.waits := by rfl)
    (hhanded : v.handed = s.punch.handed := by rfl) : (s.setPunch v).keeps c x :=
  keeps_of_same h (sameCourse_setPunch (.refl _) hwaits hhanded) rfl

theorem keeps_queueVerdict (i : Head) (v : Verdict) (h : s.keeps c x) : (s.queueVerdict i v).keeps c x :=
  keeps_ite (keeps_setPunch h) h

theorem keeps_setMode (m : LaneId) (v : LaneMode) (h : s.keeps c x) : (s.setMode m v).keeps c x :=
  keeps_of_same h (sameCourse_setMode (.refl _) m v)
    ((frame_setMode (L := [.lanes]) m v (.refl _ _) (by decide)).same (b := .roster) (by decide))

theorem keeps_askMode (v : AskMode) (m : LaneId) (h : s.keeps c x) : (s.askMode v m).keeps c x :=
  keeps_ite (keeps_setLane h) (keeps_setMode _ _ h)

theorem keeps_askModes (set : LaneSet) (v : AskMode) (h : s.keeps c x) : (s.askModes set v).keeps c x :=
  keeps_foldl (fun _ m hu => keeps_ite (keeps_askMode v m hu) hu) _ h

theorem keeps_restoreMode (m : LaneId) (h : s.keeps c x) : (s.restoreMode m).keeps c x :=
  keeps_of_same h (sameCourse_restoreMode (.refl _) m)
    ((frame_restoreMode (L := [.lanes]) m (.refl _ _) (by decide)).same (b := .roster) (by decide))

theorem keeps_applySetup (m : LaneId) (v : LaneSetup) (h : s.keeps c x) : (s.applySetup m v).keeps c x :=
  keeps_of_same h (sameCourse_applySetup (.refl _) m v)
    ((frame_applySetup (L := [.lanes, .punch, .inputs]) m v (.refl _ _) (by decide) (by decide) (by decide)).same
      (b := .roster) (by decide))

theorem keeps_retakeLevels (h : s.keeps c x) : s.retakeLevels.keeps c x := by
  refine keeps_of_courses h (retakeLevels_course s) ?_
  rw [show s.retakeLevels.roster = s.roster from (retakeLevels_frame s).same (b := .roster) (by decide)]
  exact .refl _ _

theorem keeps_zeroEncoder (m : LaneId) (h : s.keeps c x) : (s.zeroEncoder m).keeps c x := keeps_setLane h

theorem keeps_recordClosing (m : LaneId) (e : Option Elapsed) (h : s.keeps c x) : (s.recordClosing m e).keeps c x := by
  have hclosed : (s.setLane m { s.lane m with doorOpen := false, lastClosing := e, heldTimer := none }).keeps c x :=
    keeps_setLane h
  unfold State.recordClosing State.startPartnerDead
  split
  · exact hclosed
  · exact keeps_setLane hclosed

theorem keeps_endHeld (m : LaneId) (h : s.keeps c x) : (s.endHeld m).keeps c x :=
  keeps_ite (keeps_laneAlarm _ _ (keeps_setLane h)) h

/-! ### Slots and records -/

theorem keeps_lookup (badge : Nat) (h : s.keeps c x) : (s.lookup badge).1.keeps c x :=
  keeps_of_roster h (frame_lookup badge (.refl _ _) (by decide) (by decide) (by decide) (by decide)) (runs_lookup badge)

theorem keeps_enrol {badge : Nat} (hbadge : validBadge badge = true) (f : EnrolFields) (h : s.keeps c x) :
    (s.enrol badge f).1.keeps c x :=
  keeps_of_roster h (frame_enrol badge f (.refl _ _) (by decide) (by decide) (by decide) (by decide))
    (runs_enrol hbadge f)

theorem keeps_advanceEpoch (h : s.keeps c x) : s.advanceEpoch.keeps c x :=
  keeps_of_roster h (frame_advanceEpoch (.refl _ _) (by decide)) runs_advanceEpoch

theorem keeps_closeDue (b : Stamp) (h : s.keeps c x) : (s.closeDue b).keeps c x :=
  keeps_of_roster h (frame_closeDue b (.refl _ _) (by decide) (by decide) (by decide) (by decide)) (runs_closeDue b)

theorem keeps_moveTotals (h : s.keeps c x) : s.moveTotals.keeps c x :=
  keeps_of_roster h (frame_moveTotals (.refl _ _) (by decide) (by decide) (by decide) (by decide)) runs_moveTotals

theorem keeps_commit (m : LaneId) (p : HandedPunch) (h : s.keeps c x) : (s.commit m p).keeps c x :=
  keeps_of_roster h (frame_commit m p (.refl _ _) (by decide) (by decide) (by decide) (by decide)) (runs_commit m p)

theorem keeps_passageNotice (m : LaneId) (h : s.keeps c x) : (s.passageNotice m).keeps c x :=
  keeps_of_roster h (frame_passageNotice m (.refl _ _) (by decide) (by decide) (by decide) (by decide))
    (runs_passageNotice m)

theorem keeps_raiseUnrecorded (a : Nat) (yes : Bool) (h : s.keeps c x) : (s.raiseUnrecorded a yes).keeps c x :=
  keeps_of_roster h (frame_raiseUnrecorded a yes (.refl _ _) (by decide) (by decide) (by decide) (by decide))
    (runs_raiseUnrecorded yes)

end

end Sys2Proof.Machine
end

section
/-! ## The course of a grant keeps the laws of the lanes and of the marks (R30, R53, R57–R62, R72–R87) -/
namespace Sys2Proof.Machine

section
variable {c : Claim} {x : Option LaneId} {s t : State} {l : LaneId}

/-! ### A lane that is idle -/

/-- An IDLE lane holds nothing but, at a referral's end, its pending setup. -/
theorem keeps_resting (h : s.keeps c x) (hl : c.lanes) (hidle : (s.lane l).activity = .idle) : (s.course l).resting := by
  rcases h.courses hl l with hsound | ⟨-, hresting⟩
  · exact hsound.of_idle hidle ▸ LaneCourse.rest_resting
  · exact hresting

theorem keeps_sound (h : s.keeps c x) (hl : c.lanes) (hidle : (s.lane l).activity ≠ .idle) : (s.course l).Sound l :=
  (h.courses hl l).resolve_right fun ⟨_, hresting⟩ => hidle hresting.idle

/-- A lane that holds no grant is named by no mark. -/
theorem keeps_unmarked (h : s.keeps c x) (hm : c.marks) (hl : ∀ a, ¬ (s.course l).isFor a) (a : Nat) :
    (s.slot a).mark ≠ some l := fun hmark => hl a ((markLaw_iff s).1 (h.marks hm) a l hmark)

/-! ### A grant's phase (R72, R85, R86) -/

theorem setLane_course_other {m : LaneId} (v : Lane) (h : l ≠ m) : (s.setLane l v).course m = s.course m := by
  unfold State.course
  rw [State.setLane_other _ _ _ _ h]
  rfl

theorem setLane_course_same (v : Lane) : (s.setLane l v).course l =
    ⟨v.activity, v.grant, v.pendingSetup, s.punch.waits[l], s.handedAt l⟩ := by
  unfold State.course
  rw [State.setLane_same]
  rfl

theorem queueVerdict_sameCourse (s : State) (i : Head) (v : Verdict) : sameCourse s (s.queueVerdict i v) :=
  sameCourse_ite (sameCourse_setPunch (.refl _) rfl rfl) (.refl _)

theorem tellReleased_sameCourse (s : State) (l : LaneId) : sameCourse s (s.tellReleased l) := by
  unfold State.tellReleased
  split
  · exact .refl _
  · exact queueVerdict_sameCourse _ _ _

theorem tellWaiting_sameCourse (s : State) (l : LaneId) : sameCourse s (s.tellWaiting l) := by
  unfold State.tellWaiting
  split
  · exact .refl _
  · exact queueVerdict_sameCourse _ _ _

/-- A grant as it is released (R72). -/
def State.releasedGrant (s : State) (l : LaneId) (g : Grant) : Grant :=
  { g with phase := .released, releaseExpiry := some (s.inSeconds (s.lane l).setup.releaseTime) }

/-- A grant as it is held in an interlock wait (R85). -/
def State.heldGrant (s : State) (l : LaneId) (g : Grant) : Grant :=
  { g with
    phase := .waiting, waitEntry := s.elapsed, waitExpiry := s.inSeconds (s.lane l).setup.waitLimit, releaseExpiry := none }

theorem releaseGrant_course_same (s : State) (l : LaneId) (g : Grant) : (s.releaseGrant l g).course l =
    { s.course l with activity := .released, grant := some (s.releasedGrant l g) } :=
  ((tellReleased_sameCourse _ l).1 l).trans (setLane_course_same _)

theorem releaseGrant_course_other (g : Grant) {m : LaneId} (h : l ≠ m) : (s.releaseGrant l g).course m = s.course m :=
  ((tellReleased_sameCourse _ l).1 m).trans (setLane_course_other _ h)

theorem holdGrant_course_same (s : State) (l : LaneId) (g : Grant) : (s.holdGrant l g).course l =
    { s.course l with activity := .interlockWait, grant := some (s.heldGrant l g) } :=
  ((tellWaiting_sameCourse _ l).1 l).trans (setLane_course_same _)

theorem holdGrant_course_other (g : Grant) {m : LaneId} (h : l ≠ m) : (s.holdGrant l g).course m = s.course m :=
  ((tellWaiting_sameCourse _ l).1 m).trans (setLane_course_other _ h)

theorem releaseGrant_roster (s : State) (l : LaneId) (g : Grant) : (s.releaseGrant l g).roster = s.roster :=
  (frame_releaseGrant (L := [.lanes, .punch]) l g (.refl _ _) (by decide) (by decide)).same (b := .roster) (by decide)

theorem holdGrant_roster (s : State) (l : LaneId) (g : Grant) : (s.holdGrant l g).roster = s.roster :=
  (frame_holdGrant (L := [.lanes, .punch]) l g (.refl _ _) (by decide) (by decide)).same (b := .roster) (by decide)

/-- A lane with a grant stands in it. -/
theorem keeps_granted_course {g : Grant} (h : s.keeps c x) (hlanes : c.lanes) (hg : (s.lane l).grant = some g) :
    ∃ p q, (q.isSome = true ↔ g.handsPunch) ∧ s.course l =
      { activity := g.phase.activity, grant := some g, pendingSetup := p, wait := none, handed := q } := by
  refine LaneCourse.Sound.of_grant ((h.courses hlanes l).resolve_right fun ⟨_, p, hp⟩ => ?_) hg
  have hnone : (s.course l).grant = none := by rw [hp]; rfl
  rw [show (s.course l).grant = some g from hg] at hnone
  cases hnone

/-- A lane's grant is replaced by one of the same kind for the same slot, in another phase or with its passage seen. -/
theorem keeps_regrant {g k : Grant} (h : s.keeps c x) (hg : (s.lane l).grant = some g) (hroster : t.roster = s.roster)
    (hother : ∀ m, l ≠ m → t.course m = s.course m)
    (hl : c.lanes → t.course l = { s.course l with activity := k.phase.activity, grant := some k })
    (hkind : k.kind = g.kind) (hslot : k.slot = g.slot) : t.keeps c x := by
  have hsound : c.lanes → (t.course l).Sound l := fun hlanes => by
    obtain ⟨p, q, hq, hcourse⟩ := keeps_granted_course h hlanes hg
    rw [hl hlanes, hcourse]
    exact .granted k p q (by rw [hq, Grant.handsPunch, Grant.handsPunch, hkind])
  refine keeps_at h (hroster ▸ rosterRuns.refl _ _) hother (fun _ _ hx => hx) (fun hlanes => .inl (hsound hlanes))
    fun hm a m hmark => ?_
  rw [State.slot, hroster] at hmark
  by_cases hlm : l = m
  · subst hlm
    obtain ⟨⟨v, hv, hva⟩, hhanded⟩ := (markLaw_iff s).1 (h.marks hm) a l hmark
    rw [show (s.course l).grant = some g from hg] at hv
    cases hv
    rw [hl (c.lanes_of_marks hm)]
    exact .inl ⟨rfl, ⟨k, rfl, hslot.trans hva⟩, hhanded⟩
  · exact .inr ⟨hlm, hmark⟩

theorem waitingGrant_eq_some {g : Grant} : s.waitingGrant l = some g ↔ (s.lane l).grant = some g ∧ g.phase = .waiting := by
  unfold State.waitingGrant
  cases (s.lane l).grant with
  | none => simp
  | some k =>
    dsimp only
    split
    · next hphase => exact ⟨fun hk => ⟨hk, by cases hk; exact hphase⟩, fun hk => hk.1⟩
    · next hphase => exact ⟨fun hk => (nomatch hk), fun ⟨hk, hw⟩ => by cases hk; exact absurd hw hphase⟩

theorem keeps_releaseWaiting {g : Grant} (h : s.keeps c x) (hg : s.waitingGrant l = some g) :
    (s.releaseGrant l g).keeps c x :=
  keeps_regrant (k := s.releasedGrant l g) h (waitingGrant_eq_some.1 hg).1 (releaseGrant_roster s l g)
    (fun _ => releaseGrant_course_other g) (fun _ => releaseGrant_course_same s l g) rfl rfl

theorem keeps_lookOnce (l p : LaneId) (h : s.keeps c x) : (s.lookOnce l p).keeps c x := by
  unfold State.lookOnce
  split
  · exact h
  · split
    · exact h
    · next hg => exact keeps_releaseWaiting h hg

theorem keeps_look (l : LaneId) (h : s.keeps c x) : (s.look l).keeps c x := by
  unfold State.look
  split
  · exact h
  · split
    · exact h
    · exact keeps_lookOnce _ _ (keeps_lookOnce _ _ h)

theorem keeps_lookAtEntry (l : LaneId) (h : s.keeps c x) : (s.lookAtEntry l).keeps c x := by
  unfold State.lookAtEntry State.lookAtPartner
  split
  · exact h
  · split
    · exact h
    · next hg => exact keeps_ite (keeps_lookOnce _ _ (keeps_releaseWaiting h hg)) h

theorem keeps_settle (h : s.keeps c x) : s.settle.keeps c x :=
  keeps_retakeLevels (keeps_foldl (fun _ l hu => keeps_ite hu (keeps_look l hu)) _ h)

/-! ### A grant taken (R30, R53, R72, R85) -/

/-- An idle lane `l` takes a grant: between `s` and `t` its handed punch has been set and its slot's mark, where it has one. -/
structure GrantReady (s t : State) (l : LaneId) (g : Grant) : Prop where
  runs : rosterRuns True s.roster t.roster
  other : ∀ m, l ≠ m → t.course m = s.course m
  course : ∃ q, (q.isSome = true ↔ g.handsPunch) ∧ t.course l = { s.course l with handed := q } ∧
    (s.roster.canonical → ∀ a m, (t.slot a).mark = some m →
      (s.slot a).mark = some m ∨ l = m ∧ g.slot = some a ∧ ∃ p, q = some p ∧ p.slot = some a)

/-- A lane without a grant takes one for which it is ready, released or waiting. -/
theorem keeps_granted {u : State} {g k : Grant} (h : s.keeps c x) (hidle : c.lanes → (s.lane l).activity = .idle)
    (ht : GrantReady s t l g) (hroster : u.roster = t.roster) (hother : ∀ m, l ≠ m → u.course m = t.course m)
    (hl : u.course l = { t.course l with activity := k.phase.activity, grant := some k }) (hkind : k.kind = g.kind)
    (hslot : k.slot = g.slot) : u.keeps c x := by
  obtain ⟨q, hq, hcourse, hmarks⟩ := ht.course
  refine keeps_at h (hroster ▸ ht.runs) (fun m hlm => (hother m hlm).trans (ht.other m hlm)) (fun _ _ hx => hx)
    (fun hlanes => .inl ?_) fun hm a m hmark => ?_
  · obtain ⟨p, hp⟩ := keeps_resting h hlanes (hidle hlanes)
    rw [hl, hcourse, hp]
    exact .granted k p q (by rw [hq, Grant.handsPunch, Grant.handsPunch, hkind])
  · have hresting := keeps_resting h (c.lanes_of_marks hm) (hidle (c.lanes_of_marks hm))
    rw [State.slot, hroster] at hmark
    rcases hmarks (keeps_canonical h hm).1 a m hmark with hbefore | ⟨rfl, hg, p, hp, hpa⟩
    · refine .inr ⟨?_, hbefore⟩
      rintro rfl
      exact keeps_unmarked h hm (fun _ => hresting.not_isFor) a hbefore
    · refine .inl ⟨rfl, ?_⟩
      rw [hl, hcourse]
      exact ⟨⟨k, rfl, hslot.trans hg⟩, p, hp, hpa⟩

theorem keeps_takeGrant {g : Grant} (h : s.keeps c x) (hidle : c.lanes → (s.lane l).activity = .idle)
    (ht : GrantReady s t l g) : (t.takeGrant l g).keeps c x :=
  keeps_ite
    (keeps_lookAtEntry l (keeps_granted (k := t.heldGrant l g) h hidle ht (holdGrant_roster t l g)
      (fun _ => holdGrant_course_other g) (holdGrant_course_same t l g) rfl rfl))
    (keeps_granted (k := t.releasedGrant l g) h hidle ht (releaseGrant_roster t l g)
      (fun _ => releaseGrant_course_other g) (releaseGrant_course_same t l g) rfl rfl)

/-- A REMOTE or EXIT_REQUEST grant has no handed punch. -/
theorem GrantReady.unhanded {g : Grant} (hl : (s.course l).resting) (hg : ¬ g.handsPunch) : GrantReady s s l g := by
  refine ⟨.refl _ _, fun _ _ => rfl, none, by simp [hg], ?_, fun _ _ _ hmark => .inl hmark⟩
  obtain ⟨p, hp⟩ := hl
  rw [hp]
  rfl

theorem setHanded_course_same (s : State) (l : LaneId) (q : Option HandedPunch) :
    (s.setHanded l q).course l = { s.course l with handed := q } := by
  have hhanded : (s.setHanded l q).handedAt l = q := putAt_same _ l q
  unfold State.course
  rw [hhanded]
  rfl

theorem setHanded_course_other (q : Option HandedPunch) {m : LaneId} (h : l ≠ m) :
    (s.setHanded l q).course m = s.course m := by
  have hhanded : (s.setHanded l q).handedAt m = s.handedAt m := putAt_other _ l m q h
  unfold State.course
  rw [hhanded]
  rfl

theorem setMark_frame (s : State) (l : LaneId) (slot : Option Nat) :
    unchangedBut [.roster, .records, .spool, .link] s (s.setMark l slot) :=
  frame_setMark l slot (.refl _ _) (by decide) (by decide) (by decide) (by decide)

/-- Setting a mark sets that of the one slot (R30). -/
theorem setMark_marked (h : s.rosterForm) {slot : Option Nat} {a : Nat} {m : LaneId}
    (hmark : ((s.setMark l slot).slot a).mark = some m) : (s.slot a).mark = some m ∨ l = m ∧ slot = some a := by
  cases slot with
  | none => exact .inl hmark
  | some e =>
    have hruns : rosterRuns False s.roster (s.checkedRead e).roster := runs_checkedRead (.refl _ _)
    have hread : ((s.checkedRead e).slot a).mark = some m → (s.slot a).mark = some m := hruns.marked h
    unfold State.setMark State.writeSlot at hmark
    dsimp only at hmark
    split at hmark
    · by_cases hea : e = a
      · subst hea
        rw [slot_setSlot_same (hruns.canonical h)] at hmark
        exact .inr ⟨Option.some.inj hmark, rfl⟩
      · rw [slot_setSlot_other hea] at hmark
        exact .inl (hread hmark)
    · exact .inl (hread hmark)
    · exact .inl (hread hmark)
    · exact .inl (hread hmark)

theorem grantFor_handsPunch (p : HandedPunch) : (grantFor p).handsPunch := by
  cases hslot : p.slot <;> simp [grantFor, newGrant, Grant.handsPunch, hslot]

/-- A handed punch's grant is ready as its slot is marked and it is handed on (R30, R53). -/
theorem GrantReady.handed (s : State) (l : LaneId) (p : HandedPunch) :
    GrantReady s ((s.setMark l p.slot).setHanded l (some p)) l (grantFor p) := by
  have hcourse := course_of_blocks ((setMark_frame s l p.slot).same (b := .lanes) (by decide))
    ((setMark_frame s l p.slot).same (b := .punch) (by decide))
  refine ⟨runs_setMark trivial l p.slot (.refl _ _), fun m hlm => (setHanded_course_other _ hlm).trans (hcourse m), some p,
    by simp [grantFor_handsPunch], ?_, fun hform a m hmark => ?_⟩
  · rw [setHanded_course_same, hcourse]
  · exact (setMark_marked hform hmark).imp_right fun ⟨hlm, hslot⟩ => ⟨hlm, hslot, p, rfl, hslot⟩

theorem keeps_grantPunch (p : HandedPunch) (h : s.keeps c x) (hidle : c.lanes → (s.lane p.head.lane).activity = .idle) :
    (s.grantPunch p).1.keeps c x :=
  keeps_ite_fst (keeps_commit _ _ (keeps_queueVerdict _ _ h)) (keeps_takeGrant h hidle (.handed s _ p))

/-! ### A grant's end (R30, R57, R73) -/

/-- Clearing a lane's mark of a slot leaves that slot unmarked by the lane (R30). -/
theorem clearMark_unmarked (h : s.roster.canonical) (hempty : s.roster.emptied) (l : LaneId) (a : Nat) :
    ((s.clearMark l (some a)).slot a).mark ≠ some l := by
  have hruns : rosterRuns False s.roster (s.checkedRead a).roster := runs_checkedRead (.refl _ _)
  obtain ⟨hform, hread⟩ := hruns.keeps (fun hmove hcanonical => hmove.emptied hcanonical) h hempty
  have hvacant : ((s.checkedRead a).slot a).status = .free → ((s.checkedRead a).slot a).mark ≠ some l := by
    intro hstatus
    obtain ⟨e, he⟩ : ((s.checkedRead a).slot a).vacant := (hread a).1 hstatus
    rw [he]
    intro hmark
    cases hmark
  have hwritten : ((((s.checkedRead a).setSlot a { (s.checkedRead a).slot a with
      mark := if ((s.checkedRead a).slot a).mark = some l then none else ((s.checkedRead a).slot a).mark }).slot a).mark) ≠
        some l := by
    rw [slot_setSlot_same hform]
    dsimp only
    split
    · intro hmark
      cases hmark
    · assumption
  unfold State.clearMark State.writeSlot
  dsimp only
  split
  · exact hwritten
  · exact hwritten
  · next hfree => exact hvacant (statusOf_eq_free.1 hfree).2
  · next hdamaged => exact hvacant ((hread a).2 (statusOf_eq_damaged.1 hdamaged))

/-- A handed punch dropped leaves no mark that names its lane (R30, R73). -/
theorem dropHanded_unmarked (h : s.keeps c x) (hm : c.marks) (l : LaneId) (a : Nat) :
    ((s.dropHanded l).slot a).mark ≠ some l := by
  intro hmark
  obtain ⟨hcanonical, hempty⟩ := keeps_canonical h hm
  have hbefore := keeps_marked h hm (runs_dropHanded l (.refl _ _)) hmark
  obtain ⟨-, p, hp, hpa⟩ := (markLaw_iff s).1 (h.marks hm) a l hbefore
  rw [State.dropHanded, show s.handedAt l = some p from hp] at hmark
  dsimp only at hmark
  rw [hpa] at hmark
  exact clearMark_unmarked (s := s.setHanded l none) hcanonical hempty l a hmark

/-- The notice of a grant's end drops its handed punch, after a verdict and a report where they are due (R57, R73). -/
theorem noticeEnd_eq (s : State) (l : LaneId) (how : GrantEnd) :
    ∃ t, unchangedBut [.punch, .link] s t ∧ sameCourse s t ∧ s.noticeEnd l how = t.dropHanded l := by
  have hqueue : ∀ (u : State) (i : Head) (v : Verdict), unchangedBut [.punch, .link] u (u.queueVerdict i v) :=
    fun u i v => frame_queueVerdict i v (.refl _ _) (by decide)
  have hreport : ∀ (u : State) (v : Report),
      unchangedBut [.punch, .link] u (u.sendReport v) ∧ sameCourse u (u.sendReport v) := by
    intro u v
    have hf : unchangedBut [.link] u (u.sendReport v) := frame_sendReport v (.refl _ _) (by decide)
    have hinputs : (u.sendReport v).inputs = u.inputs := hf.same (b := .inputs) (by decide)
    exact ⟨hf.mono (by decide), course_of_blocks (hf.same (b := .lanes) (by decide)) (hf.same (b := .punch) (by decide)),
      by rw [hinputs], by rw [hinputs]⟩
  cases how with
  | finished => exact ⟨s, .refl _ _, .refl _, rfl⟩
  | refused =>
    unfold State.noticeEnd State.tellRefused
    cases hp : s.handedAt l with
    | none => exact ⟨s, .refl _ _, .refl _, by rw [State.dropHanded, hp]⟩
    | some p => exact ⟨_, hqueue _ _ _, queueVerdict_sameCourse _ _ _, rfl⟩
  | void cause =>
    unfold State.noticeEnd State.voidPunch
    cases hp : s.handedAt l with
    | none => exact ⟨s, .refl _ _, .refl _, by rw [State.dropHanded, hp]⟩
    | some p =>
      cases cause with
      | supplyHold => exact ⟨s, .refl _ _, .refl _, rfl⟩
      | warmRestart => exact ⟨_, (hreport _ _).1, (hreport _ _).2, rfl⟩
      | _ =>
        exact ⟨_, (hqueue _ _ _).trans (hreport _ _).1, (queueVerdict_sameCourse _ _ _).trans (hreport _ _).2, rfl⟩

theorem becomeIdle_roster (s : State) (l : LaneId) : (s.becomeIdle l).roster = s.roster :=
  (frame_becomeIdle (L := [.lanes, .punch, .inputs]) l (.refl _ _) (by decide) (by decide) (by decide)).same (b := .roster)
    (by decide)

/-- A lane that becomes IDLE with no wait, no handed punch and no mark that names it is at rest. -/
theorem keeps_becomeIdle (h : s.keeps c x) (hruns : rosterRuns False s.roster t.roster)
    (hother : ∀ m, l ≠ m → t.course m = s.course m)
    (hl : c.lanes → (t.course l).wait = none ∧ (t.course l).handed = none)
    (hmarks : c.marks → ∀ a, (t.slot a).mark ≠ some l) {y : Option LaneId} (hxy : ∀ m, l ≠ m → x = some m → y = some m) :
    (t.becomeIdle l).keeps c y := by
  refine keeps_at (l := l) h ?_ (fun m hlm => (becomeIdle_course_other t l hlm).trans (hother m hlm)) hxy
    (fun hlanes => .inl ?_) fun hm a m hmark => ?_
  · rw [becomeIdle_roster]
    exact hruns.mono False.elim
  · obtain ⟨hwait, hhanded⟩ := hl hlanes
    have hrest : (t.becomeIdle l).course l = .rest := by
      rw [becomeIdle_course_same, LaneCourse.idle, hwait, hhanded]
      rfl
    exact hrest ▸ .rest
  · rw [State.slot, becomeIdle_roster] at hmark
    refine .inr ⟨?_, keeps_marked h hm hruns hmark⟩
    rintro rfl
    exact hmarks hm a hmark

theorem keeps_endGrant (how : GrantEnd) {g : Grant} (h : s.keeps c x) (hg : (s.lane l).grant = some g) :
    (s.endGrant l how).keeps c x := by
  obtain ⟨t, hframe, hcourse, heq⟩ := noticeEnd_eq s l how
  have hroster : t.roster = s.roster := hframe.same (b := .roster) (by decide)
  have ht : t.keeps c x := keeps_of_same h hcourse hroster
  unfold State.endGrant
  rw [heq]
  refine keeps_becomeIdle ht (runs_dropHanded l (.refl _ _)) (fun _ => dropHanded_course_other t l)
    (fun hlanes => ?_) (fun hm => dropHanded_unmarked ht hm l) fun _ _ hx => hx
  rw [dropHanded_course_same]
  have hgrant : (t.course l).grant = some g := by rw [hcourse.1]; exact hg
  obtain ⟨p, q, -, hgranted⟩ := keeps_granted_course ht hlanes hgrant
  exact ⟨by rw [hgranted], rfl⟩

theorem keeps_voidGrant (cause : VoidCause) (l : LaneId) (h : s.keeps c x) : (State.voidGrant cause s l).keeps c x := by
  unfold State.voidGrant
  split
  · exact h
  · next hg => exact keeps_endGrant _ h hg

/-! ### Referral waits (R58–R62, R65) -/

theorem LaneCourse.not_isFor_of_wait {y : LaneCourse} (h : y.Sound l) {w : ReferralWait} (hw : y.wait = some w) (a : Nat) :
    ¬ y.isFor a := by
  obtain ⟨-, p, rfl⟩ := h.of_wait hw
  rintro ⟨⟨g, hg, -⟩, -⟩
  cases hg

theorem keeps_wait {w : ReferralWait} (h : s.keeps c x) (hl : c.lanes) (hw : s.punch.waits[l] = some w) :
    (s.course l).Sound l := by
  refine (h.courses hl l).resolve_right fun ⟨_, p, hp⟩ => ?_
  have hnone : (s.course l).wait = none := by rw [hp]; rfl
  rw [show (s.course l).wait = some w from hw] at hnone
  cases hnone

theorem keeps_cancelWait (withEnd : Bool) (l : LaneId) (h : s.keeps c x) : (State.cancelWait withEnd s l).keeps c x := by
  unfold State.cancelWait
  split
  · exact h
  · next w hw =>
    have hsame : sameCourse s (if withEnd then s.queueVerdict w.head (plainVerdict .finish) else s) :=
      sameCourse_ite (queueVerdict_sameCourse _ _ _) (.refl _)
    have hframe : unchangedBut [.punch] s (if withEnd then s.queueVerdict w.head (plainVerdict .finish) else s) := by
      split
      · exact frame_queueVerdict _ _ (.refl _ _) (by decide)
      · exact .refl _ _
    have hroster := hframe.same (b := .roster) (by decide)
    generalize (if withEnd then s.queueVerdict w.head (plainVerdict .finish) else s) = t at hsame hroster
    have ht : t.keeps c x := keeps_of_same h hsame hroster
    have hwt : t.punch.waits[l] = some w := (congrArg LaneCourse.wait (hsame.1 l)).trans hw
    have hunmarked : c.marks → ∀ a, (t.slot a).mark ≠ some l := fun hm =>
      keeps_unmarked ht hm (LaneCourse.not_isFor_of_wait (keeps_wait ht (c.lanes_of_marks hm) hwt) hwt)
    refine keeps_becomeIdle (t := t.dropWait l) ht (.refl _ _) (fun _ => dropWait_course_other t l) (fun hlanes => ?_)
      hunmarked fun _ _ hx => hx
    obtain ⟨-, p, hp⟩ := (keeps_wait ht hlanes hwt).of_wait hwt
    rw [dropWait_course_same, hp]
    exact ⟨rfl, rfl⟩

/-- A lane leaves its referral wait resting, its setup still pending (R65). -/
theorem keeps_leaveWait {w : ReferralWait} (h : s.keeps c none) (hw : s.punch.waits[l] = some w) :
    (s.leaveWait l).keeps c (some l) := by
  refine keeps_at (l := l) h (.refl _ _) (fun m hlm => (setLane_course_other (s := s.dropWait l) _ hlm).trans
    (dropWait_course_other s l hlm)) (fun _ _ hx => (nomatch hx)) (fun hlanes => .inr ⟨rfl, ?_⟩) fun hm a m hmark =>
    .inr ⟨?_, hmark⟩
  · obtain ⟨-, p, hp⟩ := (keeps_wait h hlanes hw).of_wait hw
    have hhanded : s.handedAt l = none := congrArg LaneCourse.handed hp
    have hgrant : (s.lane l).grant = none := congrArg LaneCourse.grant hp
    have hwait : (s.dropWait l).punch.waits[l] = none := putAt_same _ l none
    refine ⟨(s.lane l).pendingSetup, (setLane_course_same (s := s.dropWait l) _).trans ?_⟩
    rw [hwait, show (s.dropWait l).handedAt l = none from hhanded]
    dsimp only
    rw [hgrant]
    rfl
  · rintro rfl
    exact keeps_unmarked h hm (LaneCourse.not_isFor_of_wait (keeps_wait h (c.lanes_of_marks hm) hw) hw) a hmark

theorem leaveWait_idle (s : State) (l : LaneId) : ((s.leaveWait l).lane l).activity = .idle := by
  unfold State.leaveWait
  rw [State.setLane_same]

/-- A lane that a referral's end has left resting takes its pending setup (R65). -/
theorem keeps_settleIdle (h : s.keeps c (some l)) : (s.settleIdle l).keeps c none := by
  unfold State.settleIdle
  split
  · next hidle =>
    refine keeps_becomeIdle h (.refl _ _) (fun _ _ => rfl) (fun hlanes => ?_)
      (fun hm => keeps_unmarked h hm fun a => (keeps_resting h (c.lanes_of_marks hm) hidle).not_isFor)
      fun _ hlm hx => absurd (Option.some.inj hx) hlm
    obtain ⟨p, hp⟩ := keeps_resting h hlanes hidle
    rw [hp]
    exact ⟨rfl, rfl⟩
  · next hidle =>
    refine ⟨h.runs, fun hlanes m => .inl ?_, h.marks⟩
    by_cases hlm : l = m
    · exact hlm ▸ keeps_sound h hlanes hidle
    · exact (h.courses hlanes m).resolve_right fun ⟨hx, _⟩ => hlm (Option.some.inj hx)

/-- The state with a lane's referral wait begun (R58). -/
def State.beginWait (s : State) (l : LaneId) (w : ReferralWait) : State :=
  (s.setPunch { s.punch with waits := putAt s.punch.waits l (some w) }).setLane l
    { s.lane l with activity := .referralWait }

theorem beginWait_course_same (s : State) (l : LaneId) (w : ReferralWait) : (s.beginWait l w).course l =
    { s.course l with activity := .referralWait, wait := some w } := by
  have hwait : (putAt s.punch.waits l (some w))[l] = some w := putAt_same _ l _
  refine (setLane_course_same _).trans ?_
  dsimp only [State.setPunch_punch]
  rw [hwait]
  rfl

theorem beginWait_course_other (w : ReferralWait) {m : LaneId} (h : l ≠ m) :
    (s.beginWait l w).course m = s.course m := by
  have hwait : (putAt s.punch.waits l (some w))[m] = s.punch.waits[m] := putAt_other _ l m _ h
  refine (setLane_course_other _ h).trans ?_
  unfold State.course
  dsimp only [State.setPunch_punch]
  rw [hwait]
  rfl

theorem keeps_startReferral (p : PunchRead) (h : s.keeps c x) (hidle : c.lanes → (s.lane p.head.lane).activity = .idle) :
    (s.startReferral p).1.keeps c x := by
  have hbegun : ∀ w : ReferralWait, w.head = p.head → (s.beginWait p.head.lane w).keeps c x := by
    intro w hw
    refine keeps_at (l := p.head.lane) h (.refl _ _) (fun _ => beginWait_course_other w) (fun _ _ hx => hx)
      (fun hlanes => .inl ?_) fun hm a m hmark => .inr ⟨?_, hmark⟩
    · obtain ⟨q, hq⟩ := keeps_resting h hlanes (hidle hlanes)
      rw [beginWait_course_same, hq]
      exact .referral w q (by rw [hw])
    · rintro rfl
      have hresting := keeps_resting h (c.lanes_of_marks hm) (hidle (c.lanes_of_marks hm))
      exact keeps_unmarked h hm (fun _ => hresting.not_isFor) a hmark
  exact keeps_sendReport _ (keeps_queueVerdict _ _ (hbegun _ rfl))

/-! ### Punches (R42–R61) -/

theorem keeps_endPunch (i : Head) (v : Verdict) (h : s.keeps c x) : (s.endPunch i v).1.keeps c x := keeps_queueVerdict _ _ h

theorem keeps_applyMiss (p : PunchRead) (h : s.keeps c x) (hidle : c.lanes → (s.lane p.head.lane).activity = .idle) :
    (s.applyMiss p).1.keeps c x := by
  unfold State.applyMiss
  split
  · exact keeps_endPunch _ _ h
  · exact keeps_grantPunch _ h hidle

theorem keeps_judgeClassified (p : PunchRead) (a : Nat) (k : Classified) (h : s.keeps c x)
    (hidle : c.lanes → (s.lane p.head.lane).activity = .idle) : (s.judgeClassified p a k).1.keeps c x := by
  refine keeps_ite_fst (keeps_endPunch _ _ h) ?_
  split
  · exact keeps_endPunch _ _ h
  · exact keeps_grantPunch _ h hidle
  · exact keeps_grantPunch _ h hidle

/-- An operation on the roster leaves every lane as it is. -/
theorem lane_of_roster (hf : unchangedBut [.roster, .records, .spool, .link] s t) (l : LaneId) : t.lane l = s.lane l :=
  congrArg (fun v : Vector Lane 8 => v[l]) (hf.same (b := .lanes) (by decide))

theorem keeps_judgeSlot (p : PunchRead) (a : Nat) (h : s.keeps c x)
    (hidle : c.lanes → (s.lane p.head.lane).activity = .idle) : (s.judgeSlot p a).1.keeps c x := by
  have hraise := fun yes => lane_of_roster (frame_raiseUnrecorded (L := [.roster, .records, .spool, .link]) (s₁ := s) a yes
    (.refl _ _) (by decide) (by decide) (by decide) (by decide)) p.head.lane
  refine keeps_ite_fst (keeps_endPunch _ _ h) (keeps_ite_fst (keeps_endPunch _ _ h)
    (keeps_ite_fst (keeps_judgeClassified _ _ _ (keeps_raiseUnrecorded _ _ h) ?_) (keeps_endPunch _ _ h)))
  rw [hraise]
  exact hidle

theorem lookup_lane (s : State) (badge : Nat) (l : LaneId) : (s.lookup badge).1.lane l = s.lane l :=
  lane_of_roster (frame_lookup badge (.refl _ _) (by decide) (by decide) (by decide) (by decide)) l

theorem enrol_lane (s : State) (badge : Nat) (f : EnrolFields) (l : LaneId) : (s.enrol badge f).1.lane l = s.lane l :=
  lane_of_roster (frame_enrol badge f (.refl _ _) (by decide) (by decide) (by decide) (by decide)) l

theorem keeps_judge (p : PunchRead) (h : s.keeps c x) : (s.judge p).1.keeps c x := by
  have hread := keeps_lookup p.badge h
  refine keeps_ite_fst (keeps_endPunch _ _ h) (keeps_ite_fst (keeps_endPunch _ _ h) ?_)
  split
  · exact keeps_endPunch _ _ h
  · next hactivity =>
    have hidle : c.lanes → ((s.lookup p.badge).1.lane p.head.lane).activity = .idle := fun _ => by
      rw [lookup_lane]
      exact not_not.1 hactivity
    refine keeps_ite_fst (keeps_endPunch _ _ h) ?_
    dsimp only
    split
    · exact keeps_ite_fst (keeps_startReferral _ hread hidle) (keeps_applyMiss _ hread hidle)
    · exact keeps_judgeSlot _ _ hread hidle

theorem keeps_ruleOn (w : ReferralWait) (d : Decision) (fields : Option EnrolFields) (hbadge : validBadge w.badge = true)
    (h : s.keeps c x) (hidle : c.lanes → (s.lane w.head.lane).activity = .idle) :
    (s.ruleOn w d fields).1.1.keeps c x := by
  unfold State.ruleOn
  split
  · exact keeps_endPunch _ _ h
  · next f =>
    have henrol := keeps_enrol hbadge f h
    have hidle' : c.lanes → ((s.enrol w.badge f).1.lane w.head.lane).activity = .idle := by
      rw [enrol_lane]
      exact hidle
    dsimp only
    split <;> dsimp only
    · exact keeps_judgeSlot _ _ henrol hidle'
    · exact keeps_judgeSlot _ _ henrol hidle'
    · exact keeps_grantPunch _ henrol hidle'
  · have hread := keeps_lookup w.badge h
    have hidle' : c.lanes → ((s.lookup w.badge).1.lane w.head.lane).activity = .idle := by
      rw [lookup_lane]
      exact hidle
    dsimp only
    split <;> dsimp only
    · exact keeps_judgeSlot _ _ hread hidle'
    · exact keeps_grantPunch _ hread hidle'

/-- A referral wait is of its own lane (R58). -/
theorem keeps_wait_lane {w : ReferralWait} (h : s.keeps c x) (hl : c.lanes) (hw : s.punch.waits[l] = some w) :
    w.head.lane = l := ((keeps_wait h hl hw).of_wait hw).1

theorem keeps_leaveWait_idle {w : ReferralWait} (h : s.keeps c none) (hw : s.punch.waits[l] = some w) :
    c.lanes → ((s.leaveWait l).lane w.head.lane).activity = .idle := fun hlanes => by
  rw [keeps_wait_lane h hlanes hw]
  exact leaveWait_idle s l

theorem keeps_carryRuling (order : Instr) {w : ReferralWait} (d : Decision) (fields : Option EnrolFields)
    (hbadge : validBadge w.badge = true) (h : s.keeps c none) (hw : s.punch.waits[l] = some w) :
    (s.carryRuling order l w d fields).keeps c none :=
  keeps_answer _ _ _ (keeps_settle (keeps_settleIdle
    (keeps_ruleOn w d fields hbadge (keeps_leaveWait h hw) (keeps_leaveWait_idle h hw))))

end
end Sys2Proof.Machine
end

section
/-! ## The larger operations keep the laws of the lanes and of the marks (R37–R41, R62, R74–R93, R138, R149, R154–R164) -/
namespace Sys2Proof.Machine

section
variable {c : Claim} {x : Option LaneId} {s t : State} {l : LaneId}

/-! ### Parts that neither law speaks of -/

theorem keeps_setTime (v : TimeBase) (h : s.keeps c x) : (s.setTime v).keeps c x :=
  keeps_of_calm (L := [.time]) h (frame_setTime v (.refl _ _) (by decide)) (by decide)

theorem keeps_setBells (v : ScheduleUnit) (h : s.keeps c x) : (s.setBells v).keeps c x :=
  keeps_of_calm (L := [.bells]) h (frame_setBells v (.refl _ _) (by decide)) (by decide)

theorem keeps_setBanks (v : BankStore) (h : s.keeps c x) : (s.setBanks v).keeps c x :=
  keeps_of_calm (L := [.banks]) h (frame_setBanks v (.refl _ _) (by decide)) (by decide)

theorem keeps_setLink (v : Link) (h : s.keeps c x) : (s.setLink v).keeps c x :=
  keeps_of_calm (L := [.link]) h (frame_setLink v (.refl _ _) (by decide)) (by decide)

theorem keeps_setSetup (v : Setup) (h : s.keeps c x) : (s.setSetup v).keeps c x :=
  keeps_of_calm (L := [.setup]) h (frame_setSetup v (.refl _ _) (by decide)) (by decide)

theorem keeps_setSupply (v : Supply) (h : s.keeps c x) : (s.setSupply v).keeps c x :=
  keeps_of_calm (L := [.supply]) h (frame_setSupply v (.refl _ _) (by decide)) (by decide)

theorem keeps_setPending (v : List Instr) (h : s.keeps c x) : (s.setPending v).keeps c x :=
  ⟨h.runs, h.courses, h.marks⟩

theorem keeps_passPeriods (n : Nat) (h : s.keeps c x) : (s.passPeriods n).keeps c x :=
  keeps_of_calm (L := timerBlocks) h (frame_passPeriods n (.refl _ _) (by decide) (by decide) (by decide) (by decide))
    (by decide)

theorem keeps_dropNotice (r : Receiver) (h : s.keeps c x) : (s.dropNotice r).keeps c x :=
  keeps_of_calm (L := [.notices]) h (frame_dropNotice r (.refl _ _) (by decide)) (by decide)

theorem keeps_takeChange (v : Delivery) (h : s.keeps c x) : (s.takeChange v).keeps c x :=
  keeps_of_calm (L := [.inputs]) h (frame_takeChange v (.refl _ _) (by decide)) (by decide)

theorem keeps_deliver (v : Delivery) (h : s.keeps c x) : (s.deliver v).keeps c x :=
  keeps_of_calm (L := [.inputs]) h (frame_deliver v (.refl _ _) (by decide)) (by decide)

theorem keeps_setEqual (w : WatchId) (v : Bool) (h : s.keeps c x) : (s.setEqual w v).keeps c x :=
  keeps_of_calm (L := [.inputs]) h (frame_setEqual w v (.refl _ _) (by decide)) (by decide)

theorem keeps_requestRings (set : BellSet) (p : TonePattern) (duration : Nat) (h : s.keeps c x) :
    (s.requestRings set p duration).1.keeps c x :=
  keeps_of_calm (L := [.bells]) h (frame_requestRings set p duration (.refl _ _) (by decide)) (by decide)

theorem keeps_beginEvacRings (h : s.keeps c x) : s.beginEvacRings.keeps c x :=
  keeps_of_calm (L := [.bells]) h (frame_beginEvacRings (.refl _ _) (by decide)) (by decide)

theorem keeps_switchIfReached (e : Stamp) (h : s.keeps c x) : (s.switchIfReached e).keeps c x :=
  keeps_of_calm (L := [.banks, .notices, .spool, .link]) h
    (frame_switchIfReached e (.refl _ _) (by decide) (by decide) (by decide) (by decide)) (by decide)

/-! ### Boundaries and spans (R102, R138, R148, R149, R173) -/

theorem keeps_fireEntry (b : Bank) (e : Stamp) (v : ScheduleEntry) (h : s.keeps c x) : (State.fireEntry b e s v).keeps c x := by
  refine keeps_ite ?_ h
  split
  · exact keeps_requestRings _ _ _ h
  · exact keeps_askModes _ _ h
  · exact h

theorem keeps_fireSchedule (b : Bank) (e : Stamp) (h : s.keeps c x) : (s.fireSchedule b e).keeps c x :=
  keeps_foldl (fun _ v => keeps_fireEntry b e v) _ h

theorem keeps_takeBoundary (r : Receiver) (e : Stamp) (h : s.keeps c x) : (s.takeBoundary r e).keeps c x := by
  have hdrop := keeps_dropNotice r h
  cases r with
  | recordUnit => exact keeps_closeDue _ hdrop
  | scheduleUnit => exact keeps_settle (keeps_fireSchedule _ _ hdrop)
  | bankStore => exact keeps_ite (keeps_switchIfReached _ hdrop) hdrop

theorem keeps_catchUpLane (b : Bank) (first last : Stamp) (l : LaneId) (h : s.keeps c x) :
    (State.catchUpLane b first last s l).keeps c x := by
  unfold State.catchUpLane
  split
  · exact h
  · exact keeps_askMode _ _ h

theorem keeps_catchUp (b : Bank) (first last : Stamp) (h : s.keeps c x) : (s.catchUp b first last).keeps c x :=
  keeps_settle (keeps_foldl (fun _ l => keeps_catchUpLane _ _ _ l) _ h)

theorem keeps_takeSpan (r : Receiver) (first last : Stamp) (h : s.keeps c x) : (s.takeSpan r first last).keeps c x := by
  have hdrop := keeps_dropNotice r h
  cases r with
  | recordUnit => exact keeps_closeDue last hdrop
  | scheduleUnit => exact keeps_catchUp _ first last hdrop
  | bankStore => exact keeps_switchIfReached last hdrop

/-! ### The gate line (R37–R41) -/

theorem keeps_sendVerdict (h : s.keeps c x) : s.sendVerdict.keeps c x := by
  unfold State.sendVerdict
  split
  · exact h
  · exact keeps_setPunch h

theorem keeps_setHead (i : Head) (v : HeadState) (h : s.keeps c x) : (s.setHead i v).keeps c x := keeps_setPunch h

theorem keeps_countMiss (i : Head) (h : s.keeps c x) : (s.countMiss i).keeps c x :=
  keeps_ite h (keeps_ite h (keeps_ite (keeps_laneAlarm _ _ (keeps_setHead _ _ h)) (keeps_setHead _ _ h)))

theorem keeps_countAnswer (i : Head) (h : s.keeps c x) : (s.countAnswer i).keeps c x :=
  keeps_ite (keeps_laneAlarm _ _ (keeps_setHead _ _ h)) (keeps_setHead _ _ h)

theorem keeps_endPoll (h : s.keeps c x) : s.endPoll.keeps c x := keeps_setPunch h

theorem keeps_lineError (h : s.keeps c x) : s.lineError.keeps c x := keeps_setPunch h

theorem keeps_noAnswer (h : s.keeps c x) : s.noAnswer.keeps c x := by
  unfold State.noAnswer
  split
  · exact keeps_lineError h
  · exact keeps_countMiss _ (keeps_endPoll (keeps_lineError h))

theorem keeps_restartGateLine (h : s.keeps c x) : s.restartGateLine.keeps c x := keeps_setPunch h

theorem keeps_stopGateLine (h : s.keeps c x) : s.stopGateLine.keeps c x := keeps_setPunch h

/-! ### Watches and evacuation (R91, R158–R165) -/

theorem keeps_egressLane (l : LaneId) (h : s.keeps c x) : (s.egressLane l).keeps c x :=
  keeps_ite (keeps_voidGrant _ _ (keeps_setLane h)) h

theorem keeps_startEvacuation (w : WatchId) (levels : InputSet) (h : s.keeps c x) :
    (s.startEvacuation w levels).keeps c x :=
  keeps_systemEvent _ _ (keeps_foldl (fun _ l => keeps_cancelWait true l) _
    (keeps_beginEvacRings (keeps_foldl (fun _ l => keeps_egressLane l) _ (keeps_setInputs _ h))))

theorem keeps_endEvacuation (h : s.keeps c x) : s.endEvacuation.keeps c x :=
  keeps_advanceEpoch (keeps_foldl (fun _ l => keeps_restoreMode l) _ (keeps_setInputs _ h))

theorem keeps_performAction (w : WatchId) (levels : InputSet) (v : WatchAction) (h : s.keeps c x) :
    (s.performAction w levels v).keeps c x := by
  cases v with
  | alarm => exact h
  | evacuate => exact keeps_startEvacuation _ _ h
  | lanes set mode => exact keeps_askModes _ _ h
  | bell index => exact keeps_ite (keeps_requestRings _ _ _ h) h

theorem keeps_fireWatch (w : WatchId) (h : s.keeps c x) : (s.fireWatch w).keeps c x :=
  keeps_ite (keeps_setInputs _ h) (keeps_performAction _ _ _ (keeps_systemEvent _ _ (keeps_setInputs _ h)))

/-! ### Doors (R74–R79) -/

theorem keeps_unexpectedOpening (l : LaneId) (h : s.keeps c x) : (s.unexpectedOpening l).keeps c x :=
  keeps_ite h (keeps_ite h (keeps_laneAlarm _ _ h))

/-- A grant's passage is seen, its phase as it was (R75, R77, R82). -/
theorem keeps_setGrant {g k : Grant} (h : s.keeps c x) (hg : (s.lane l).grant = some g) (hphase : k.phase = g.phase)
    (hkind : k.kind = g.kind) (hslot : k.slot = g.slot) : (s.setLane l { s.lane l with grant := some k }).keeps c x := by
  refine keeps_regrant (k := k) h hg rfl (fun _ => setLane_course_other _) (fun hlanes => ?_) hkind hslot
  obtain ⟨p, q, -, hcourse⟩ := keeps_granted_course h hlanes hg
  have hactivity : (s.lane l).activity = k.phase.activity := hphase ▸ congrArg LaneCourse.activity hcourse
  rw [setLane_course_same, ← hactivity]
  rfl

theorem keeps_doorPassage {g : Grant} (h : s.keeps c x) (hg : (s.lane l).grant = some g) : (s.doorPassage l g).keeps c x :=
  keeps_passageNotice _ (keeps_setGrant h hg rfl rfl rfl)

theorem keeps_takeOpening (l : LaneId) (h : s.keeps c x) : (s.takeOpening l).keeps c x := by
  unfold State.takeOpening
  split
  · exact keeps_unexpectedOpening _ h
  · next hg => exact keeps_ite (keeps_doorPassage h hg) (keeps_ite (keeps_laneAlarm _ _ h) (keeps_unexpectedOpening _ h))

theorem keeps_doorOpens (l : LaneId) (h : s.keeps c x) : (s.doorOpens l).keeps c x :=
  keeps_takeOpening _ (keeps_setLane h)

theorem keeps_finishUntilOpen (l : LaneId) (h : s.keeps c x) : (s.finishUntilOpen l).keeps c x := by
  unfold State.finishUntilOpen
  split
  · exact h
  · next hg => exact keeps_ite (keeps_endGrant _ h hg) h

theorem keeps_doorCloses (l : LaneId) (h : s.keeps c x) : (s.doorCloses l).keeps c x :=
  keeps_look _ (keeps_finishUntilOpen _ (keeps_endHeld _ (keeps_recordClosing _ _ h)))

theorem keeps_releaseRunsOut {g : Grant} (h : s.keeps c x) (hg : (s.lane l).grant = some g) :
    (s.releaseRunsOut l g).keeps c x :=
  keeps_look _ (keeps_zeroEncoder _ (keeps_endGrant _ h hg))

theorem keeps_heldRunsOut (l : LaneId) (h : s.keeps c x) : (s.heldRunsOut l).keeps c x :=
  keeps_ite (keeps_laneAlarm _ _ (keeps_setLane h)) (keeps_setLane h)

theorem reach_lane (s : State) (e : Elapsed) (l : LaneId) : (s.reach e).lane l = s.lane l :=
  congrArg (fun v : Vector Lane 8 => v[l]) ((reach_touches s e).same (b := .lanes) (by decide))

/-! ### Grants without a punch (R72, R80, R89) -/

/-- An idle lane takes a grant that hands no punch on. -/
theorem keeps_takeUnhanded {g : Grant} (h : s.keeps c x) (hidle : c.lanes → (s.lane l).activity = .idle)
    (hg : ¬ g.handsPunch) : (s.takeGrant l g).keeps c x := by
  by_cases hl : c.lanes
  · exact keeps_takeGrant h hidle (.unhanded (keeps_resting h hl (hidle hl)) hg)
  · have hroster : (s.takeGrant l g).roster = s.roster :=
      (frame_takeGrant (L := [.lanes, .punch]) l g (.refl _ _) (by decide) (by decide)).same (b := .roster) (by decide)
    exact ⟨hroster.symm ▸ h.runs, fun hlanes => absurd hlanes hl, fun hm => absurd (c.lanes_of_marks hm) hl⟩

theorem keeps_exitRequested (l : LaneId) (h : s.keeps c x) : (s.exitRequested l).keeps c x := by
  have hset : (s.setLane l { s.lane l with
      exitAllowance := some (s.inSeconds (s.lane l).setup.releaseTime) }).keeps c x := keeps_setLane h
  unfold State.exitRequested
  dsimp only
  split
  · next hlane =>
    refine keeps_takeUnhanded hset (fun _ => ?_) (by simp [newGrant, Grant.handsPunch])
    rw [State.setLane_same]
    exact hlane.2
  · exact hset

theorem keeps_releaseRemote (order : Instr) (d : Dir) (h : s.keeps c x) (hidle : (s.lane l).activity = .idle) :
    (s.releaseRemote order l d).keeps c x :=
  keeps_answer _ _ _ (keeps_settle (keeps_takeUnhanded h (fun _ => hidle) (by simp [newGrant, Grant.handsPunch])))

/-! ### Turnstiles (R81–R83) -/

theorem keeps_stepGranted {g : Grant} (dir : Dir) (h : s.keeps c x) (hg : (s.lane l).grant = some g) :
    (s.stepGranted l g dir).keeps c x := by
  have hseen : (s.setLane l { s.lane l with grant := some { g with passageSeen := true } }).keeps c x :=
    keeps_setGrant h hg rfl rfl rfl
  have hpassed := lane_of_roster (frame_passageNotice (L := [.roster, .records, .spool, .link])
    (s₁ := s.setLane l { s.lane l with grant := some { g with passageSeen := true } }) l (.refl _ _)
    (by decide) (by decide) (by decide) (by decide)) l
  have halarm := lane_of_roster (frame_laneAlarm (L := [.roster, .records, .spool, .link]) (s₁ := s) l .reverse (.refl _ _)
    (by decide) (by decide)) l
  refine keeps_look _ (keeps_zeroEncoder _ (keeps_ite
    (keeps_endGrant (g := { g with passageSeen := true }) _ (keeps_passageNotice _ hseen) ?_)
    (keeps_endGrant (g := g) _ (keeps_laneAlarm _ _ h) ?_)))
  · rw [hpassed, State.setLane_same]
  · rw [halarm, hg]

theorem keeps_stepUngranted (l : LaneId) (dir : Dir) (h : s.keeps c x) : (s.stepUngranted l dir).keeps c x := by
  have hzero := keeps_zeroEncoder l h
  exact keeps_ite hzero (keeps_ite hzero (keeps_laneAlarm _ _ hzero))

theorem keeps_stepReached (l : LaneId) (dir : Dir) (h : s.keeps c x) : (s.stepReached l dir).keeps c x := by
  unfold State.stepReached
  split
  · next hg => exact keeps_ite (keeps_stepGranted _ h hg) (keeps_stepUngranted _ _ h)
  · exact keeps_stepUngranted _ _ h

theorem keeps_countStep (l : LaneId) (d : Int) (h : s.keeps c x) : (s.countStep l d).keeps c x := by
  have hcount : (s.setLane l { s.lane l with encoder := (s.lane l).encoder + d }).keeps c x := keeps_setLane h
  exact keeps_ite (keeps_stepReached _ _ hcount) (keeps_ite (keeps_stepReached _ _ hcount) hcount)

theorem keeps_encoderMoves (l : LaneId) (a b : Bool) (h : s.keeps c x) : (s.encoderMoves l a b).keeps c x := by
  have hpair : (s.setLane l { s.lane l with decoderA := a, decoderB := b }).keeps c x := keeps_setLane h
  unfold State.encoderMoves
  dsimp only
  split
  · exact hpair
  · exact keeps_countStep _ _ hpair
  · exact keeps_countStep _ _ hpair
  · exact keeps_laneAlarm _ _ hpair

/-! ### Sampling (R154, R155) -/

theorem keeps_tellWatch (changed : InputSet) (w : WatchId) (h : s.keeps c x) : (State.tellWatch changed s w).keeps c x :=
  keeps_of_calm (L := [.inputs]) h (frame_tellWatch changed w (.refl _ _) (by decide)) (by decide)

theorem keeps_sampleGeneral (levels : InputSet) (h : s.keeps c x) : (s.sampleGeneral levels).keeps c x := by
  unfold State.sampleGeneral
  exact keeps_ite (keeps_foldl (fun _ w => keeps_tellWatch _ w) _ (keeps_setInputs _ (keeps_reach _ h)))
    (keeps_setInputs _ (keeps_reach _ h))

theorem keeps_takeDoorStatus (l : LaneId) (isOpen : Bool) (h : s.keeps c x) : (s.takeDoorStatus l isOpen).keeps c x :=
  keeps_ite h (keeps_ite (keeps_setLane h) (keeps_ite (keeps_look _ (keeps_recordClosing _ _ h)) h))

theorem keeps_deliverDoor (l : LaneId) (isOpen : Bool) (v : LineEvent) (h : s.keeps c x) :
    (s.deliverDoor l isOpen v).keeps c x := by
  cases v with
  | quiet => exact h
  | change => exact keeps_deliver _ h
  | status => exact keeps_takeDoorStatus _ _ h

theorem keeps_deliverExit (l : LaneId) (active : Bool) (v : LineEvent) (h : s.keeps c x) :
    (s.deliverExit l active v).keeps c x :=
  keeps_of_calm (L := [.inputs]) h (frame_deliverExit l active v (.refl _ _) (by decide)) (by decide)

theorem keeps_sampleContact (count : Nat) (doors exits : LaneSet) (l : LaneId) (h : s.keeps c x) :
    (State.sampleContact count doors exits s l).keeps c x :=
  keeps_deliverExit _ _ _ (keeps_deliverDoor _ _ _ (keeps_setInputs _ h))

theorem keeps_sampleContacts (doors exits : LaneSet) (h : s.keeps c x) : (s.sampleContacts doors exits).keeps c x :=
  keeps_settle (keeps_foldl (fun _ l => keeps_sampleContact _ _ _ l) _ (keeps_setInputs _ (keeps_reach _ h)))

theorem keeps_takeEncoderStatus (l : LaneId) (a b : Bool) (onA onB : LineEvent) (h : s.keeps c x) :
    (s.takeEncoderStatus l a b onA onB).keeps c x :=
  keeps_ite h (keeps_setInputs _ (keeps_setLane h))

theorem keeps_sampleEncoder (count : Nat) (as bs : LaneSet) (l : LaneId) (h : s.keeps c x) :
    (State.sampleEncoder count as bs s l).keeps c x := by
  have htaken := keeps_takeEncoderStatus l (inSet as l.val) (inSet bs l.val)
    ((s.inputs.encodersA[l]).sample count (inSet as l.val)).2 ((s.inputs.encodersB[l]).sample count (inSet bs l.val)).2
    (keeps_setInputs { s.inputs with
      encodersA := putAt s.inputs.encodersA l ((s.inputs.encodersA[l]).sample count (inSet as l.val)).1
      encodersB := putAt s.inputs.encodersB l ((s.inputs.encodersB[l]).sample count (inSet bs l.val)).1 } h)
  exact keeps_ite (keeps_deliver _ htaken) htaken

theorem keeps_sampleEncoders (as bs : LaneSet) (h : s.keeps c x) : (s.sampleEncoders as bs).keeps c x :=
  keeps_foldl (fun _ l => keeps_sampleEncoder _ _ _ l) _ (keeps_setInputs _ (keeps_reach _ h))

/-! ### The setup record and the warm restart (R191, R193) -/

theorem keeps_writeGeneral (g : GeneralSetup) (h : s.keeps c x) : (s.writeGeneral g).keeps c x :=
  keeps_of_calm (L := [.setup, .inputs, .link]) h (frame_writeGeneral g (.refl _ _) (by decide) (by decide) (by decide))
    (by decide)

theorem keeps_followKind (b : BellId) (h : s.keeps c x) : (s.followKind b).keeps c x :=
  keeps_of_calm (L := [.bells]) h (frame_followKind b (.refl _ _) (by decide)) (by decide)

theorem keeps_writeBells (v : BellSetup) (h : s.keeps c x) : (s.writeBells v).keeps c x :=
  keeps_settle (keeps_foldl (fun _ b => keeps_followKind b) _ (keeps_setSetup _ h))

theorem LaneCourse.Sound.withPending {y : LaneCourse} (h : y.Sound l) (v : LaneSetup) (hbusy : y.activity ≠ .idle) :
    ({ y with pendingSetup := some v } : LaneCourse).Sound l := by
  cases h with
  | rest => exact absurd rfl hbusy
  | referral w _ hw => exact .referral w _ hw
  | granted g _ q hq => exact .granted g _ q hq

/-- A lane in use keeps a setup written as its pending one (R65). -/
theorem keeps_setPendingSetup (v : LaneSetup) (h : s.keeps c x) (hbusy : (s.lane l).activity ≠ .idle) :
    (s.setLane l { s.lane l with pendingSetup := some v }).keeps c x := by
  have hcourse : (s.setLane l { s.lane l with pendingSetup := some v }).course l =
      { s.course l with pendingSetup := some v } := setLane_course_same _
  refine keeps_at (l := l) h (.refl _ _) (fun _ => setLane_course_other _) (fun _ _ hx => hx) (fun hlanes => .inl ?_)
    fun hm a m hmark => ?_
  · rw [hcourse]
    exact (keeps_sound h hlanes hbusy).withPending v hbusy
  · by_cases hlm : l = m
    · subst hlm
      rw [hcourse]
      exact .inl ⟨rfl, (markLaw_iff s).1 (h.marks hm) a l hmark⟩
    · exact .inr ⟨hlm, hmark⟩

theorem keeps_writeLane (l : LaneId) (v : LaneSetup) (h : s.keeps c x) : (s.writeLane l v).1.keeps c x := by
  unfold State.writeLane
  split
  · exact keeps_settle (keeps_applySetup _ _ h)
  · next hbusy => exact keeps_setPendingSetup v h hbusy

theorem keeps_writeWatch (w : WatchId) (v : WatchSettings) (h : s.keeps c x) : (s.writeWatch w v).keeps c x := by
  have hwritten := fun e => keeps_setEqual w e (keeps_setEqual w false
    (keeps_setSetup { s.setup with watches := putAt s.setup.watches w v } h))
  exact keeps_ite (keeps_settle (keeps_fireWatch _ (hwritten _))) (hwritten _)

theorem keeps_restartLane (l : LaneId) (h : s.keeps c x) : (s.restartLane l).keeps c x := keeps_setLane h

theorem keeps_resumeEvacRing (h : s.keeps c x) : s.resumeEvacRing.keeps c x :=
  keeps_of_calm (L := [.bells]) h (frame_resumeEvacRing (.refl _ _) (by decide)) (by decide)

theorem keeps_endAllRings (h : s.keeps c x) : s.endAllRings.keeps c x :=
  keeps_of_calm (L := [.bells]) h (frame_endAllRings (.refl _ _) (by decide)) (by decide)

/-- Every lane's grant and wait ended, as a warm restart and a hold end them (R57, R62). -/
theorem keeps_lanesEnded (cause : VoidCause) (h : s.keeps c x) :
    (allLanes.foldl (State.cancelWait false) (allLanes.foldl (State.voidGrant cause) s)).keeps c x :=
  keeps_foldl (fun _ l => keeps_cancelWait false l) _ (keeps_foldl (fun _ l => keeps_voidGrant cause l) _ h)

theorem keeps_warmRestart (h : s.keeps c x) : s.warmRestart.keeps c x := by
  unfold State.warmRestart
  exact keeps_settle (keeps_resumeEvacRing (keeps_endAllRings (keeps_foldl (fun _ l => keeps_restartLane l) _
    (keeps_restartGateLine (keeps_lanesEnded _ (keeps_setLink _ (keeps_setSupply _ h)))))))

/-! ### Supply (R194–R196) -/

theorem keeps_beginHold (h : s.keeps c x) : s.beginHold.keeps c x :=
  keeps_systemEvent _ _ (keeps_setTime _ (keeps_setLink _ (keeps_setSupply _ h)))

theorem keeps_holdLane (l : LaneId) (h : s.keeps c x) : (s.holdLane l).keeps c x := keeps_setLane h

theorem keeps_stopRings (h : s.keeps c x) : s.stopRings.keeps c x := keeps_setBells _ (keeps_endAllRings h)

theorem keeps_heldNotices (h : s.keeps c x) : s.heldNotices.keeps c x :=
  keeps_of_calm (L := [.notices]) h (frame_heldNotices (.refl _ _) (by decide)) (by decide)

theorem keeps_enterHold (h : s.keeps c x) : s.enterHold.keeps c x := by
  unfold State.enterHold
  exact keeps_settle (keeps_setInputs _ (keeps_heldNotices (keeps_stopRings (keeps_stopGateLine
    (keeps_foldl (fun _ l => keeps_holdLane l) _ (keeps_lanesEnded _ (keeps_beginHold h)))))))

theorem keeps_resumeTime (h : s.keeps c x) : s.resumeTime.keeps c x :=
  keeps_of_calm (L := [.time, .notices, .spool, .link]) h
    (frame_resumeTime (.refl _ _) (by decide) (by decide) (by decide) (by decide)) (by decide)

theorem keeps_endCutShort (h : s.keeps c x) : s.endCutShort.keeps c x :=
  keeps_ite (keeps_systemEvent _ _ (keeps_endEvacuation h)) h

theorem keeps_leaveHold (h : s.keeps c x) : s.leaveHold.keeps c x := by
  unfold State.leaveHold
  exact keeps_settle (keeps_restartGateLine (keeps_foldl (fun _ l => keeps_zeroEncoder l) _
    (keeps_setInputs _ (keeps_endCutShort (keeps_resumeTime (keeps_systemEvent _ _ (keeps_setSupply _ h)))))))

end
end Sys2Proof.Machine
end

section
/-! ## Every command keeps the laws of the roster, of the lanes and of the marks -/
namespace Sys2Proof.Machine

/-- Whatever state a command answers keeps the claim. -/
def keepsNext (c : Claim) (o : Host.Outcome State Fault Refusal) : Prop := ∀ t, o = .next t → t.keeps c none

section
variable {c : Claim} {s t : State}

theorem keepsNext_next (h : t.keeps c none) : keepsNext c (.next t) := by
  rintro u ⟨⟩
  exact h

theorem keepsNext_whileRunning {act : State → State} (h : s.keeps c none) (hact : (act s).keeps c none) :
    keepsNext c (whileRunning s act) := by
  unfold whileRunning
  split
  · exact keepsNext_next hact
  · exact keepsNext_next h

/-! ### The clock (R1–R15) -/

theorem keeps_giveNotice (v : Notice) (h : s.keeps c none) : (s.giveNotice v).keeps c none :=
  keeps_of_calm (L := [.notices]) h (frame_giveNotice v (.refl _ _) (by decide)) (by decide)

theorem keeps_giveStep (old : Option Stamp) (new : Stamp) (h : s.keeps c none) : (s.giveStep old new).keeps c none := by
  cases old with
  | none => exact h
  | some o => exact keeps_ite h (keeps_giveNotice _ h)

theorem keeps_endSecond (h : s.keeps c none) : s.endSecond.keeps c none :=
  keeps_of_calm (L := timerBlocks) h (frame_endSecond (.refl _ _) (by decide) (by decide) (by decide) (by decide)) (by decide)

theorem keeps_switchAtNotice (stamp : Option Stamp) (timed : Bool) (h : s.keeps c none) :
    (s.switchAtNotice stamp timed).keeps c none :=
  keeps_of_calm (L := [.banks, .notices, .spool, .link]) h
    (frame_switchAtNotice stamp timed (.refl _ _) (by decide) (by decide) (by decide) (by decide)) (by decide)

theorem keepsNext_clockSet (day second offset : Nat) (h : s.keeps c none) :
    keepsNext c (execClockSet day second offset s) := by
  refine keepsNext_whileRunning h ?_
  dsimp only
  split
  · exact keeps_refuse _ _ h
  · exact keeps_answer _ _ _ (keeps_giveStep _ _ (keeps_systemEvent _ _ (keeps_setTime _ h)))

theorem keepsNext_clockSlew (seconds : Int) (h : s.keeps c none) : keepsNext c (execClockSlew seconds s) := by
  refine keepsNext_whileRunning h ?_
  dsimp only
  split
  · exact keeps_refuse _ _ h
  · exact keeps_ite (keeps_refuse _ _ h) (keeps_answer _ _ _ (keeps_setTime _ h))

theorem keepsNext_clockTrim (trim : Int) (h : s.keeps c none) : keepsNext c (execClockTrim trim s) := by
  refine keepsNext_whileRunning h ?_
  dsimp only
  split
  · exact keeps_refuse _ _ h
  · exact keeps_ite (keeps_refuse _ _ h) (keeps_answer _ _ _ (keeps_setTime _ h))

theorem keepsNext_clockRead (h : s.keeps c none) : keepsNext c (execClockRead s) :=
  keepsNext_whileRunning h (keeps_answer _ _ _ h)

theorem keepsNext_secondEnd (h : s.keeps c none) : keepsNext c (execSecondEnd s) :=
  keepsNext_next (keeps_ite h (keeps_endSecond (keeps_passPeriods _ h)))

theorem keepsNext_secondBoundary (r : Receiver) (h : s.keeps c none) : keepsNext c (execSecondBoundary r s) := by
  refine keepsNext_whileRunning h ?_
  split
  · exact keeps_takeBoundary _ _ h
  · exact h

theorem keepsNext_deadlineExpiry (h : s.keeps c none) : keepsNext c (execDeadlineExpiry s) := by
  refine keepsNext_whileRunning h ?_
  split
  · exact keeps_ite (keeps_closeDue _ (keeps_dropNotice _ h)) h
  · exact h

theorem keepsNext_pendingSwitchDue (h : s.keeps c none) : keepsNext c (execPendingSwitchDue s) := by
  refine keepsNext_whileRunning h ?_
  split
  · exact keeps_ite (keeps_switchAtNotice _ _ (keeps_dropNotice _ h)) h
  · exact h

theorem keepsNext_stepNotice (r : Receiver) (h : s.keeps c none) : keepsNext c (execStepNotice r s) := by
  refine keepsNext_whileRunning h ?_
  split
  · exact keeps_ite (keeps_takeSpan _ _ _ h) (keeps_dropNotice _ h)
  · exact h

theorem keepsNext_resumptionNotice (r : Receiver) (h : s.keeps c none) : keepsNext c (execResumptionNotice r s) := by
  refine keepsNext_whileRunning h ?_
  split
  · exact keeps_takeSpan _ _ _ h
  · exact h

/-! ### The roster (R21–R29) -/

theorem keeps_answerEnrol (order : Instr) (v : EnrolAnswer) (h : s.keeps c none) : (s.answerEnrol order v).keeps c none := by
  cases v with
  | done a => exact keeps_answer _ _ _ h
  | duplicate a => exact keeps_refuse _ _ h
  | full => exact keeps_refuse _ _ h

theorem keepsNext_rosterEnrol (badge payClass pattern : Nat) (lanes : LaneSet) (h : s.keeps c none) :
    keepsNext c (execRosterEnrol badge payClass pattern lanes s) := by
  refine keepsNext_whileRunning h ?_
  split
  · next hfields =>
    obtain ⟨hbadge, -⟩ := Bool.and_eq_true_iff.1 hfields
    exact keeps_answerEnrol _ _ (keeps_enrol hbadge _ h)
  · exact keeps_refuse _ _ h

/-- An ACTIVE slot's fields written, its badge, mark and words' condition kept (R22, R28). -/
theorem keeps_rewriteActive {a : Nat} {v : Slot} (h : s.keeps c none) (ha : s.statusOf a = .active)
    (hv : (s.slot a).Rewritten v) : (s.setSlot a v).keeps c none :=
  keeps_of_roster h (frame_setSlot a v (.refl _ _) (by decide)) fun hruns => runs_rewrite_active hruns ha hv

theorem keepsNext_rosterAmend (badge : Nat) (payClass pattern : Option Nat) (lanes : Option LaneSet) (reset : Bool)
    (h : s.keeps c none) : keepsNext c (execRosterAmend badge payClass pattern lanes reset s) := by
  have hread := keeps_lookup badge h
  refine keepsNext_whileRunning h (keeps_ite ?_ (keeps_refuse _ _ h))
  dsimp only
  split
  · exact keeps_refuse _ _ hread
  · next ha => exact keeps_answer _ _ _ (keeps_rewriteActive hread (lookup_holds ha).1 ⟨rfl, rfl, rfl, .inl rfl⟩)

theorem keeps_withdraw (order : Instr) {a : Nat} (force : Bool) (h : s.keeps c none) (ha : s.statusOf a = .active) :
    (s.withdraw order a force).keeps c none :=
  keeps_of_roster h (frame_withdraw order a force (.refl _ _) (by decide) (by decide) (by decide) (by decide))
    fun hruns => runs_withdraw order force hruns ha

theorem keepsNext_rosterWithdraw (badge : Nat) (force : Bool) (h : s.keeps c none) :
    keepsNext c (execRosterWithdraw badge force s) := by
  have hread := keeps_lookup badge h
  refine keepsNext_whileRunning h (keeps_ite ?_ (keeps_refuse _ _ h))
  dsimp only
  split
  · exact keeps_refuse _ _ hread
  · next ha => exact keeps_withdraw _ _ hread (lookup_holds ha).1

theorem keeps_reportSlots (l : List Nat) (h : s.keeps c none) : (s.reportSlots l).1.keeps c none :=
  keeps_of_roster h (frame_reportSlots l (.refl _ _) (by decide) (by decide) (by decide) (by decide)) (runs_reportSlots l)

theorem keepsNext_rosterRead (x : RosterKey) (h : s.keeps c none) : keepsNext c (execRosterRead x s) := by
  refine keepsNext_whileRunning h ?_
  cases x with
  | byBadge badge =>
    have hread := keeps_lookup badge h
    refine keeps_ite ?_ (keeps_refuse _ _ h)
    dsimp only
    split
    · exact keeps_refuse _ _ hread
    · exact keeps_answer _ _ _ hread
  | byAddress first count => exact keeps_ite (keeps_answer _ _ _ (keeps_reportSlots _ h)) (keeps_refuse _ _ h)

theorem keepsNext_rosterPurge (a : Nat) (h : s.keeps c none) : keepsNext c (execRosterPurge a s) := by
  refine keepsNext_whileRunning h (keeps_ite ?_ (keeps_refuse _ _ h))
  split
  · next hdamaged =>
    exact keeps_answer _ _ _ (keeps_of_roster h (frame_purge a (.refl _ _) (by decide))
      fun hruns => runs_purge hruns hdamaged)
  · exact keeps_refuse _ _ h

/-- PRESENCE SET writes a slot's presence alone (R28). -/
theorem presenceSlot_rewritten (epoch : Nat) (v : PresenceRead) (y : Slot) : y.Rewritten (presenceSlot epoch v y) := by
  cases v <;> exact ⟨rfl, rfl, rfl, .inl rfl⟩

theorem keepsNext_presenceSet (badge : Nat) (value : Choice PresenceRead) (h : s.keeps c none) :
    keepsNext c (execPresenceSet badge value s) := by
  have hread := keeps_lookup badge h
  refine keepsNext_whileRunning h ?_
  cases value with
  | unlisted => exact keeps_refuse _ _ h
  | listed v =>
    refine keeps_ite ?_ (keeps_refuse _ _ h)
    dsimp only
    split
    · exact keeps_refuse _ _ hread
    · next ha => exact keeps_answer _ _ _ (keeps_rewriteActive hread (lookup_holds ha).1 (presenceSlot_rewritten _ _ _))

theorem keepsNext_presenceClear (h : s.keeps c none) : keepsNext c (execPresenceClear s) :=
  keepsNext_whileRunning h (keeps_answer _ _ _ (keeps_advanceEpoch h))

/-! ### The gate line and referrals (R37–R61) -/

theorem keepsNext_poll (h : s.keeps c none) : keepsNext c (execPoll s) := by
  refine keepsNext_whileRunning h ?_
  dsimp only
  split
  · exact keeps_setPunch (keeps_sendVerdict h)
  · exact h

theorem keepsNext_pollTimeout (h : s.keeps c none) : keepsNext c (execPollTimeout s) := by
  refine keepsNext_whileRunning h ?_
  split
  · exact h
  · exact keeps_countMiss _ (keeps_endPoll (keeps_reach _ h))

theorem keepsNext_idle (i : Head) (h : s.keeps c none) : keepsNext c (execIdle i s) :=
  keepsNext_whileRunning h (keeps_ite (keeps_countAnswer _ (keeps_endPoll h)) (keeps_noAnswer h))

theorem keepsNext_garbledAnswer (h : s.keeps c none) : keepsNext c (execGarbledAnswer s) :=
  keepsNext_whileRunning h (keeps_noAnswer h)

theorem keepsNext_strayCharacters (h : s.keeps c none) : keepsNext c (execStrayCharacters s) :=
  keepsNext_whileRunning h (keeps_lineError h)

theorem keepsNext_punch (i : Head) (badge : BitVec 32) (intent : Intent) (h : s.keeps c none) :
    keepsNext c (execPunch i badge intent s) :=
  keepsNext_whileRunning h (keeps_ite (keeps_settle (keeps_judge _ (keeps_countAnswer _ (keeps_endPoll h))))
    (keeps_noAnswer h))

theorem reach_punch (s : State) (e : Elapsed) : (s.reach e).punch = s.punch :=
  (reach_touches s e).same (b := .punch) (by decide)

theorem keepsNext_referralTimeout (l : LaneId) (h : s.keeps c none) : keepsNext c (execReferralTimeout l s) := by
  refine keepsNext_whileRunning h ?_
  split
  · exact h
  · next w hw =>
    have hreached : (s.reach w.expiry).punch.waits[l] = some w := by rw [reach_punch, hw]
    have h' := keeps_reach w.expiry h
    exact keeps_settle (keeps_settleIdle (keeps_applyMiss w.punch (keeps_leaveWait h' hreached)
      (keeps_leaveWait_idle h' hreached)))

/-- A ruling decides the wait its lane holds, which is for its badge (R59). -/
theorem waitFor_eq_some {lane badge : Nat} {l : LaneId} {w : ReferralWait} (h : s.waitFor lane badge = some (l, w)) :
    s.punch.waits[l] = some w ∧ w.badge = badge := by
  unfold State.waitFor at h
  split at h
  · split at h
    · next v hv =>
      split at h
      · next hwait =>
        cases h
        exact ⟨hv, hwait.1⟩
      · cases h
    · cases h
  · cases h

theorem keepsNext_ruling (lane badge : Nat) (decision : Choice Decision) (fields : Option EnrolFields)
    (h : s.keeps c none) : keepsNext c (execRuling lane badge decision fields s) := by
  refine keepsNext_whileRunning h ?_
  cases decision with
  | unlisted => exact keeps_refuse _ _ h
  | listed d =>
    dsimp only
    split
    · exact keeps_refuse _ _ h
    · next hrange =>
      refine keeps_ite (keeps_refuse _ _ h) ?_
      split
      · exact keeps_refuse _ _ h
      · next l w hwait =>
        obtain ⟨hw, hbadge⟩ := waitFor_eq_some hwait
        have hvalid : validBadge w.badge = true := by
          rw [hbadge]
          exact Bool.not_eq_false _ ▸ fun hbad => hrange (.inr (.inl hbad))
        exact keeps_carryRuling _ _ _ hvalid h hw

/-! ### Lanes (R69–R90) -/

theorem keepsNext_doorOpening (l : LaneId) (h : s.keeps c none) : keepsNext c (execDoorOpening l s) :=
  have htaken := keeps_takeChange (.door l true) h
  keepsNext_whileRunning h (keeps_ite (keeps_settle (keeps_doorOpens _ htaken)) htaken)

theorem keepsNext_doorClosing (l : LaneId) (h : s.keeps c none) : keepsNext c (execDoorClosing l s) :=
  have htaken := keeps_takeChange (.door l false) h
  keepsNext_whileRunning h (keeps_ite (keeps_settle (keeps_doorCloses _ htaken)) htaken)

theorem keepsNext_releaseExpiry (l : LaneId) (h : s.keeps c none) : keepsNext c (execReleaseExpiry l s) := by
  refine keepsNext_whileRunning h ?_
  split
  · exact h
  · next g hg =>
    split
    · next e _ _ =>
      have hgrant := (congrArg Lane.grant (reach_lane s e l)).trans hg
      exact keeps_settle (keeps_releaseRunsOut (keeps_reach e h) hgrant)
    · exact h

theorem keepsNext_heldOpenExpiry (l : LaneId) (h : s.keeps c none) : keepsNext c (execHeldOpenExpiry l s) := by
  refine keepsNext_whileRunning h ?_
  split
  · exact h
  · exact keeps_heldRunsOut _ (keeps_reach _ h)

theorem keepsNext_requestToExit (l : LaneId) (h : s.keeps c none) : keepsNext c (execRequestToExit l s) :=
  have htaken := keeps_takeChange (.exitRequest l) h
  keepsNext_whileRunning h (keeps_ite htaken (keeps_settle (keeps_exitRequested _ htaken)))

theorem keepsNext_exitAllowanceExpiry (l : LaneId) (h : s.keeps c none) : keepsNext c (execExitAllowanceExpiry l s) := by
  refine keepsNext_whileRunning h ?_
  dsimp only
  split
  · exact h
  · exact keeps_setLane (keeps_reach _ h)

theorem keepsNext_encoderChange (l : LaneId) (a b : Bool) (h : s.keeps c none) :
    keepsNext c (execEncoderChange l a b s) :=
  have htaken := keeps_takeChange (.encoder l a b) h
  keepsNext_whileRunning h (keeps_ite (keeps_settle (keeps_encoderMoves _ _ _ htaken)) htaken)

theorem keepsNext_interlockWaitExpiry (l : LaneId) (h : s.keeps c none) : keepsNext c (execInterlockWaitExpiry l s) := by
  refine keepsNext_whileRunning h ?_
  split
  · exact h
  · next g hg =>
    have hgrant := (congrArg Lane.grant (reach_lane s g.waitExpiry l)).trans (waitingGrant_eq_some.1 hg).1
    exact keeps_settle (keeps_look _ (keeps_endGrant _ (keeps_reach _ h) hgrant))

theorem keepsNext_deadTimeEnd (l : LaneId) (h : s.keeps c none) : keepsNext c (execDeadTimeEnd l s) := by
  refine keepsNext_whileRunning h ?_
  dsimp only
  split
  · exact h
  · exact keeps_settle (keeps_look _ (keeps_setLane (keeps_reach _ h)))

theorem keepsNext_laneMode (lanes : LaneSet) (mode : Choice LaneMode) (h : s.keeps c none) :
    keepsNext c (execLaneMode lanes mode s) := by
  refine keepsNext_whileRunning h ?_
  dsimp only
  split
  · exact keeps_refuse _ _ h
  · exact keeps_ite (keeps_refuse _ _ h) (keeps_answer _ _ _ (keeps_settle (keeps_askModes _ _ h)))

theorem keepsNext_laneRelease (lane : Nat) (dir : Choice Dir) (h : s.keeps c none) :
    keepsNext c (execLaneRelease lane dir s) := by
  refine keepsNext_whileRunning h ?_
  cases dir with
  | unlisted => exact keeps_refuse _ _ h
  | listed d =>
    dsimp only
    split
    · refine keeps_ite (keeps_refuse _ _ h) ?_
      split
      · exact keeps_refuse _ _ h
      · next hidle => exact keeps_releaseRemote _ _ h (not_not.1 hidle)
    · exact keeps_refuse _ _ h

theorem keepsNext_laneRead (lane : Nat) (h : s.keeps c none) : keepsNext c (execLaneRead lane s) := by
  refine keepsNext_whileRunning h ?_
  split
  · exact keeps_answer _ _ _ h
  · exact keeps_refuse _ _ h

/-! ### Bells, inputs and output holds (R140–R165) -/

theorem keepsNext_bellRing (outputs : BellSet) (tone duration : Nat) (h : s.keeps c none) :
    keepsNext c (execBellRing outputs tone duration s) :=
  keepsNext_whileRunning h (keeps_ite (keeps_refuse _ _ h)
    (keeps_answer _ _ _ (keeps_settle (keeps_requestRings _ _ _ h))))

theorem keeps_stopRing (set : BellSet) (b : BellId) (h : s.keeps c none) : (State.stopRing set s b).keeps c none :=
  keeps_of_calm (L := [.bells]) h (frame_stopRing set b (.refl _ _) (by decide)) (by decide)

theorem keeps_endRing (b : BellId) (h : s.keeps c none) : (s.endRing b).keeps c none :=
  keeps_of_calm (L := [.bells]) h (frame_endRing b (.refl _ _) (by decide)) (by decide)

theorem keeps_startRing (b : BellId) (r : Ring) (h : s.keeps c none) : (s.startRing b r).keeps c none :=
  keeps_of_calm (L := [.bells]) h (frame_startRing b r (.refl _ _) (by decide)) (by decide)

theorem keeps_writeHolds (releases : LaneSet) (bells : BellSet) (v : Option Bool) (h : s.keeps c none) :
    (s.writeHolds releases bells v).keeps c none :=
  keeps_of_calm (L := [.inputs]) h (frame_writeHolds releases bells v (.refl _ _) (by decide)) (by decide)

theorem keeps_endEvacRings (h : s.keeps c none) : s.endEvacRings.keeps c none :=
  keeps_of_calm (L := [.bells]) h (frame_endEvacRings (.refl _ _) (by decide)) (by decide)

theorem keepsNext_bellStop (outputs : BellSet) (h : s.keeps c none) : keepsNext c (execBellStop outputs s) :=
  keepsNext_whileRunning h (keeps_answer _ _ _ (keeps_settle (keeps_foldl (fun _ b => keeps_stopRing _ b) _ h)))

theorem keepsNext_ringEnd (b : BellId) (h : s.keeps c none) : keepsNext c (execRingEnd b s) := by
  refine keepsNext_whileRunning h ?_
  split
  · exact h
  · split
    · exact h
    · exact keeps_settle (keeps_endRing _ (keeps_reach _ h))

theorem keepsNext_cadencePhaseChange (b : BellId) (h : s.keeps c none) : keepsNext c (execCadencePhaseChange b s) := by
  refine keepsNext_whileRunning h ?_
  split
  · exact h
  · split
    · exact h
    · exact keeps_settle (keeps_startRing _ _ (keeps_reach _ h))

theorem keepsNext_debounceSample (x : Sample) (h : s.keeps c none) : keepsNext c (execDebounceSample x s) := by
  refine keepsNext_whileRunning h ?_
  cases x with
  | general levels => exact keeps_sampleGeneral _ h
  | contacts doors exits => exact keeps_sampleContacts _ _ h
  | encoders a b => exact keeps_sampleEncoders _ _ h

theorem keepsNext_watchFire (w : WatchId) (h : s.keeps c none) : keepsNext c (execWatchFire w s) :=
  have htaken := keeps_takeChange (.watch w) h
  keepsNext_whileRunning h (keeps_ite (keeps_settle (keeps_fireWatch _ htaken)) htaken)

theorem keepsNext_outputHold (releases : LaneSet) (bells : BellSet) (hold : HoldRequest) (h : s.keeps c none) :
    keepsNext c (execOutputHold releases bells hold s) :=
  keepsNext_whileRunning h (keeps_ite (keeps_refuse _ _ h)
    (keeps_answer _ _ _ (keeps_settle (keeps_writeHolds _ _ _ h))))

theorem keepsNext_egressEnd (h : s.keeps c none) : keepsNext c (execEgressEnd s) := by
  refine keepsNext_whileRunning h (keeps_ite (keeps_refuse _ _ h) ?_)
  split
  · exact keeps_answer _ _ _ h
  · exact keeps_answer _ _ _ (keeps_systemEvent _ _ (keeps_settle (keeps_endEvacRings (keeps_endEvacuation h))))

/-! ### The rule banks (R169–R175) -/

theorem keepsNext_loadBegin (kind : Choice LoadKind) (h : s.keeps c none) : keepsNext c (execLoadBegin kind s) := by
  refine keepsNext_whileRunning h ?_
  cases kind with
  | unlisted => exact keeps_refuse _ _ h
  | listed x =>
    exact keeps_ite (keeps_refuse _ _ h)
      (keeps_answer _ _ _ (keeps_setBanks _ h))

theorem keepsNext_loadRows (table : Choice TableName) (first : Nat) (rows : List Row) (h : s.keeps c none) :
    keepsNext c (execLoadRows table first rows s) := by
  refine keepsNext_whileRunning h ?_
  cases table with
  | unlisted => exact keeps_refuse _ _ h
  | listed x =>
    exact keeps_ite (keeps_refuse _ _ h) (keeps_ite (keeps_refuse _ _ h) (keeps_ite (keeps_refuse _ _ h)
      (keeps_ite (keeps_answer _ _ _ (keeps_setBanks _ h)) (keeps_refuse _ _ h))))

theorem keepsNext_loadEnd (h : s.keeps c none) : keepsNext c (execLoadEnd s) := by
  refine keepsNext_whileRunning h (keeps_ite (keeps_refuse _ _ h) ?_)
  split
  · exact keeps_answer _ _ _ (keeps_setBanks _ h)
  · exact keeps_answer _ _ _ (keeps_setBanks _ h)

theorem keeps_carryOutSwitch (stamp : Option Stamp) (timed : Bool) (h : s.keeps c none) :
    (s.carryOutSwitch stamp timed).keeps c none :=
  keeps_of_calm (L := [.banks, .spool, .link]) h
    (frame_carryOutSwitch stamp timed (.refl _ _) (by decide) (by decide) (by decide)) (by decide)

theorem keeps_keepOldBank (later : Nat) (h : s.keeps c none) : (s.keepOldBank later).keeps c none :=
  keeps_of_calm (L := [.notices]) h (frame_keepOldBank later (.refl _ _) (by decide)) (by decide)

theorem keepsNext_bankSwitch (time : SwitchTime) (h : s.keeps c none) : keepsNext c (execBankSwitch time s) := by
  refine keepsNext_whileRunning h (keeps_ite (keeps_refuse _ _ h) (keeps_ite (keeps_refuse _ _ h)
    (keeps_ite (keeps_refuse _ _ h) ?_)))
  split
  · exact keeps_answer _ _ _ (keeps_carryOutSwitch _ _ (keeps_keepOldBank _ h))
  · exact keeps_ite (keeps_refuse _ _ h) (keeps_answer _ _ _ (keeps_setBanks _ h))

theorem keepsNext_tableRead (bank : Choice BankSelector) (table : Choice TableName) (first count : Nat)
    (h : s.keeps c none) : keepsNext c (execTableRead bank table first count s) := by
  refine keepsNext_whileRunning h ?_
  dsimp only
  split
  · exact keeps_ite (keeps_answer _ _ _ h) (keeps_answer _ _ _ h)
  · exact keeps_answer _ _ _ h

/-! ### The Spool (R110, R182, R183) -/

theorem keepsNext_spoolTake (start count : Nat) (h : s.keeps c none) : keepsNext c (execSpoolTake start count s) := by
  refine keepsNext_whileRunning h (keeps_ite (keeps_refuse _ _ h) ?_)
  split
  · exact keeps_answer _ _ _ h
  · exact keeps_answer _ _ _ h

theorem keeps_clearThrough (i : Nat) (h : s.keeps c none) : (s.clearThrough i).keeps c none :=
  keeps_of_calm (L := [.spool, .records]) h (frame_clearThrough i (.refl _ _) (by decide) (by decide)) (by decide)

theorem keepsNext_spoolClear (through : Nat) (h : s.keeps c none) : keepsNext c (execSpoolClear through s) := by
  refine keepsNext_whileRunning h (keeps_ite (keeps_refuse _ _ h) ?_)
  split
  · exact keeps_answer _ _ _ h
  · exact keeps_answer _ _ _ (keeps_clearThrough _ h)

theorem keepsNext_moveWaitingTotals (h : s.keeps c none) : keepsNext c (execMoveWaitingTotals s) :=
  keepsNext_whileRunning h (keeps_moveTotals (keeps_setRecords _ h))

/-! ### The plant link, setup and restart (R187–R193) -/

theorem keepsNext_status (h : s.keeps c none) : keepsNext c (execStatus s) :=
  keepsNext_whileRunning h (keeps_answer _ _ _ h)

theorem keepsNext_setupWrite (x : SetupPart) (h : s.keeps c none) : keepsNext c (execSetupWrite x s) := by
  refine keepsNext_whileRunning h ?_
  cases x with
  | general g => exact keeps_answer _ _ _ (keeps_writeGeneral _ h)
  | bells b =>
    dsimp only
    split
    · exact keeps_refuse _ _ h
    · exact keeps_answer _ _ _ (keeps_writeBells _ h)
  | lane index r =>
    refine keeps_ite (keeps_refuse _ _ h) ?_
    split
    · split
      · exact keeps_refuse _ _ h
      · exact keeps_answer _ _ _ (keeps_writeLane _ _ h)
    · exact keeps_refuse _ _ h
  | watch index r =>
    dsimp only
    split
    · exact keeps_refuse _ _ h
    · split
      · exact keeps_answer _ _ _ (keeps_writeWatch _ _ h)
      · exact keeps_refuse _ _ h
  | stations entries =>
    dsimp only
    split
    · exact keeps_refuse _ _ h
    · exact keeps_answer _ _ _ (keeps_setSetup _ h)

theorem keepsNext_setupRead (name : SetupName) (h : s.keeps c none) : keepsNext c (execSetupRead name s) := by
  refine keepsNext_whileRunning h ?_
  cases name with
  | lane index =>
    dsimp only
    split
    · exact keeps_answer _ _ _ h
    · exact keeps_refuse _ _ h
  | watch index =>
    dsimp only
    split
    · exact keeps_answer _ _ _ h
    · exact keeps_refuse _ _ h
  | _ => exact keeps_answer _ _ _ h

theorem keepsNext_restart (h : s.keeps c none) : keepsNext c (execRestart s) :=
  keepsNext_whileRunning h (keeps_setLink _ (keeps_answer .restart .ok .none h))

theorem keepsNext_warmRestart (h : s.keeps c none) : keepsNext c (execWarmRestart s) :=
  keepsNext_whileRunning h (keeps_ite h (keeps_warmRestart h))

theorem keeps_receiveBytes (bytes : List Byte) (h : s.keeps c none) : (s.receiveBytes bytes).keeps c none :=
  keeps_of_calm (L := [.link]) h (frame_receiveBytes bytes (.refl _ _) (by decide)) (by decide)

theorem keeps_frameBad (h : s.keeps c none) : s.frameBad.keeps c none := keeps_setLink _ (keeps_setLink _ h)

theorem keeps_dispatch (f : Frame) (rest : List Frame) (h : s.keeps c none) : (s.dispatch f rest).keeps c none :=
  keeps_of_calm (L := [.link]) h (frame_dispatch f rest (.refl _ _) (by decide)) (by decide)

theorem keepsNext_frameReceipt (bytes : List Byte) (h : s.keeps c none) : keepsNext c (execFrameReceipt bytes s) := by
  refine keepsNext_whileRunning h ?_
  split
  · exact h
  · exact keeps_receiveBytes _ h
  · exact keeps_ite (keeps_receiveBytes _ (keeps_frameBad h)) (keeps_receiveBytes _ h)

theorem keepsNext_receiveTimeout (h : s.keeps c none) : keepsNext c (execReceiveTimeout s) := by
  refine keepsNext_whileRunning h ?_
  split
  · exact h
  · exact keeps_frameBad (keeps_reach _ h)

theorem keepsNext_frameLengthBad (length : Nat) (h : s.keeps c none) : keepsNext c (execFrameLengthBad length s) :=
  keepsNext_whileRunning h (keeps_ite (keeps_frameBad h) h)

theorem keepsNext_frameDispatch (h : s.keeps c none) : keepsNext c (execFrameDispatch s) := by
  refine keepsNext_whileRunning h ?_
  split
  · exact h
  · exact keeps_ite (keeps_dispatch _ _ h) h

theorem keepsNext_frameSent (h : s.keeps c none) : keepsNext c (execFrameSent s) := by
  refine keepsNext_whileRunning h ?_
  dsimp only
  split
  · exact h
  · exact keeps_setLink _ h

theorem keepsNext_silenceTimeout (h : s.keeps c none) : keepsNext c (execSilenceTimeout s) := by
  refine keepsNext_whileRunning h ?_
  dsimp only
  split
  · exact h
  · exact keeps_setLink _ (keeps_reach _ h)

/-! ### Supply (R194–R196) -/

theorem reset_course (l : LaneId) : State.reset.course l = .rest := by
  simp [State.course, State.handedAt, State.lane, State.reset, Lane.initial, PunchUnit.initial, LaneCourse.rest]

/-- At power-on every slot is FREE and every lane at rest (R36, R196). -/
theorem keeps_of_reset (h : s.keeps c none) (hroster : t.roster = State.reset.roster) (hlanes : t.lanes = State.reset.lanes)
    (hpunch : t.punch = State.reset.punch) : t.keeps c none := by
  refine ⟨hroster ▸ h.runs.trans (runs_reset (.refl _ _)), fun _ l => .inl ?_, fun _ a l hmark => ?_⟩
  · have hrest : t.course l = .rest := (course_of_blocks hlanes hpunch l).trans (reset_course l)
    exact hrest ▸ .rest
  · rw [State.slot, hroster] at hmark
    cases hmark

theorem keeps_goneDark (h : s.keeps c none) : s.goneDark.keeps c none := keeps_of_reset h rfl rfl rfl

theorem keeps_powerUp (h : s.keeps c none) : s.powerUp.keeps c none := keeps_of_reset h rfl rfl rfl

theorem keepsNext_supplyHold (h : s.keeps c none) : keepsNext c (execSupplyHold s) :=
  keepsNext_next (keeps_ite (keeps_ite (keeps_enterHold h) (keeps_goneDark h)) h)

theorem keepsNext_supplyReturn (h : s.keeps c none) : keepsNext c (execSupplyReturn s) := by
  refine keepsNext_next ?_
  split
  · exact h
  · exact keeps_leaveHold h
  · exact keeps_powerUp h

theorem keepsNext_backupLoss (h : s.keeps c none) : keepsNext c (execBackupLoss s) := by
  refine keepsNext_next ?_
  split
  · exact keeps_setSupply _ h
  · exact keeps_goneDark h
  · exact h

theorem keepsNext_powerOn (h : s.keeps c none) : keepsNext c (execPowerOn s) := keepsNext_next (keeps_powerUp h)

/-! ### Every command and every step -/

/-- Every command keeps a claim. -/
theorem keepsNext_exec (i : Instr) (h : s.keeps c none) : keepsNext c (exec i s) := by
  cases i with
  | clockSet => exact keepsNext_clockSet _ _ _ h
  | clockSlew => exact keepsNext_clockSlew _ h
  | clockTrim => exact keepsNext_clockTrim _ h
  | clockRead => exact keepsNext_clockRead h
  | secondEnd => exact keepsNext_secondEnd h
  | secondBoundary => exact keepsNext_secondBoundary _ h
  | deadlineExpiry => exact keepsNext_deadlineExpiry h
  | stepNotice => exact keepsNext_stepNotice _ h
  | resumptionNotice => exact keepsNext_resumptionNotice _ h
  | pendingSwitchDue => exact keepsNext_pendingSwitchDue h
  | rosterEnrol => exact keepsNext_rosterEnrol _ _ _ _ h
  | rosterAmend => exact keepsNext_rosterAmend _ _ _ _ _ h
  | rosterWithdraw => exact keepsNext_rosterWithdraw _ _ h
  | rosterRead => exact keepsNext_rosterRead _ h
  | rosterPurge => exact keepsNext_rosterPurge _ h
  | presenceSet => exact keepsNext_presenceSet _ _ h
  | presenceClear => exact keepsNext_presenceClear h
  | poll => exact keepsNext_poll h
  | pollTimeout => exact keepsNext_pollTimeout h
  | idle => exact keepsNext_idle _ h
  | garbledAnswer => exact keepsNext_garbledAnswer h
  | strayCharacters => exact keepsNext_strayCharacters h
  | punch => exact keepsNext_punch _ _ _ h
  | referralTimeout => exact keepsNext_referralTimeout _ h
  | ruling => exact keepsNext_ruling _ _ _ _ h
  | doorOpening => exact keepsNext_doorOpening _ h
  | doorClosing => exact keepsNext_doorClosing _ h
  | releaseExpiry => exact keepsNext_releaseExpiry _ h
  | heldOpenExpiry => exact keepsNext_heldOpenExpiry _ h
  | requestToExit => exact keepsNext_requestToExit _ h
  | exitAllowanceExpiry => exact keepsNext_exitAllowanceExpiry _ h
  | encoderChange => exact keepsNext_encoderChange _ _ _ h
  | interlockWaitExpiry => exact keepsNext_interlockWaitExpiry _ h
  | deadTimeEnd => exact keepsNext_deadTimeEnd _ h
  | laneMode => exact keepsNext_laneMode _ _ h
  | laneRelease => exact keepsNext_laneRelease _ _ h
  | laneRead => exact keepsNext_laneRead _ h
  | bellRing => exact keepsNext_bellRing _ _ _ h
  | bellStop => exact keepsNext_bellStop _ h
  | ringEnd => exact keepsNext_ringEnd _ h
  | cadencePhaseChange => exact keepsNext_cadencePhaseChange _ h
  | debounceSample => exact keepsNext_debounceSample _ h
  | watchFire => exact keepsNext_watchFire _ h
  | outputHold => exact keepsNext_outputHold _ _ _ h
  | egressEnd => exact keepsNext_egressEnd h
  | loadBegin => exact keepsNext_loadBegin _ h
  | loadRows => exact keepsNext_loadRows _ _ _ h
  | loadEnd => exact keepsNext_loadEnd h
  | bankSwitch => exact keepsNext_bankSwitch _ h
  | tableRead => exact keepsNext_tableRead _ _ _ _ h
  | spoolTake => exact keepsNext_spoolTake _ _ h
  | spoolClear => exact keepsNext_spoolClear _ h
  | moveWaitingTotals => exact keepsNext_moveWaitingTotals h
  | status => exact keepsNext_status h
  | setupWrite => exact keepsNext_setupWrite _ h
  | setupRead => exact keepsNext_setupRead _ h
  | restart => exact keepsNext_restart h
  | warmRestart => exact keepsNext_warmRestart h
  | frameReceipt => exact keepsNext_frameReceipt _ h
  | receiveTimeout => exact keepsNext_receiveTimeout h
  | frameDispatch => exact keepsNext_frameDispatch h
  | frameSent => exact keepsNext_frameSent h
  | silenceTimeout => exact keepsNext_silenceTimeout h
  | supplyHold => exact keepsNext_supplyHold h
  | supplyReturn => exact keepsNext_supplyReturn h
  | backupLoss => exact keepsNext_backupLoss h
  | powerOn => exact keepsNext_powerOn h
  | frameLengthBad => exact keepsNext_frameLengthBad _ h

theorem keepsNext_idleStep (h : s.keeps c none) : keepsNext c s.idleStep := by
  unfold State.idleStep
  split
  · exact keepsNext_exec _ h
  · exact keepsNext_next (keeps_ite h (keeps_passPeriods _ h))

/-- Every step keeps a claim. -/
theorem keepsNext_step (h : s.keeps c none) : keepsNext c (step s) := by
  unfold step
  split
  · exact keepsNext_idleStep h
  · exact keepsNext_exec _ (keeps_setPending _ h)

end


/-! ### The laws of the roster and of the lanes (R16–R34, R58, R70–R73) -/

/-- What is claimed of a step's roster alone. -/
def Claim.ofRoster (r : Roster) : Claim := ⟨r, False, False, False.elim, False.elim⟩

/-- What is claimed of a step's lanes, and with `marks` of the marks too. -/
def Claim.ofLanes (r : Roster) (marks : Prop) (h : marks → r.canonical ∧ r.emptied) : Claim :=
  ⟨r, True, marks, fun _ => trivial, h⟩

theorem keeps_ofRoster (s : State) : s.keeps (.ofRoster s.roster) none := ⟨.refl _ _, False.elim, False.elim⟩

/-- A step's roster is made of the one before by the rules of the roster. -/
theorem step_rosterRuns {s t : State} (h : step s = .next t) : rosterRuns True s.roster t.roster :=
  (keepsNext_step (keeps_ofRoster s) t h).runs

theorem keeps_ofLanes {s : State} {marks : Prop} (hlanes : s.laneLaw) (hwaits : s.waitLaw)
    (hroster : marks → s.roster.canonical ∧ s.roster.emptied) (hmarks : marks → s.markLaw) :
    s.keeps (.ofLanes s.roster marks hroster) none :=
  ⟨.refl _ _, fun _ l => .inl (course_of_laws hlanes hwaits l), hmarks⟩

/-- Settles O8: each law is kept by every one of the moves that a step's roster is made by. -/
theorem stepKeepsRosterLaws : Obligations.StepKeepsRosterLaws := by
  unfold Obligations.StepKeepsRosterLaws
  refine ⟨fun s t hform h => ?_, fun s t hform hsound h => ?_, fun s t hform hbadges h => ?_,
    fun s t hform haddress hcounts h => ?_⟩
  · rw [rosterForm_iff] at hform ⊢
    exact (step_rosterRuns h).canonical hform
  · rw [soundWords_iff] at hsound ⊢
    exact ((step_rosterRuns h).keeps RosterMove.wordsSound hform hsound).2
  · rw [badgeLaw_iff] at hbadges ⊢
    exact ((step_rosterRuns h).keeps RosterMove.badgesPlaced hform hbadges).2
  · rw [addressLaw_countLaw_iff]
    exact ((step_rosterRuns h).keeps RosterMove.counted hform ((addressLaw_countLaw_iff s).1 ⟨haddress, hcounts⟩)).2

/-- Settles O9: every operation leaves each lane a sound course and the marks with their grants, hence every step does. -/
theorem stepKeepsLaneLaw : Obligations.StepKeepsLaneLaw := by
  unfold Obligations.StepKeepsLaneLaw
  refine ⟨fun s t hlanes hwaits h => ?_, fun s t hform hempty hlanes hwaits hmarks h => ?_⟩
  · have hkept := keepsNext_step (keeps_ofLanes (marks := False) hlanes hwaits False.elim False.elim) t h
    exact laws_of_courses fun l => (hkept.courses trivial l).resolve_right fun ⟨hnone, _⟩ => nomatch hnone
  · have hkept := keepsNext_step (keeps_ofLanes (marks := True) hlanes hwaits
      (fun _ => ⟨hform, (emptyLaw_iff s).1 hempty⟩) fun _ => hmarks) t h
    exact hkept.marks trivial

end Sys2Proof.Machine
end

section
/-! ## The roster orders with every word sound (R19–R29) -/
namespace Sys2Proof.Machine

/-! ### The ranges of an order's fields -/

theorem validBadge_iff {b : Nat} : validBadge b = true ↔ 1 ≤ b ∧ b ≤ 4294967294 := by simp [validBadge]

theorem validIndices_iff {payClass pattern : Nat} : validIndices payClass pattern = true ↔ payClass ≤ 15 ∧ pattern ≤ 63 := by
  simp [validIndices]

theorem validAddress_iff {a : Nat} : validAddress a = true ↔ a ≤ 6143 := by simp [validAddress]

theorem getD_zero_le_iff {o : Option Nat} {n : Nat} : o.getD 0 ≤ n ↔ ∀ c ∈ o, c ≤ n := by
  cases o <;> simp

/-! ### Reads of sound slots (R19, R33) -/

/-- The lowest address that passes a test is the one a search in address order finds. -/
theorem find?_of_lowest {l : List Nat} (hl : l.Pairwise (· < ·)) {p : Nat → Bool} {a : Nat} (ha : a ∈ l) (hp : p a = true)
    (hlow : ∀ c ∈ l, c < a → p c = false) : l.find? p = some a := by
  obtain ⟨before, after, rfl⟩ := List.append_of_mem ha
  rw [List.find?_eq_some_iff_append]
  refine ⟨hp, before, after, rfl, fun c hc => ?_⟩
  have hca : c < a := (List.pairwise_append.1 hl).2.2 c hc a List.mem_cons_self
  rw [hlow c (List.mem_append_left _ hc) hca]
  rfl

theorem bucketSlots_sorted (k : Nat) : (bucketSlots k).Pairwise (· < ·) := by simp [bucketSlots]

section
variable {s : State} {a badge : Nat}

theorem readSlots_of_sound (h : s.soundWords) (l : List Nat) : s.readSlots l = s := by
  unfold State.readSlots
  induction l with
  | nil => rfl
  | cons c rest ih => rw [List.foldl_cons, checkedRead_of_sound h, ih]

theorem lookup_of_sound (h : s.soundWords) (badge : Nat) :
    s.lookup badge = (s, (bucketSlots (bucketOf badge)).find? (s.holdsBadge badge)) := by
  unfold State.lookup
  rw [readSlots_of_sound h]

/-- A badge is held in its own bucket (R16). -/
theorem mem_bucket_of_holds (hbadges : s.badgeLaw) (ha : s.holdsBadge badge a = true) :
    a ∈ bucketSlots (bucketOf badge) := by
  obtain ⟨hstatus, hheld⟩ := holdsBadge_eq_true.1 ha
  obtain ⟨-, b, hb, -, hbucket⟩ := hbadges.1 a (by rw [slot_of_status_active hstatus]; decide)
  rw [hheld] at hb
  cases hb
  exact mem_bucketSlots.2 hbucket

theorem lookup_of_held (h : s.soundWords) (hbadges : s.badgeLaw) (ha : s.holdsBadge badge a = true) :
    s.lookup badge = (s, some a) := by
  rw [lookup_of_sound h, find?_of_lowest (bucketSlots_sorted _) (mem_bucket_of_holds hbadges ha) ha]
  intro c _ hca
  exact Bool.eq_false_iff.2 fun hc => absurd (hbadges.2 c a badge hc ha) (by omega)

theorem lookup_of_missing (h : s.soundWords) (ha : ∀ a, s.holdsBadge badge a = false) : s.lookup badge = (s, none) := by
  rw [lookup_of_sound h, List.find?_eq_none.2 fun c _ => by rw [ha c]; decide]

/-! ### ROSTER ENROL (R21) -/

theorem execRosterEnrol_of_run (hrun : s.supply.state = .run) (payClass pattern : Nat) (lanes : LaneSet) :
    execRosterEnrol badge payClass pattern lanes s = .next
      (if validBadge badge && validIndices payClass pattern then
        (s.enrol badge ⟨payClass, pattern, lanes⟩).1.answerEnrol (.rosterEnrol badge payClass pattern lanes)
          (s.enrol badge ⟨payClass, pattern, lanes⟩).2
      else s.refuse (.rosterEnrol badge payClass pattern lanes) .outOfRange) :=
  whileRunning_of_run hrun

section
variable (h : s.soundWords) (f : EnrolFields)
include h

theorem enrol_of_duplicate (ha : (bucketSlots (bucketOf badge)).find? (s.holdsBadge badge) = some a) :
    s.enrol badge f = (s, .duplicate a) := by
  unfold State.enrol
  dsimp only
  rw [readSlots_of_sound h, ha]

theorem enrol_of_full (hnone : ∀ c ∈ bucketSlots (bucketOf badge), s.holdsBadge badge c = false)
    (hfull : ∀ c ∈ bucketSlots (bucketOf badge), s.statusOf c ≠ .free) : s.enrol badge f = (s, .full) := by
  unfold State.enrol
  dsimp only
  rw [readSlots_of_sound h, List.find?_eq_none.2 fun c hc => by rw [hnone c hc]; decide,
    List.find?_eq_none.2 fun c hc => by simpa using hfull c hc]

theorem enrol_of_free (hnone : ∀ c ∈ bucketSlots (bucketOf badge), s.holdsBadge badge c = false)
    (ha : a ∈ bucketSlots (bucketOf badge)) (hfree : s.statusOf a = .free)
    (hlowest : ∀ c ∈ bucketSlots (bucketOf badge), c < a → s.statusOf c ≠ .free) :
    s.enrol badge f = (s.setRoster { s.roster with
      slots := s.roster.slots.put Slot.freeSlot a (enrolledSlot badge f)
      occupiedCount := s.roster.occupiedCount + 1 }, .done a) := by
  unfold State.enrol
  dsimp only
  rw [readSlots_of_sound h, List.find?_eq_none.2 fun c hc => by rw [hnone c hc]; decide,
    find?_of_lowest (bucketSlots_sorted _) ha (by simp [hfree]) fun c hc hca => by simpa using hlowest c hc hca]
  rfl

end

end

/-- Settles O13: each answer of the enrolment by what the search of the bucket finds, and the order by the answer. -/
theorem rosterEnrolTakesTheLowestFreeSlot : Obligations.RosterEnrolTakesTheLowestFreeSlot := by
  unfold Obligations.RosterEnrolTakesTheLowestFreeSlot
  intro s badge payClass pattern lanes hrun hsound order bucket inRange
  have hvalid : (validBadge badge && validIndices payClass pattern) = true ↔ inRange := by
    rw [Bool.and_eq_true, validBadge_iff, validIndices_iff, and_assoc]
  have hexec : exec order s = _ := execRosterEnrol_of_run hrun payClass pattern lanes
  refine ⟨fun hout => ?_, fun hin hheld => ?_, fun hin hfull => ?_, fun a hin hnone ha hfree hlowest => ?_⟩
  · rw [hexec, if_neg (hvalid.not.2 hout)]
  · obtain ⟨c, hc, hholds⟩ := hheld
    obtain ⟨a, ha⟩ := Option.isSome_iff_exists.1 (List.find?_isSome.2 ⟨c, hc, hholds⟩)
    rw [hexec, if_pos (hvalid.2 hin), enrol_of_duplicate hsound _ ha]
    rfl
  · rw [hexec, if_pos (hvalid.2 hin), enrol_of_full hsound _ (fun c hc => (hfull c hc).1) fun c hc => (hfull c hc).2]
    rfl
  · rw [hexec, if_pos (hvalid.2 hin), enrol_of_free hsound _ hnone ha hfree hlowest]
    rfl

/-! ### ROSTER AMEND and PRESENCE SET (R22, R28) -/

section
variable {s : State} {a badge : Nat}

theorem execRosterAmend_of_run (hrun : s.supply.state = .run) (payClass pattern : Option Nat) (lanes : Option LaneSet)
    (reset : Bool) (order : Instr) (horder : order = .rosterAmend badge payClass pattern lanes reset) :
    execRosterAmend badge payClass pattern lanes reset s = .next
      (if validBadge badge && validIndices (payClass.getD 0) (pattern.getD 0) then
        match (s.lookup badge).2 with
        | none => (s.lookup badge).1.refuse order .notFound
        | some a => ((s.lookup badge).1.setSlot a
            (amendSlot payClass pattern lanes reset ((s.lookup badge).1.slot a))).answer order .ok (.slot a)
      else s.refuse order .outOfRange) :=
  horder ▸ whileRunning_of_run hrun

theorem execPresenceSet_of_run (hrun : s.supply.state = .run) (v : PresenceRead) (order : Instr)
    (horder : order = .presenceSet badge (.listed v)) :
    execPresenceSet badge (.listed v) s = .next
      (if validBadge badge then
        match (s.lookup badge).2 with
        | none => (s.lookup badge).1.refuse order .notFound
        | some a =>
          let t := (s.lookup badge).1.setSlot a (presenceSlot (s.lookup badge).1.roster.epoch v ((s.lookup badge).1.slot a))
          t.answer order .ok (.slotPresence a (t.presenceOf (t.slot a)))
      else s.refuse order .outOfRange) :=
  horder ▸ whileRunning_of_run hrun

/-- A presence written reads as it was written (R27, R28). -/
theorem presenceOf_presenceSlot (hepoch : s.epochLaw) (v : PresenceRead) (y : Slot) :
    s.presenceOf (presenceSlot s.roster.epoch v y) = v := by
  cases v with
  | inside => simp [State.presenceOf, presenceSlot]
  | outside => simp [State.presenceOf, presenceSlot]
  | unknown =>
    have hne : ¬ 0 = s.roster.epoch := by have := hepoch.1; omega
    simp [State.presenceOf, presenceSlot, hne]

end

/-- Settles O14: the order by its range check and by what the lookup of sound words finds. -/
theorem rosterAmendWritesTheFieldsPresent : Obligations.RosterAmendWritesTheFieldsPresent := by
  unfold Obligations.RosterAmendWritesTheFieldsPresent
  intro s badge payClass pattern lanes reset hrun hsound hbadges order inRange
  have hvalid : (validBadge badge && validIndices (payClass.getD 0) (pattern.getD 0)) = true ↔ inRange := by
    rw [Bool.and_eq_true, validBadge_iff, validIndices_iff, getD_zero_le_iff, getD_zero_le_iff, and_assoc]
  have hexec : exec order s = _ := execRosterAmend_of_run hrun payClass pattern lanes reset order rfl
  refine ⟨fun hout => ?_, fun hin hmissing => ?_, fun a hin ha => ?_⟩
  · rw [hexec, if_neg (hvalid.not.2 hout)]
  · rw [hexec, if_pos (hvalid.2 hin), lookup_of_missing hsound hmissing]
  · rw [hexec, if_pos (hvalid.2 hin), lookup_of_held hsound hbadges ha]
    rfl

/-! ### PRESENCE CLEAR (R29) -/

section
variable {s : State}

theorem advanceEpoch_of_last (h : s.roster.epoch = 65535) : s.advanceEpoch = s.setRoster { s.roster with
    slots := s.roster.slots.mapValues Slot.freeSlot fun x => { x with presenceStamp := 0 }
    epoch := 1 } := if_pos h

theorem advanceEpoch_of_not_last (h : s.roster.epoch ≠ 65535) :
    s.advanceEpoch = s.setRoster { s.roster with epoch := s.roster.epoch + 1 } := if_neg h

/-- As the epoch returns to 1 every presence stamp is 0 (R29). -/
theorem advanceEpoch_slot_of_last (hform : s.rosterForm) (h : s.roster.epoch = 65535) (a : Nat) :
    s.advanceEpoch.slot a = { s.slot a with presenceStamp := 0 } := by
  rw [advanceEpoch_of_last h]
  exact Tab.get_mapValues (f := fun x : Slot => { x with presenceStamp := 0 }) rfl hform.1 a

/-- No stamp made before the epoch advanced is of the new epoch (R27, R29). -/
theorem advanceEpoch_unknown (hform : s.rosterForm) (hstamps : ∀ a, (s.slot a).presenceStamp ≤ s.roster.epoch) (a : Nat) :
    s.advanceEpoch.presenceOf (s.advanceEpoch.slot a) = .unknown := by
  have hstamp : (s.advanceEpoch.slot a).presenceStamp ≠ s.advanceEpoch.roster.epoch := by
    rw [advanceEpoch_epoch]
    by_cases h : s.roster.epoch = 65535
    · rw [advanceEpoch_slot_of_last hform h, if_pos h]
      exact Nat.zero_ne_one
    · have hslot : s.advanceEpoch.slot a = s.slot a := by rw [advanceEpoch_of_not_last h]; rfl
      rw [hslot, if_neg h]
      exact Nat.ne_of_lt (Nat.lt_succ_of_le (hstamps a))
  exact if_neg hstamp

end

theorem execPresenceClear_of_run {s : State} (hrun : s.supply.state = .run) : execPresenceClear s =
    .next (s.advanceEpoch.answer .presenceClear .ok (.epoch s.advanceEpoch.roster.epoch)) := whileRunning_of_run hrun

/-- Settles O15: PRESENCE SET by the lookup of sound words, PRESENCE CLEAR by whether the epoch is the last one. -/
theorem presenceOrdersWriteAndClear : Obligations.PresenceOrdersWriteAndClear := by
  unfold Obligations.PresenceOrdersWriteAndClear
  refine ⟨?_, fun s hrun hform hepoch => ?_⟩
  · intro s badge value hrun hsound hbadges hepoch order
    have hexec : exec order s = _ := execPresenceSet_of_run hrun value order rfl
    refine ⟨fun hout => ?_, fun hin hmissing => ?_, fun a hin hform ha => ?_⟩
    · rw [hexec, if_neg (validBadge_iff.not.2 hout)]
    · rw [hexec, if_pos (validBadge_iff.2 hin), lookup_of_missing hsound hmissing]
    · rw [hexec, if_pos (validBadge_iff.2 hin), lookup_of_held hsound hbadges ha]
      dsimp only
      have hread : (s.setSlot a (presenceSlot s.roster.epoch value (s.slot a))).presenceOf
          ((s.setSlot a (presenceSlot s.roster.epoch value (s.slot a))).slot a) = value := by
        rw [slot_setSlot_same hform]
        exact presenceOf_presenceSlot hepoch value _
      rw [hread]
      cases value <;> rfl
  · have hframe : unchangedBut [.roster] s s.advanceEpoch := frame_advanceEpoch (.refl _ _) (by decide)
    have hkept : s.advanceEpoch.roster.damage = s.roster.damage ∧
        s.advanceEpoch.roster.occupiedCount = s.roster.occupiedCount := by
      unfold State.advanceEpoch
      split <;> exact ⟨rfl, rfl⟩
    refine ⟨s.advanceEpoch, ?_, hframe, advanceEpoch_epoch s, fun h => ?_, advanceEpoch_slot_of_last hform, hkept.1, hkept.2,
      advanceEpoch_unknown hform⟩
    · rw [← advanceEpoch_epoch]
      exact execPresenceClear_of_run hrun
    · rw [advanceEpoch_of_not_last h]
      rfl

/-! ### ROSTER WITHDRAW (R23, R24) -/

section
variable {s : State} {a badge : Nat}

theorem execRosterWithdraw_of_run (hrun : s.supply.state = .run) (force : Bool) (order : Instr)
    (horder : order = .rosterWithdraw badge force) :
    execRosterWithdraw badge force s = .next
      (if validBadge badge then
        match (s.lookup badge).2 with
        | none => (s.lookup badge).1.refuse order .notFound
        | some a => (s.lookup badge).1.withdraw order a force
      else s.refuse order .outOfRange) :=
  horder ▸ whileRunning_of_run hrun

/-- Of a badge that a sound slot holds the order is the slot's withdrawal. -/
theorem execRosterWithdraw_of_held (hrun : s.supply.state = .run) (hsound : s.soundWords) (hbadges : s.badgeLaw)
    (hbadge : 1 ≤ badge ∧ badge ≤ 4294967294) (ha : s.holdsBadge badge a = true) (force : Bool) :
    exec (.rosterWithdraw badge force) s = .next (s.withdraw (.rosterWithdraw badge force) a force) := by
  have hexec : exec (.rosterWithdraw badge force) s = _ := execRosterWithdraw_of_run hrun force _ rfl
  rw [hexec, if_pos (validBadge_iff.2 hbadge), lookup_of_held hsound hbadges ha]

theorem withdraw_of_marked (order : Instr) (force : Bool) (h : (s.slot a).mark.isSome = true) :
    s.withdraw order a force = s.refuse order .busy := if_pos h

section
variable (order : Instr) (hmark : (s.slot a).mark = none)
include hmark

theorem withdraw_of_off (force : Bool) (h : (s.slot a).record = .off) :
    s.withdraw order a force = (s.freeSlotAt a).answer order .ok (.withdrawal .free) := by
  unfold State.withdraw
  simp only [hmark, h]
  rfl

theorem withdraw_of_waiting (force : Bool) {d : RecordData} {out : Stamp} {total : ShiftTotal}
    (h : (s.slot a).record = .closedWaiting d out total) :
    s.withdraw order a force = (s.markWithdrawn a).answer order .ok (.withdrawal .withdrawn) := by
  unfold State.withdraw
  simp only [hmark, h]
  rfl

/-- An open record is withdrawn with force alone, and with a clock (R23). -/
theorem withdraw_of_open (force : Bool) (h : (s.slot a).record.openData.isSome = true) :
    s.withdraw order a force =
      if force then match s.now with
        | none => s.refuse order .clockInvalid
        | some t => s.forceClosure order a t
      else s.refuse order .openRecord := by
  unfold State.withdraw
  dsimp only
  rw [hmark]
  cases hrecord : (s.slot a).record with
  | off | closedWaiting =>
    rw [hrecord] at h
    cases h
  | onShift | onBreak => rfl

end

/-! ### A forced closure (R24, R106, R109) -/

/-- A total goes into the spool where no other waits and there is room (R109). -/
theorem placeTotal_of_room (h : s.records.closureQueue = [] ∧ s.spool.entries.length < 4096) (d : RecordData) (out : Stamp)
    (x : ShiftTotal) : s.placeTotal a d out x = ((s.appendEntry (.shiftTotal x)).setRecord a .off, .spooled) := by
  unfold State.placeTotal
  rw [if_pos h.1, State.offerTotal, if_pos h.2]

theorem placeTotal_of_no_room (h : ¬ (s.records.closureQueue = [] ∧ s.spool.entries.length < 4096)) (d : RecordData)
    (out : Stamp) (x : ShiftTotal) : s.placeTotal a d out x =
      (((s.setRecord a (.closedWaiting { d with flags := x.flags } out x)).setRecords { s.records with
        closureQueue := s.records.closureQueue ++ [a] }), .waiting) := by
  have hnone : (if s.records.closureQueue = [] then s.offerTotal x else none) = none := by
    split
    · next hqueue => exact if_neg fun hroom => h ⟨hqueue, hroom⟩
    · rfl
  unfold State.placeTotal
  rw [hnone]
  rfl

theorem answer_lastReply (s : State) (order : Instr) (code : ReplyCode) (body : ReplyBody) :
    (s.answer order code body).link.lastReply = some ⟨code, body⟩ := by
  unfold State.answer
  split
  · split <;> rfl
  · rfl

theorem answer_spool (s : State) (order : Instr) (code : ReplyCode) (body : ReplyBody) :
    (s.answer order code body).spool = s.spool := (answer_frame s order code body).same (b := .spool) (by decide)

theorem answer_records (s : State) (order : Instr) (code : ReplyCode) (body : ReplyBody) :
    (s.answer order code body).records = s.records := (answer_frame s order code body).same (b := .records) (by decide)

theorem answer_slot (s : State) (order : Instr) (code : ReplyCode) (body : ReplyBody) (a : Nat) :
    (s.answer order code body).slot a = s.slot a :=
  congrArg (fun r : Roster => r.slots.get Slot.freeSlot a) (answer_roster s order code body)

/-- The total of a forced closure carries the flag WITHDRAWN and the closing's own stamp, badge and slot (R24, R107). -/
theorem shiftTotal_forced (s : State) (a : Nat) (d : RecordData) (now : Stamp) :
    (shiftTotal (s.closureInput a d now .forced)).flags.withdrawn = true ∧
      (shiftTotal (s.closureInput a d now .forced)).outStamp = now ∧
      (shiftTotal (s.closureInput a d now .forced)).inStamp = d.inStamp ∧
      (shiftTotal (s.closureInput a d now .forced)).badge = (s.slot a).badge.getD 0 ∧
      (shiftTotal (s.closureInput a d now .forced)).slot = a := by
  refine ⟨?_, rfl, rfl, rfl, rfl⟩
  simp [shiftTotal, State.closureInput, closureFlags]

/-- A closed record's total in the spool and its slot FREE (R24, R109). -/
def State.totalSpooled (s : State) (a : Nat) (input : PayInput) : State :=
  (((s.weekWritten a input).appendEntry (.shiftTotal (shiftTotal input))).setRecord a .off).freeSlotAt a

/-- A closed record's total waiting in it, its slot WITHDRAWN (R24, R109). -/
def State.totalWaiting (s : State) (a : Nat) (input : PayInput) : State :=
  (((s.weekWritten a input).setRecord a (.closedWaiting { input.data with flags := (shiftTotal input).flags }
      input.outStamp (shiftTotal input))).setRecords
    { (s.weekWritten a input).records with closureQueue := s.records.closureQueue ++ [a] }).markWithdrawn a

section
variable {d : RecordData} (order : Instr) (now : Stamp) (hsound : s.soundWords)
  (hd : (s.slot a).record.openData = some d)
include hsound hd

/-- The closure of a sound slot's open record, its total placed. -/
theorem closeRecord_of_sound (cause : ClosureCause) : s.closeRecord a now cause =
    (s.weekWritten a (s.closureInput a d now cause)).placeTotal a (s.closureInput a d now cause).data now
      (shiftTotal (s.closureInput a d now cause)) := by
  have hread := checkedRead_of_sound hsound a
  rw [closeRecord_of_open (d := d) (by rw [hread]; exact hd)]
  simp only [hread]

theorem forceClosure_of_room (hroom : s.records.closureQueue = [] ∧ s.spool.entries.length < 4096) :
    s.forceClosure order a now =
      (s.totalSpooled a (s.closureInput a d now .forced)).answer order .ok (.withdrawal .free) := by
  unfold State.forceClosure
  rw [closeRecord_of_sound now hsound hd, placeTotal_of_room (s := s.weekWritten a _) hroom]
  rfl

theorem forceClosure_of_no_room (hroom : ¬ (s.records.closureQueue = [] ∧ s.spool.entries.length < 4096)) :
    s.forceClosure order a now =
      (s.totalWaiting a (s.closureInput a d now .forced)).answer order .ok (.withdrawal .withdrawn) := by
  unfold State.forceClosure
  rw [closeRecord_of_sound now hsound hd, placeTotal_of_no_room (s := s.weekWritten a _) hroom]
  rfl

end

section
variable (input : PayInput)

theorem totalSpooled_slot_same (h : s.rosterForm) : (s.totalSpooled a input).slot a = Slot.freeSlot :=
  Tab.get_put_same _ _ _ _
    (rosterForm_setSlot (s := (s.weekWritten a input).appendEntry _) (weekWritten_rosterForm h input) a _).1

theorem weekWritten_slot_other {c : Nat} (hc : a ≠ c) : (s.weekWritten a input).slot c = s.slot c :=
  slot_setSlot_other (s := s.setRecords _) hc _

theorem totalSpooled_slot_other {c : Nat} (hc : a ≠ c) : (s.totalSpooled a input).slot c = s.slot c :=
  (Tab.get_put_other _ _ _ _ _ hc).trans
    ((slot_setSlot_other (s := (s.weekWritten a input).appendEntry _) hc _).trans (weekWritten_slot_other input hc))

theorem totalWaiting_slot_other {c : Nat} (hc : a ≠ c) : (s.totalWaiting a input).slot c = s.slot c :=
  (slot_setSlot_other hc _).trans ((slot_setSlot_other hc _).trans (weekWritten_slot_other input hc))

theorem totalWaiting_slot_same (h : s.rosterForm) : (s.totalWaiting a input).slot a =
    { s.slot a with
      status := .withdrawn, weekIndex := (weekAfter input).1, weekTotal := (weekAfter input).2
      record := .closedWaiting { input.data with flags := (shiftTotal input).flags } input.outStamp (shiftTotal input) } := by
  have hweek : (s.weekWritten a input).slot a =
      { s.slot a with weekIndex := (weekAfter input).1, weekTotal := (weekAfter input).2 } :=
    slot_setSlot_same (s := s.setRecords _) h a _
  have hform := weekWritten_rosterForm (a := a) h input
  have hrecord := slot_setSlot_same hform a { (s.weekWritten a input).slot a with
    record := .closedWaiting { input.data with flags := (shiftTotal input).flags } input.outStamp (shiftTotal input) }
  refine (slot_setSlot_same (rosterForm_setSlot hform a _) a _).trans ?_
  refine (congrArg (fun y : Slot => { y with status := .withdrawn }) hrecord).trans ?_
  rw [hweek]

end

/-- What a forced closure of a sound slot's open record does, but for where its total goes (R24, R106). -/
theorem forceClosure_effects {d : RecordData} (order : Instr) (now : Stamp) (hsound : s.soundWords)
    (hd : (s.slot a).record.openData = some d) :
    (s.forceClosure order a now).records.deadlines = s.records.deadlines.filter (fun c => decide (c ≠ a)) ∧
      ∀ c, c ≠ a → (s.forceClosure order a now).slot c = s.slot c := by
  by_cases hroom : s.records.closureQueue = [] ∧ s.spool.entries.length < 4096
  · rw [forceClosure_of_room order now hsound hd hroom, answer_records]
    exact ⟨rfl, fun c hc => (answer_slot _ _ _ _ _).trans (totalSpooled_slot_other _ hc.symm)⟩
  · rw [forceClosure_of_no_room order now hsound hd hroom, answer_records]
    exact ⟨rfl, fun c hc => (answer_slot _ _ _ _ _).trans (totalWaiting_slot_other _ hc.symm)⟩

end

/-! ### ROSTER READ and ROSTER PURGE (R25, R26) -/

section
variable {s : State} {a badge : Nat}

theorem reportSlots_of_sound (h : s.soundWords) (l : List Nat) : s.reportSlots l = (s, l.map s.slotReport) := by
  induction l with
  | nil => rfl
  | cons c rest ih =>
    unfold State.reportSlots
    dsimp only
    rw [checkedRead_of_sound h, ih]
    rfl

/-- A slot's fields are reported of an ACTIVE or WITHDRAWN one (R25). -/
theorem slotReport_fields (s : State) (a : Nat) :
    ((s.slotReport a).fields.isSome = true ↔ s.statusOf a = .active ∨ s.statusOf a = .withdrawn) ∧
      ∀ f ∈ (s.slotReport a).fields, f = s.slotFields a := by
  unfold State.slotReport
  cases s.statusOf a <;> simp [eq_comm]

theorem slotReport_of_active (h : s.statusOf a = .active) : s.slotReport a = ⟨a, .active, some (s.slotFields a)⟩ := by
  unfold State.slotReport
  rw [h]

theorem execRosterRead_byAddress (hrun : s.supply.state = .run) (first count : Nat) :
    execRosterRead (.byAddress first count) s = .next
      (if validAddress first = true ∧ 1 ≤ count ∧ count ≤ 8 then
        (s.reportSlots (readAddresses first count)).1.answer (.rosterRead (.byAddress first count)) .ok
          (.slots (s.reportSlots (readAddresses first count)).2.length (s.reportSlots (readAddresses first count)).2)
      else s.refuse (.rosterRead (.byAddress first count)) .outOfRange) := whileRunning_of_run hrun

theorem execRosterRead_byBadge (hrun : s.supply.state = .run) (badge : Nat) :
    execRosterRead (.byBadge badge) s = .next
      (if validBadge badge then
        match (s.lookup badge).2 with
        | none => (s.lookup badge).1.refuse (.rosterRead (.byBadge badge)) .notFound
        | some a => (s.lookup badge).1.answer (.rosterRead (.byBadge badge)) .ok (.slots 1 [(s.lookup badge).1.slotReport a])
      else s.refuse (.rosterRead (.byBadge badge)) .outOfRange) := whileRunning_of_run hrun

theorem execRosterPurge_of_run (hrun : s.supply.state = .run) (a : Nat) :
    execRosterPurge a s = .next
      (if validAddress a then
        if s.isDamaged a then (s.purge a).answer (.rosterPurge a) .ok .none else s.refuse (.rosterPurge a) .wrongState
      else s.refuse (.rosterPurge a) .outOfRange) := whileRunning_of_run hrun

end

/-- Settles O17: a read reports each slot named as its status has it, and a purge frees the one slot. -/
theorem rosterReadAndPurge : Obligations.RosterReadAndPurge := by
  unfold Obligations.RosterReadAndPurge
  refine ⟨?_, ?_, ?_⟩
  · intro s first count hrun hsound order
    have hexec : exec order s = _ := execRosterRead_byAddress hrun first count
    refine ⟨fun hout => ?_, fun hfirst hlow hhigh => ⟨(readAddresses first count).map s.slotReport, ?_, ?_, ?_⟩⟩
    · rw [hexec, if_neg (by rw [validAddress_iff]; omega)]
    · rw [hexec, if_pos ⟨validAddress_iff.2 hfirst, hlow, hhigh⟩, reportSlots_of_sound hsound]
    · rw [List.map_map]
      exact List.map_id _
    · intro r hr
      obtain ⟨c, -, rfl⟩ := List.mem_map.1 hr
      obtain ⟨hreported, hfields⟩ := slotReport_fields s c
      refine ⟨rfl, hreported, fun f hf => ?_⟩
      rw [hfields f hf]
      exact ⟨rfl, rfl, rfl, rfl⟩
  · intro s badge a hrun hsound hbadges hbadge ha order
    have hexec : exec order s = _ := execRosterRead_byBadge hrun badge
    rw [hexec, if_pos (validBadge_iff.2 hbadge), lookup_of_held hsound hbadges ha]
    dsimp only
    rw [slotReport_of_active (holdsBadge_eq_true.1 ha).1]
  · intro s address hrun order
    have hexec : exec order s = _ := execRosterPurge_of_run hrun address
    refine ⟨fun hout => ?_, fun hin hsound => ?_, fun hin hdamaged hform => ?_⟩
    · rw [hexec, if_neg (by rw [validAddress_iff]; omega)]
    · rw [hexec, if_pos (validAddress_iff.2 hin), hsound]
      rfl
    · refine ⟨s.purge address, ?_, frame_purge address (.refl _ _) (by decide), Tab.get_put_same _ _ _ _ hform.1,
        Tab.get_put_same _ _ _ _ hform.2, fun c hc => ⟨Tab.get_put_other _ _ _ _ _ (Ne.symm hc),
          Tab.get_put_other _ _ _ _ _ (Ne.symm hc)⟩, rfl, rfl, rfl, rfl⟩
      rw [hexec, if_pos (validAddress_iff.2 hin), if_pos hdamaged]

/-- Settles O16: the checks in their order, and a forced closure by whether its total finds room. -/
theorem rosterWithdrawChecksInOrder : Obligations.RosterWithdrawChecksInOrder := by
  unfold Obligations.RosterWithdrawChecksInOrder
  refine ⟨?_, ?_⟩
  · intro s badge force hrun order
    have hexec : exec order s = _ := execRosterWithdraw_of_run hrun force order rfl
    refine ⟨fun hout => ?_, fun hlow hhigh hsound hmissing => ?_⟩
    · rw [hexec, if_neg (by rw [validBadge_iff]; omega)]
    · rw [hexec, if_pos (validBadge_iff.2 ⟨hlow, hhigh⟩), lookup_of_missing hsound hmissing]
  · intro s badge a force hrun hsound hbadges hbadge ha order
    have hexec : exec order s = _ := execRosterWithdraw_of_held hrun hsound hbadges hbadge ha force
    rw [hexec]
    refine ⟨fun hmark => ?_, fun hmark hopen hforce => ?_, fun hmark hopen hforce hnow => ?_, fun hmark hoff => ?_,
      fun d out total hmark hwaiting => ?_, fun now d hform hmark hd hforce hnow => ?_⟩
    · rw [withdraw_of_marked _ _ hmark]
    · rw [withdraw_of_open _ hmark _ hopen, if_neg (by simp [hforce])]
    · rw [withdraw_of_open _ hmark _ hopen, if_pos hforce, hnow]
    · rw [withdraw_of_off _ hmark _ hoff]
      rfl
    · rw [withdraw_of_waiting _ hmark _ hwaiting]
      rfl
    · intro input total
      have hopen : (s.slot a).record.openData.isSome = true := by rw [hd]; rfl
      obtain ⟨hwithdrawn, hout, hin, hheld, hslot⟩ := shiftTotal_forced s a d now
      have hframe : unchangedBut [.roster, .records, .spool, .link] s (s.forceClosure order a now) :=
        frame_forceClosure order a now (.refl _ _) (by decide) (by decide) (by decide) (by decide)
      obtain ⟨hdeadlines, hothers⟩ := forceClosure_effects order now hsound hd
      refine ⟨hwithdrawn, hout, hin, hheld.trans ?_, hslot, s.forceClosure order a now, ?_, hframe, hdeadlines, hothers,
        fun hroom => ?_, fun hroom => ?_⟩
      · rw [(holdsBadge_eq_true.1 ha).2]
        rfl
      · rw [withdraw_of_open _ hmark _ hopen, if_pos hforce, hnow]
      · rw [forceClosure_of_room order now hsound hd hroom, answer_slot, answer_records, answer_spool, answer_roster,
          answer_lastReply]
        exact ⟨totalSpooled_slot_same _ hform, hroom.1, rfl, rfl, rfl, rfl, rfl⟩
      · rw [forceClosure_of_no_room order now hsound hd hroom, answer_slot, answer_records, answer_spool, answer_roster,
          answer_lastReply]
        exact ⟨totalWaiting_slot_same _ hform, rfl, rfl, rfl, rfl⟩

end Sys2Proof.Machine
end

section
/-! ## Levels settled, and a grant's end with every word sound (R30, R53, R57, R71–R73, R86, R160) -/
namespace Sys2Proof.Machine

theorem putAt_self {α : Type} {n : Nat} {v : Vector α n} {i : Fin n} {x : α} (h : v[i.val] = x) : putAt v i x = v := by
  unfold putAt
  rw [← h]
  exact Vector.set_getElem_self ..

section
variable {s t u : State} {l m : LaneId}

/-- A state that differs from another in no part is that state. -/
theorem eq_of_unchangedBut {L : List Block} (hf : unchangedBut L s t) (h : ∀ b ∈ L, b.same s t) : t = s := by
  have hsame : ∀ b : Block, b.same s t := fun b => (hf.2 b).elim (h b) id
  obtain ⟨⟩ := s
  obtain ⟨⟩ := t
  exact State.mk.injEq .. ▸ ⟨hsame .time, hsame .roster, hsame .records, hsame .punch, hsame .lanes, hsame .bells,
    hsame .inputs, hsame .banks, hsame .spool, hsame .link, hsame .setup, hsame .supply, hsame .notices, hf.1⟩

theorem lanes_eq (h : ∀ m, t.lane m = s.lane m) : t.lanes = s.lanes := Vector.ext fun i hi => h ⟨i, hi⟩

theorem lanes_eq_putAt {x : Lane} (hl : t.lane l = x) (hother : ∀ m, l ≠ m → t.lane m = s.lane m) :
    t.lanes = putAt s.lanes l x := by
  refine lanes_eq (s := s.setLane l x) fun m => ?_
  by_cases hlm : l = m
  · subst hlm
    rw [hl, State.setLane_same]
  · rw [hother m hlm, State.setLane_other _ _ _ _ hlm]

theorem reach_of_reached {e : Elapsed} (h : e ≤ s.time.elapsed) : s.reach e = s := if_pos h

/-! ### A lane's release output (R71, R160) -/

/-- A lane's mode alone asks for its release output (R71). -/
def Lane.modeReleases (x : Lane) : Bool :=
  decide (x.setup.kind ≠ .unused) && (decide (x.mode = .free) || decide (x.mode = .egress))

theorem Lane.wantsRelease_of_no_grant {x : Lane} (h : x.grant = none) : x.wantsRelease = x.modeReleases := by
  simp [Lane.wantsRelease, Lane.modeReleases, h]

/-- A waiting grant asks for no release (R71). -/
theorem Lane.wantsRelease_of_waiting {x : Lane} {g : Grant} (h : x.grant = some g) (hg : g.phase = .waiting) :
    x.wantsRelease = x.modeReleases := by
  simp [Lane.wantsRelease, Lane.modeReleases, h, hg]

/-- An UNTIL_OPEN grant whose passage has been seen asks for no release (R71, R77). -/
theorem Lane.wantsRelease_of_seen {x : Lane} {g : Grant} (h : x.grant = some g) (hkind : x.setup.kind = .door)
    (hmode : x.setup.releaseMode = .untilOpen) (hseen : g.passageSeen = true) : x.wantsRelease = x.modeReleases := by
  simp [Lane.wantsRelease, Lane.modeReleases, h, hkind, hmode, hseen]

/-- A released grant of a DOOR lane, its passage not yet seen, asks for the release (R71). -/
theorem Lane.wantsRelease_of_released {x : Lane} {g : Grant} (h : x.grant = some g) (hphase : g.phase = .released)
    (hkind : x.setup.kind = .door) (hexpiry : g.releaseExpiry.isSome = true) (hseen : g.passageSeen = false) :
    x.wantsRelease = true := by
  cases hmode : x.setup.releaseMode <;> simp [Lane.wantsRelease, h, hphase, hkind, hmode, hexpiry, hseen]

/-- With no hold and no evacuation a release output is driven as it is requested (R160). -/
theorem driveRelease_of_free (hrun : s.supply.state = .run) (hevacuating : s.inputs.evacuating = false)
    (hhold : s.inputs.releaseHolds[l] = none) : s.driveRelease l = (s.lane l).wantsRelease := by
  simp [State.driveRelease, hrun, hevacuating, hhold]

/-! ### Pairs and the arbiter (R84, R86) -/

theorem partnerOf_congr (h : ∀ m, (t.lane m).setup = (s.lane m).setup) (l : LaneId) : t.partnerOf l = s.partnerOf l := by
  unfold State.partnerOf
  simp only [h]

theorem partnerOf_eq_none (h : s.inPair l = false) : s.partnerOf l = none := by
  unfold State.inPair at h
  exact Option.not_isSome_iff_eq_none.1 (by simp [h])

/-- A lane's partner is a DOOR lane whose partner is that lane (R84). -/
theorem partnerOf_eq_some (h : s.partnerOf l = some m) :
    (s.lane m).setup.kind = .door ∧ s.partnerOf m = some l ∧ m ≠ l := by
  unfold State.partnerOf at h
  split at h
  · cases h
  · next p hp =>
    split at h
    · next hpair =>
      cases h
      obtain ⟨hl, hm, hback, hne⟩ := hpair
      refine ⟨hm, ?_, hne⟩
      unfold State.partnerOf
      rw [hback]
      exact if_pos ⟨hm, hl, hp, hne.symm⟩
    · cases h

theorem look_of_unpaired (h : s.partnerOf l = none) : s.look l = s := by
  unfold State.look
  rw [h]

theorem goesFirst_of_not_waiting (h : s.waitingGrant l = none) (m : LaneId) : s.goesFirst l m = false := by
  unfold State.goesFirst
  rw [h]

theorem goesFirst_of_not_clear (h : s.interlockClear l m = false) : s.goesFirst l m = false := by
  unfold State.goesFirst
  split
  · rfl
  · rw [h]
    rfl

theorem look_of_choice {q : LaneId} (h : s.partnerOf l = some m) (hq : s.arbiterChoice l m = some q) :
    s.look l = (s.lookOnce l m).lookOnce l m := by
  unfold State.look
  rw [h]
  dsimp only
  rw [hq]

theorem arbiterChoice_eq_none (hl : s.goesFirst l m = false) (hm : s.goesFirst m l = false) : s.arbiterChoice l m = none := by
  unfold State.arbiterChoice
  rw [hl, hm]
  rfl

theorem lookOnce_of_no_choice (h : s.arbiterChoice l m = none) : s.lookOnce l m = s := by
  unfold State.lookOnce
  rw [h]

theorem look_of_no_choice (h : ∀ m, s.partnerOf l = some m → s.arbiterChoice l m = none) : s.look l = s := by
  cases hpartner : s.partnerOf l with
  | none => exact look_of_unpaired hpartner
  | some m =>
    unfold State.look
    rw [hpartner]
    dsimp only
    rw [h m hpartner]

theorem waitingGrant_of_no_grant (h : (s.lane l).grant = none) : s.waitingGrant l = none := by
  unfold State.waitingGrant
  rw [h]

theorem waitingGrant_of_released {g : Grant} (h : (s.lane l).grant = some g) (hg : g.phase = .released) :
    s.waitingGrant l = none := by
  unfold State.waitingGrant
  rw [h]
  exact if_neg (by simp [hg])

theorem tellReleased_frame (s : State) (l : LaneId) : unchangedBut [.punch] s (s.tellReleased l) :=
  frame_tellReleased l (.refl _ _) (by decide)

theorem releaseGrant_lane_other (g : Grant) (h : l ≠ m) : (s.releaseGrant l g).lane m = s.lane m :=
  (congrArg (fun v : Vector Lane 8 => v[m]) ((tellReleased_frame _ l).same (b := .lanes) (by decide))).trans
    (State.setLane_other _ _ _ _ h)

/-- The arbiter releases no lane but one whose grant waits (R86). -/
theorem lookOnce_lane_of_no_grant (h : (s.lane l).grant = none) (m p : LaneId) : (s.lookOnce m p).lane l = s.lane l := by
  unfold State.lookOnce
  split
  · rfl
  · next q _ =>
    split
    · rfl
    · next g hg =>
      refine releaseGrant_lane_other g ?_
      rintro rfl
      rw [waitingGrant_of_no_grant h] at hg
      cases hg

theorem look_lane_of_no_grant (h : (s.lane l).grant = none) (m : LaneId) : (s.look m).lane l = s.lane l := by
  unfold State.look
  split
  · rfl
  · split
    · rfl
    · next p _ _ _ _ =>
      have honce := lookOnce_lane_of_no_grant h m p
      exact (lookOnce_lane_of_no_grant (by rw [honce, h]) m p).trans honce

/-! ### Levels settled (R86, R160) -/

theorem lookIfChanged_of_driven (h : s.inputs.drivenRelease[l] = s.driveRelease l) : s.lookIfChanged l = s := if_pos h.symm

theorem lookIfChanged_of_look (h : s.look l = s) : s.lookIfChanged l = s := by
  unfold State.lookIfChanged
  split
  · rfl
  · exact h

theorem settle_of_quiet (h : ∀ m, s.lookIfChanged m = s) : s.settle = s.retakeLevels := by
  unfold State.settle
  rw [List.foldl_fixed' h allLanes]

/-- The levels settle without a release where no lane's driven level has changed but that of one with no other lane to look
for. -/
theorem settle_of_one_changed (h : ∀ m, l ≠ m → s.inputs.drivenRelease[m] = s.driveRelease m) (hlook : s.look l = s) :
    s.settle = s.retakeLevels := by
  refine settle_of_quiet fun m => ?_
  by_cases hlm : l = m
  · exact lookIfChanged_of_look (hlm ▸ hlook)
  · exact lookIfChanged_of_driven (h m hlm)

/-- A lane without a grant is left by a settling as it is, its requested level taken again. -/
theorem settle_lane_of_no_grant (h : (s.lane l).grant = none) :
    s.settle.lane l = { s.lane l with requested := (s.lane l).modeReleases } := by
  have hlooks : (allLanes.foldl State.lookIfChanged s).lane l = s.lane l :=
    List.foldlRecOn (motive := fun u : State => u.lane l = s.lane l) allLanes _ rfl fun u hu m _ => by
      unfold State.lookIfChanged
      split
      · exact hu
      · exact (look_lane_of_no_grant (by rw [hu, h]) m).trans hu
  unfold State.settle
  rw [retakeLevels_lane, hlooks, Lane.wantsRelease_of_no_grant h]

theorem InputSampler.eq_of_levels {x y : InputSampler} (h : x.undriven = y.undriven)
    (hrelease : x.drivenRelease = y.drivenRelease) (hbell : x.drivenBell = y.drivenBell) : x = y := by
  obtain ⟨v, w, rfl⟩ := InputSampler.eq_of_undriven h
  dsimp only at hrelease hbell
  rw [hrelease, hbell]

theorem releasesAgain_driveBell (s : State) (b : BellId) : s.releasesAgain.driveBell b = s.driveBell b := by
  have hholds := congrArg InputSampler.bellHolds (releasesAgain_undriven s)
  have hbells : s.releasesAgain.bells = s.bells := (releasesAgain_frame s).same (b := .bells) (by decide)
  unfold State.driveBell State.ringsEvacuation
  rw [releasesAgain_supply, hbells, show s.releasesAgain.inputs.bellHolds = s.inputs.bellHolds from hholds]

/-- Levels that are as the rules give them are taken again as they are. -/
theorem retakeLevels_of_levelLaw (h : s.levelLaw) : s.retakeLevels = s := by
  obtain ⟨hrequested, hrelease, hbell⟩ := h
  have hlanes : s.retakeLevels.lanes = s.lanes := lanes_eq fun m => by rw [retakeLevels_lane, ← hrequested]
  have hdriven : s.retakeLevels.inputs.drivenRelease = s.inputs.drivenRelease :=
    Vector.ext fun i hi => (retakeLevels_drivenRelease s ⟨i, hi⟩).trans (hrelease ⟨i, hi⟩).symm
  have hrung : s.retakeLevels.inputs.drivenBell = s.inputs.drivenBell := Vector.ext fun i hi =>
    (retakeLevels_drivenBell s ⟨i, hi⟩).trans ((releasesAgain_driveBell s ⟨i, hi⟩).trans (hbell ⟨i, hi⟩).symm)
  have hinputs := InputSampler.eq_of_levels (retakeLevels_undriven s) hdriven hrung
  refine eq_of_unchangedBut (retakeLevels_frame s) fun b hb => ?_
  simp only [List.mem_cons, List.not_mem_nil, or_false] at hb
  rcases hb with rfl | rfl
  · exact hlanes
  · exact hinputs

theorem settle_of_levelLaw (h : s.levelLaw) : s.settle = s :=
  (settle_of_quiet fun m => lookIfChanged_of_driven (h.2.1 m)).trans (retakeLevels_of_levelLaw h)

/-- What of a lane its release output's levels turn on. -/
def Lane.levels (x : Lane) : LaneSetup × Bool × Bool := (x.setup, x.wantsRelease, x.requested)

theorem Lane.levels_eq_iff {x y : Lane} : x.levels = y.levels ↔
    x.setup = y.setup ∧ x.wantsRelease = y.wantsRelease ∧ x.requested = y.requested := by
  simp only [Lane.levels, Prod.mk.injEq]

/-- Between two states nothing has changed that an output's level turns on. -/
structure sameLevels (s t : State) : Prop where
  lanes : ∀ m, (t.lane m).levels = (s.lane m).levels
  inputs : t.inputs = { s.inputs with deliveries := t.inputs.deliveries }
  bells : t.bells = s.bells
  supply : t.supply = s.supply

theorem sameLevels.trans (h : sameLevels s t) (g : sameLevels t u) : sameLevels s u :=
  ⟨fun m => (g.lanes m).trans (h.lanes m), by rw [g.inputs, h.inputs], g.bells.trans h.bells, g.supply.trans h.supply⟩

theorem sameLevels_of_frame {L : List Block} (hf : unchangedBut L s t)
    (hL : Block.lanes ∉ L ∧ Block.inputs ∉ L ∧ Block.bells ∉ L ∧ Block.supply ∉ L) : sameLevels s t := by
  obtain ⟨hlanes, hinputs, hbells, hsupply⟩ := hL
  have hlane : t.lanes = s.lanes := hf.same (b := .lanes) hlanes
  have hinput : t.inputs = s.inputs := hf.same (b := .inputs) hinputs
  exact ⟨fun m => by rw [State.lane, hlane]; rfl, by rw [hinput], hf.same (b := .bells) hbells,
    hf.same (b := .supply) hsupply⟩

theorem sameLevels_setLane {x : Lane} (h : x.levels = (s.lane l).levels) : sameLevels s (s.setLane l x) := by
  refine ⟨fun m => ?_, rfl, rfl, rfl⟩
  by_cases hlm : l = m
  · subst hlm
    rw [State.setLane_same, h]
  · rw [State.setLane_other _ _ _ _ hlm]

theorem sameLevels.setup (h : sameLevels s t) (m : LaneId) : (t.lane m).setup = (s.lane m).setup :=
  (Lane.levels_eq_iff.1 (h.lanes m)).1

theorem sameLevels.driveRelease (h : sameLevels s t) (m : LaneId) : t.driveRelease m = s.driveRelease m := by
  obtain ⟨hsetup, hwants, -⟩ := Lane.levels_eq_iff.1 (h.lanes m)
  exact driveRelease_congr hsetup hwants h.supply (by rw [h.inputs]) (by rw [h.inputs])

theorem sameLevels.driveBell (h : sameLevels s t) (b : BellId) : t.driveBell b = s.driveBell b := by
  unfold State.driveBell State.ringsEvacuation
  rw [h.supply, h.bells, h.inputs]

theorem sameLevels.levelLaw (h : sameLevels s t) (hs : s.levelLaw) : t.levelLaw := by
  obtain ⟨hrequested, hrelease, hbell⟩ := hs
  refine ⟨fun m => ?_, fun m => ?_, fun b => ?_⟩
  · obtain ⟨-, hwants, hreq⟩ := Lane.levels_eq_iff.1 (h.lanes m)
    rw [hreq, hwants, hrequested]
  · rw [h.driveRelease, ← hrelease, h.inputs]
  · rw [h.driveBell, ← hbell, h.inputs]

theorem sameLevels.settle (h : sameLevels s t) (hs : s.levelLaw) : t.settle = t := settle_of_levelLaw (h.levelLaw hs)

/-! ### A handed punch dropped with every word sound (R30, R57, R73) -/

/-- A slot with a lane's mark cleared where it names that lane (R30). -/
def Slot.unmarked (x : Slot) (l : LaneId) : Slot := { x with mark := if x.mark = some l then none else x.mark }

theorem clearMark_of_sound_cases (h : s.soundWords) (l : LaneId) (a : Nat) :
    (s.clearMark l (some a) = s ∧ ¬ (s.isDamaged a = false ∧ (s.slot a).status ≠ .free)) ∨
      s.clearMark l (some a) = s.setSlot a ((s.slot a).unmarked l) ∧ (s.slot a).status ≠ .free := by
  unfold State.clearMark State.writeSlot
  dsimp only
  rw [checkedRead_of_sound h]
  split
  · next hactive =>
    have hstatus := (statusOf_eq_active.1 hactive).2
    exact .inr ⟨rfl, by rw [hstatus]; decide⟩
  · next hwithdrawn =>
    have hstatus := (statusOf_eq_withdrawn.1 hwithdrawn).2
    exact .inr ⟨rfl, by rw [hstatus]; decide⟩
  · next hfree => exact .inl ⟨rfl, fun hused => hused.2 (statusOf_eq_free.1 hfree).2⟩
  · next hdamaged => exact .inl ⟨rfl, fun hused => by simp [statusOf_eq_damaged.1 hdamaged] at hused⟩

/-- Between two states a lane's handed punch has been dropped and its slot's mark cleared where it names the lane (R30, R57). -/
structure handedDropped (s t : State) (l : LaneId) : Prop where
  frame : unchangedBut [.punch, .roster] s t
  punch : t.punch = { s.punch with handed := putAt s.punch.handed l none }
  roster : t.roster = { s.roster with slots := t.roster.slots }
  others : ∀ a, (∀ p ∈ s.handedAt l, p.slot ≠ some a) → t.slot a = s.slot a
  cleared : ∀ p a, s.handedAt l = some p → p.slot = some a → s.isDamaged a = false → (s.slot a).status ≠ .free →
    t.slot a = (s.slot a).unmarked l

theorem dropHanded_of_none (h : s.handedAt l = none) : s.dropHanded l = s := by
  unfold State.dropHanded
  rw [h]

theorem dropHanded_of_some {p : HandedPunch} (h : s.handedAt l = some p) :
    s.dropHanded l = (s.setHanded l none).clearMark l p.slot := by
  unfold State.dropHanded
  rw [h]

theorem setHanded_frame (s : State) (l : LaneId) : unchangedBut [.punch, .roster] s (s.setHanded l none) :=
  frame_setHanded l none (.refl _ _) (by decide)

theorem dropHanded_handedDropped (h : s.soundWords) (l : LaneId) : handedDropped s (s.dropHanded l) l := by
  cases hp : s.handedAt l with
  | none =>
    rw [dropHanded_of_none hp]
    exact ⟨.refl _ _, by rw [putAt_self (v := s.punch.handed) hp], rfl, fun _ _ => rfl,
      fun p a hsome => (nomatch hp.symm.trans hsome)⟩
  | some p =>
    rw [dropHanded_of_some hp]
    cases hslot : p.slot with
    | none =>
      refine ⟨setHanded_frame s l, rfl, rfl, fun _ _ => rfl, fun q a hq ha => ?_⟩
      cases hp.symm.trans hq
      rw [hslot] at ha
      cases ha
    | some e =>
      have hother : ∀ a, (∀ q ∈ s.handedAt l, q.slot ≠ some a) → e ≠ a := by
        rintro a hq rfl
        exact hq p hp hslot
      have hsame : ∀ q a, s.handedAt l = some q → q.slot = some a → a = e := by
        intro q a hq ha
        cases hp.symm.trans hq
        exact Option.some.inj (ha.symm.trans hslot)
      rcases clearMark_of_sound_cases (s := s.setHanded l none) h l e with ⟨heq, hunused⟩ | ⟨heq, hstatus⟩
      · rw [heq]
        refine ⟨setHanded_frame s l, rfl, rfl, fun _ _ => rfl, fun q a hq ha hd hfree => ?_⟩
        rw [hsame q a hq ha] at hd hfree
        exact absurd ⟨hd, hfree⟩ hunused
      · rw [heq]
        refine ⟨frame_setSlot _ _ (setHanded_frame s l) (by decide), rfl, rfl, fun a ha => ?_, fun q a hq ha _ _ => ?_⟩
        · exact slot_setSlot_other (s := s.setHanded l none) (hother a ha) _
        · rw [hsame q a hq ha]
          exact slot_setSlot_of_not_vacant (s := s.setHanded l none) (not_vacant_of_status hstatus)

/-! ### Verdicts to heads (R40) -/

theorem queueFor_of_absent {i : Head} {v : Verdict} {q : List QueuedVerdict} (h : ∀ y ∈ q, y.head ≠ i) :
    queueFor i v q = q ++ [⟨i, v⟩] := by
  induction q with
  | nil => rfl
  | cons y rest ih =>
    unfold queueFor
    rw [if_neg (h y List.mem_cons_self), ih fun z hz => h z (List.mem_cons_of_mem _ hz)]
    rfl

theorem queueVerdict_of_absent {i : Head} (v : Verdict) (hpolled : s.inPollSet i = true)
    (h : ∀ q ∈ s.punch.verdicts, q.head ≠ i) :
    s.queueVerdict i v = s.setPunch { s.punch with verdicts := s.punch.verdicts ++ [⟨i, v⟩] } := by
  unfold State.queueVerdict
  rw [if_pos hpolled, queueFor_of_absent h]

theorem sendReport_link (r : Report) (h : t.link = s.link) : (t.sendReport r).link = (s.sendReport r).link := by
  unfold State.sendReport
  rw [h]
  split
  · split <;> rfl
  · exact h

/-! ### A grant's end with no setup waiting (R57, R73, R87) -/

theorem noticeEnd_of_none (h : s.handedAt l = none) (how : GrantEnd) : s.noticeEnd l how = s := by
  cases how with
  | finished => exact dropHanded_of_none h
  | refused =>
    unfold State.noticeEnd State.tellRefused
    rw [h]
  | void cause =>
    unfold State.noticeEnd State.voidPunch
    rw [h]

theorem noticeEnd_lane (how : GrantEnd) (m : LaneId) : (s.noticeEnd l how).lane m = s.lane m := by
  obtain ⟨t, hframe, -, heq⟩ := noticeEnd_eq s l how
  rw [heq, dropHanded_lane]
  exact congrArg (fun v : Vector Lane 8 => v[m]) (hframe.same (b := .lanes) (by decide))

theorem endGrant_of_no_pending (h : (s.lane l).pendingSetup = none) (how : GrantEnd) :
    s.endGrant l how = (s.noticeEnd l how).idled l :=
  becomeIdle_of_no_pending ((congrArg Lane.pendingSetup (noticeEnd_lane how l)).trans h)

theorem idled_lane_same (s : State) (l : LaneId) :
    (s.idled l).lane l = { s.lane l with activity := .idle, grant := none, pendingSetup := none } := State.setLane_same _ _ _

theorem idled_lane_other (h : l ≠ m) : (s.idled l).lane m = s.lane m := State.setLane_other _ _ _ _ h

/-- A grant that waited or was done with leaves the requested level as it was (R71, R73). -/
theorem sameLevels_idled (h : (s.lane l).wantsRelease = (s.lane l).modeReleases) : sameLevels s (s.idled l) :=
  sameLevels_setLane (Lane.levels_eq_iff.2 ⟨rfl, (Lane.wantsRelease_of_no_grant rfl).trans h.symm, rfl⟩)

end
end Sys2Proof.Machine
end

section
/-! ## Doors that close and timers that run out (R30, R53, R57, R73, R74, R76, R77, R79, R80, R82, R87) -/
namespace Sys2Proof.Machine

section
variable {s t : State} {l m : LaneId}

theorem slot_congr (h : t.roster = s.roster) (a : Nat) : t.slot a = s.slot a := by rw [State.slot, h, State.slot]

theorem isDamaged_congr (h : t.roster = s.roster) (a : Nat) : t.isDamaged a = s.isDamaged a := by
  rw [State.isDamaged, h, State.isDamaged]

theorem idled_lane_of_no_pending (h : (s.lane l).pendingSetup = none) :
    (s.idled l).lane l = { s.lane l with activity := .idle, grant := none } := by
  rw [idled_lane_same, ← h]

theorem idled_frame (s : State) (l : LaneId) : unchangedBut [.lanes] s (s.idled l) := frame_setLane l _ (.refl _ _) (by decide)

/-- An alarm is entered on a lane in use while the part runs (R67). -/
theorem laneAlarm_of_used (hrun : s.supply.state = .run) (hkind : (s.lane l).setup.kind = .door) (cause : AlarmCause) :
    s.laneAlarm l cause = s.requestEntry (.laneAlarm s.now l cause) := if_neg (by simp [hrun, hkind])

/-! ### A door closes (R74, R77) -/

/-- A lane whose door has closed (R74). -/
def Lane.closedAt (x : Lane) (e : Elapsed) : Lane :=
  { x with doorOpen := false, lastClosing := some e, heldTimer := none, held := false }

theorem recordClosing_of_unpaired (h : s.partnerOf l = none) (e : Option Elapsed) :
    s.recordClosing l e = s.setLane l { s.lane l with doorOpen := false, lastClosing := e, heldTimer := none } := by
  unfold State.recordClosing State.startPartnerDead
  rw [partnerOf_congr (s := s) (fun m => ?_), h]
  by_cases hlm : l = m
  · subst hlm
    rw [State.setLane_same]
  · rw [State.setLane_other _ _ _ _ hlm]

/-- Between two states a lane's door has closed, a held alarm having ended with it (R74). -/
structure doorClosed (s t : State) (l : LaneId) : Prop where
  frame : unchangedBut [.lanes, .spool, .link] s t
  same : t.lane l = (s.lane l).closedAt s.elapsed
  other : ∀ m, l ≠ m → t.lane m = s.lane m
  ended : (s.lane l).held = true → entered (.laneAlarm s.now l .heldEnd) s t
  silent : (s.lane l).held = false → t.spool = s.spool ∧ t.link = s.link

theorem setLane_setLane (s : State) (l : LaneId) (x y : Lane) : (s.setLane l x).setLane l y = s.setLane l y := by
  simp [State.setLane, putAt, Vector.set_set, State.setLanes]

/-- The state with a lane's door closed, before an alarm of it. -/
def State.shut (s : State) (l : LaneId) : State := s.setLane l ((s.lane l).closedAt s.elapsed)

theorem closing_of_not_held (hpair : s.partnerOf l = none) (hheld : (s.lane l).held = false) :
    (s.recordClosing l (some s.elapsed)).endHeld l = s.shut l := by
  rw [recordClosing_of_unpaired hpair, State.endHeld, State.setLane_same, if_neg (by simp [hheld]), State.shut, Lane.closedAt,
    ← hheld]

theorem closing_of_held (hpair : s.partnerOf l = none) (hheld : (s.lane l).held = true) :
    (s.recordClosing l (some s.elapsed)).endHeld l = (s.shut l).laneAlarm l .heldEnd := by
  rw [recordClosing_of_unpaired hpair, State.endHeld, State.setLane_same, if_pos hheld, setLane_setLane]
  rfl

theorem doorClosed_shut (hheld : (s.lane l).held = false) : doorClosed s (s.shut l) l :=
  ⟨frame_setLane l _ (.refl _ _) (by decide), State.setLane_same _ _ _, fun _ hlm => State.setLane_other _ _ _ _ hlm,
    fun h => (nomatch hheld.symm.trans h), fun _ => ⟨rfl, rfl⟩⟩

theorem doorClosed_alarmed (hrun : s.supply.state = .run) (hkind : (s.lane l).setup.kind = .door)
    (hheld : (s.lane l).held = true) : doorClosed s ((s.shut l).laneAlarm l .heldEnd) l := by
  have hsame : (s.shut l).lane l = (s.lane l).closedAt s.elapsed := State.setLane_same _ _ _
  rw [laneAlarm_of_used (s := s.shut l) hrun (by rw [hsame]; exact hkind)]
  have hlanes := (requestEntry_frame (s.shut l) (.laneAlarm s.now l .heldEnd)).same (b := .lanes) (by decide)
  have hlane : ∀ m, ((s.shut l).requestEntry (.laneAlarm s.now l .heldEnd)).lane m = (s.shut l).lane m := fun m =>
    congrArg (fun v : Vector Lane 8 => v[m]) hlanes
  refine ⟨(frame_setLane l _ (.refl _ _) (by decide)).trans ((requestEntry_frame _ _).mono (by decide)),
    (hlane l).trans hsame, fun m hlm => (hlane m).trans (State.setLane_other _ _ _ _ hlm),
    fun _ => entered_requestEntry _ rfl rfl, fun h => (nomatch hheld.symm.trans h)⟩

/-- Out of a pair a door's closing is recorded, and a held alarm ends with it (R74). -/
theorem closing_doorClosed (hrun : s.supply.state = .run) (hkind : (s.lane l).setup.kind = .door)
    (hpair : s.partnerOf l = none) : doorClosed s ((s.recordClosing l (some s.elapsed)).endHeld l) l := by
  cases hheld : (s.lane l).held with
  | false => exact closing_of_not_held hpair hheld ▸ doorClosed_shut hheld
  | true => exact closing_of_held hpair hheld ▸ doorClosed_alarmed hrun hkind hheld

theorem Lane.levels_closedAt (x : Lane) (e : Elapsed) : (x.closedAt e).levels = x.levels := rfl

theorem doorClosed.lanes_eq (h : doorClosed s t l) : t.lanes = putAt s.lanes l ((s.lane l).closedAt s.elapsed) :=
  lanes_eq_putAt h.same h.other

theorem doorClosed.sameLevels (h : doorClosed s t l) : sameLevels s t := by
  have hinputs : t.inputs = s.inputs := h.frame.same (b := .inputs) (by decide)
  refine ⟨fun m => ?_, by rw [hinputs], h.frame.same (b := .bells) (by decide), h.frame.same (b := .supply) (by decide)⟩
  by_cases hlm : l = m
  · subst hlm
    rw [h.same, Lane.levels_closedAt]
  · rw [h.other m hlm]

theorem finishUntilOpen_of_not_used (h : ∀ g, (s.lane l).grant = some g →
    ¬ (g.phase = .released ∧ g.passageSeen = true ∧ (s.lane l).setup.releaseMode = .untilOpen)) : s.finishUntilOpen l = s := by
  unfold State.finishUntilOpen
  split
  · rfl
  · next g hg => exact if_neg (h g hg)

theorem finishUntilOpen_of_used {g : Grant} (hg : (s.lane l).grant = some g) (hphase : g.phase = .released)
    (hseen : g.passageSeen = true) (hmode : (s.lane l).setup.releaseMode = .untilOpen) :
    s.finishUntilOpen l = s.endGrant l .finished := by
  unfold State.finishUntilOpen
  rw [hg]
  exact if_pos ⟨hphase, hseen, hmode⟩

/-- The state as a closing that waited is taken (R154). -/
def State.undelivered (s : State) : State := s.setInputs { s.inputs with deliveries := [] }

theorem takeChange_of_only {d : Bool} (h : s.inputs.deliveries = [.door l d]) : s.takeChange (.door l d) = s.undelivered := by
  unfold State.takeChange State.dropDelivery
  simp [h, State.undelivered]

theorem execDoorClosing_of_open (hrun : s.supply.state = .run) (hkind : (s.lane l).setup.kind = .door)
    (hopen : (s.lane l).doorOpen = true) (hd : s.inputs.deliveries = [.door l false]) :
    execDoorClosing l s = .next (s.undelivered.doorCloses l).settle := by
  have hexec : execDoorClosing l s = .next (if ((s.takeChange (.door l false)).lane l).setup.kind = .door ∧
      ((s.takeChange (.door l false)).lane l).doorOpen = true then
        ((s.takeChange (.door l false)).doorCloses l).settle else s.takeChange (.door l false)) := whileRunning_of_run hrun
  rw [hexec, takeChange_of_only hd]
  exact congrArg _ (if_pos ⟨hkind, hopen⟩)

theorem sameLevels_undelivered (s : State) : sameLevels s s.undelivered := ⟨fun _ => rfl, rfl, rfl, rfl⟩

end

/-- Settles O31: the closing leaves every level as it was, so that nothing follows but the end of a used UNTIL_OPEN grant. -/
theorem doorClosingRecordsTheClosing : Obligations.DoorClosingRecordsTheClosing := by
  unfold Obligations.DoorClosingRecordsTheClosing
  intro s l hrun hlevels hkind hopen hd hunpaired closed alarmed
  have hpair : s.undelivered.partnerOf l = none :=
    (partnerOf_congr (fun _ => rfl) l).trans (partnerOf_eq_none hunpaired)
  have hclosed : doorClosed s.undelivered ((s.undelivered.recordClosing l (some s.undelivered.elapsed)).endHeld l) l :=
    closing_doorClosed hrun hkind hpair
  have hexec : exec (.doorClosing l) s = _ := execDoorClosing_of_open hrun hkind hopen hd
  unfold State.doorCloses at hexec
  generalize ((s.undelivered.recordClosing l (some s.undelivered.elapsed)).endHeld l) = t at hclosed hexec
  have hframe : unchangedBut [.lanes, .inputs, .spool, .link] s t :=
    (frame_setInputs _ (.refl _ _) (by decide)).trans (hclosed.frame.mono (by decide))
  have hinputs : t.inputs = { s.inputs with deliveries := [] } := hclosed.frame.same (b := .inputs) (by decide)
  have halarmed : alarmed t := ⟨fun hheld => (hclosed.ended hheld).from_same rfl rfl, hclosed.silent⟩
  have hsame : sameLevels s t := (sameLevels_undelivered s).trans hclosed.sameLevels
  have hlook : ∀ u, sameLevels s u → (u.look l).settle = u := fun u hu => by
    rw [look_of_unpaired ((partnerOf_congr hu.setup l).trans (partnerOf_eq_none hunpaired)), hu.settle hlevels]
  have hlane : t.lane l = closed := hclosed.same
  refine ⟨fun hunused => ⟨t, ?_, hframe, hinputs, hclosed.lanes_eq, halarmed⟩, ?_⟩
  · rw [hexec, finishUntilOpen_of_not_used (by rw [hlane]; exact hunused), hlook t hsame]
  · intro g hg hphase hseen hmode hpending hform hsound
    have hroster : t.roster = s.roster := hclosed.frame.same (b := .roster) (by decide)
    have hpunch : t.punch = s.punch := hclosed.frame.same (b := .punch) (by decide)
    have hhanded : t.handedAt l = s.handedAt l := by rw [State.handedAt, hpunch, State.handedAt]
    have hdropped := dropHanded_handedDropped (soundWords_congr hsound hroster) l
    have hlanes := dropHanded_lane t l
    have hwants : ((t.dropHanded l).lane l).wantsRelease = ((t.dropHanded l).lane l).modeReleases := by
      rw [hlanes, hlane]
      exact Lane.wantsRelease_of_seen (x := closed) hg hkind hmode hseen
    have hended : sameLevels s ((t.dropHanded l).idled l) :=
      (hsame.trans (sameLevels_of_frame hdropped.frame (by decide))).trans (sameLevels_idled hwants)
    have hafter : unchangedBut [.lanes, .punch, .roster] t ((t.dropHanded l).idled l) :=
      (hdropped.frame.mono (by decide)).trans ((idled_frame _ l).mono (by decide))
    refine ⟨(t.dropHanded l).idled l, ?_, (hframe.mono (by decide)).trans (hafter.mono (by decide)),
      (hafter.same (b := .inputs) (by decide)).trans hinputs, ?_, ?_, ?_, ?_, fun a ha => ?_, fun p a hp ha hd hfree => ?_⟩
    · rw [hexec, finishUntilOpen_of_used (g := g) (by rw [hlane]; exact hg) hphase hseen (by rw [hlane]; exact hmode),
        endGrant_of_no_pending (by rw [hlane]; exact hpending)]
      exact congrArg _ (hlook _ hended)
    · have hspool : ((t.dropHanded l).idled l).spool = t.spool := hafter.same (b := .spool) (by decide)
      have hlink : ((t.dropHanded l).idled l).link = t.link := hafter.same (b := .link) (by decide)
      exact ⟨fun hheld => (halarmed.1 hheld).of_same hspool hlink,
        fun hheld => ⟨hspool.trans (halarmed.2 hheld).1, hlink.trans (halarmed.2 hheld).2⟩⟩
    · refine lanes_eq_putAt ?_ fun m hlm => ?_
      · rw [idled_lane_of_no_pending (by rw [hlanes, hlane]; exact hpending), hlanes, hlane]
      · rw [idled_lane_other hlm, hlanes, hclosed.other m hlm]
        rfl
    · exact hdropped.punch.trans (by rw [hpunch])
    · exact hdropped.roster.trans (by rw [hroster]; rfl)
    · exact (hdropped.others a (by rw [hhanded]; exact ha)).trans (slot_congr hroster a)
    · have hcleared := hdropped.cleared p a (hhanded.trans hp) ha (by rw [isDamaged_congr hroster, hd])
        (by rw [slot_congr hroster]; exact hfree)
      rw [slot_congr hroster] at hcleared
      exact hcleared

end Sys2Proof.Machine
end

section
/-! ## Lane timers (R30, R53, R57, R73, R76, R77, R79, R80, R82, R87) -/
namespace Sys2Proof.Machine

section
variable {s t w : State} {l m : LaneId} {g k : Grant} {p : HandedPunch}

/-! ### A grant's release time runs out (R57, R73, R76, R77, R82) -/

/-- How a released grant ends as its time runs out (R76, R77). -/
def Grant.timedEnd (g : Grant) : GrantEnd := if g.passageSeen then .finished else .void .expiry

/-- The state with a lane's grant ended as its time ran out, its count at 0. -/
def State.timedOut (s : State) (l : LaneId) (g : Grant) : State := ((s.noticeEnd l g.timedEnd).idled l).zeroEncoder l

theorem timedOut_lane_same (hpending : (s.lane l).pendingSetup = none) :
    (s.timedOut l g).lane l = { s.lane l with activity := .idle, grant := none, encoder := 0 } := by
  refine (State.setLane_same _ _ _).trans ?_
  rw [idled_lane_of_no_pending (by rw [noticeEnd_lane]; exact hpending), noticeEnd_lane]

theorem timedOut_lane_other (h : l ≠ m) : (s.timedOut l g).lane m = s.lane m :=
  (State.setLane_other _ _ _ _ h).trans ((idled_lane_other h).trans (noticeEnd_lane _ m))

theorem timedOut_frame (s : State) (l : LaneId) (g : Grant) :
    unchangedBut [.lanes] (s.noticeEnd l g.timedEnd) (s.timedOut l g) :=
  frame_zeroEncoder l (idled_frame _ l) (by decide)

theorem timedOut_unpaired (hpending : (s.lane l).pendingSetup = none) (hpair : s.inPair l = false) :
    (s.timedOut l g).partnerOf l = none := by
  rw [partnerOf_congr (s := s) (fun m => ?_), partnerOf_eq_none hpair]
  by_cases hlm : l = m
  · subst hlm
    rw [timedOut_lane_same hpending]
  · rw [timedOut_lane_other hlm]

theorem execReleaseExpiry_of_reached {e : Elapsed} (hrun : s.supply.state = .run) (hg : (s.lane l).grant = some g)
    (hphase : g.phase = .released) (hexpiry : g.releaseExpiry = some e) (he : e ≤ s.time.elapsed)
    (hpending : (s.lane l).pendingSetup = none) (hpair : s.inPair l = false) :
    execReleaseExpiry l s = .next (s.timedOut l g).settle := by
  refine (whileRunning_of_run hrun).trans ?_
  rw [hg]
  dsimp only
  rw [hphase, hexpiry]
  dsimp only
  rw [reach_of_reached he]
  have hruns : s.releaseRunsOut l g = s.timedOut l g := by
    unfold State.releaseRunsOut
    rw [show (if g.passageSeen then GrantEnd.finished else .void .expiry) = g.timedEnd from rfl,
      endGrant_of_no_pending hpending]
    exact look_of_unpaired (timedOut_unpaired hpending hpair)
  rw [hruns]

/-- As the levels settle the lane whose grant's time ran out is IDLE, and its mode alone asks for its output (R71, R73). -/
theorem settle_timedOut_lane (hpending : (s.lane l).pendingSetup = none) : (s.timedOut l g).settle.lane l =
    { s.lane l with activity := .idle, grant := none, encoder := 0, requested := (s.lane l).modeReleases } := by
  rw [settle_lane_of_no_grant (by rw [timedOut_lane_same hpending]), timedOut_lane_same hpending]
  rfl

/-- Where the levels were settled, the end of an unpaired lane's grant changes no other lane's. -/
theorem settle_timedOut (hlevels : s.levelLaw) (hpending : (s.lane l).pendingSetup = none) (hpair : s.inPair l = false)
    (hinputs : (s.timedOut l g).inputs = s.inputs) (hsupply : (s.timedOut l g).supply = s.supply) :
    (s.timedOut l g).settle = (s.timedOut l g).retakeLevels := by
  refine settle_of_one_changed (l := l) (fun m hlm => ?_) (look_of_unpaired (timedOut_unpaired hpending hpair))
  have hlane := timedOut_lane_other (s := s) (g := g) hlm
  have hdriven : (s.timedOut l g).driveRelease m = s.driveRelease m := by
    refine driveRelease_congr ?_ ?_ hsupply ?_ ?_
    · rw [hlane]
    · rw [hlane]
    · rw [hinputs]
    · rw [hinputs]
  rw [hdriven, hinputs]
  exact hlevels.2.1 m

/-- The head and the plant told of a punch whose release time ran out, where no passage was seen (R57). -/
def State.expiryTold (s : State) (l : LaneId) (g : Grant) (p : HandedPunch) : State :=
  if g.passageSeen = true then s
  else (s.queueVerdict p.head (plainVerdict .finish)).sendReport (.void p.stamp l p.head p.badge p.slot p.shown .expiry)

theorem noticeEnd_timedEnd (hp : s.handedAt l = some p) :
    s.noticeEnd l g.timedEnd = (s.expiryTold l g p).dropHanded l := by
  unfold Grant.timedEnd State.expiryTold
  cases g.passageSeen with
  | true => rfl
  | false =>
    rw [if_neg (by decide), if_neg (by decide)]
    unfold State.noticeEnd State.voidPunch
    rw [hp]
    rfl

theorem expiryTold_frame (s : State) (l : LaneId) (g : Grant) (p : HandedPunch) :
    unchangedBut [.punch, .link] s (s.expiryTold l g p) := by
  unfold State.expiryTold
  split
  · exact .refl _ _
  · exact frame_sendReport _ (frame_queueVerdict _ _ (.refl _ _) (by decide)) (by decide)

theorem sendReport_punch (s : State) (r : Report) : (s.sendReport r).punch = s.punch :=
  (frame_sendReport (L := [.link]) r (.refl _ _) (by decide)).same (b := .punch) (by decide)

theorem expiryTold_punch (hpolled : s.inPollSet p.head = true) (habsent : ∀ q ∈ s.punch.verdicts, q.head ≠ p.head) :
    (s.expiryTold l g p).punch = { s.punch with
      verdicts := s.punch.verdicts ++ (if g.passageSeen = true then [] else [⟨p.head, ⟨.finish, .none, false⟩⟩]) } := by
  unfold State.expiryTold
  split
  · rw [List.append_nil]
  · rw [sendReport_punch, queueVerdict_of_absent _ hpolled habsent]
    rfl

theorem queueVerdict_frame (s : State) (i : Head) (v : Verdict) : unchangedBut [.punch] s (s.queueVerdict i v) :=
  frame_queueVerdict i v (.refl _ _) (by decide)

theorem expiryTold_link (s : State) (l : LaneId) (g : Grant) (p : HandedPunch) : (s.expiryTold l g p).link =
    if g.passageSeen = true then s.link
    else (s.sendReport (.void p.stamp l p.head p.badge p.slot p.shown .expiry)).link := by
  unfold State.expiryTold
  split
  · rfl
  · exact sendReport_link _ ((queueVerdict_frame _ _ _).same (b := .link) (by decide))

end

/-- A released grant of an unpaired lane whose time has run out, its lane left with no punch to void (R73, R76, R77, R82). -/
theorem releaseExpiry_of_unhanded {s : State} {l : LaneId} {g : Grant} {e : Elapsed} (hrun : s.supply.state = .run)
    (hg : (s.lane l).grant = some g) (hphase : g.phase = .released) (hexpiry : g.releaseExpiry = some e)
    (he : e ≤ s.time.elapsed) (hpair : s.inPair l = false) (hpending : (s.lane l).pendingSetup = none)
    (hp : s.handedAt l = none) :
    exec (.releaseExpiry l) s = .next (s.timedOut l g).settle ∧
      unchangedBut [.lanes, .inputs, .punch] s (s.timedOut l g).settle := by
  refine ⟨execReleaseExpiry_of_reached hrun hg hphase hexpiry he hpending hpair, ?_⟩
  refine frame_settle ?_ (by decide) (by decide) (by decide)
  have hframe := timedOut_frame s l g
  rw [noticeEnd_of_none hp] at hframe
  exact hframe.mono (by decide)

/-! ### A waiting grant refused (R53, R84, R86, R87) -/

section
variable {s t : State} {l m : LaneId} {g k : Grant} {p : HandedPunch}

/-- The state with a lane's waiting grant refused. -/
def State.refusedWait (s : State) (l : LaneId) : State := (s.noticeEnd l .refused).idled l

theorem refusedWait_lane_same (hpending : (s.lane l).pendingSetup = none) :
    (s.refusedWait l).lane l = { s.lane l with activity := .idle, grant := none } := by
  rw [State.refusedWait, idled_lane_of_no_pending (by rw [noticeEnd_lane]; exact hpending), noticeEnd_lane]

theorem refusedWait_lane_other (h : l ≠ m) : (s.refusedWait l).lane m = s.lane m :=
  (idled_lane_other h).trans (noticeEnd_lane _ m)

theorem noticeEnd_frame (s : State) (l : LaneId) (how : GrantEnd) :
    unchangedBut [.punch, .roster, .records, .spool, .link] s (s.noticeEnd l how) :=
  frame_noticeEnd l how (.refl _ _) (by decide) (by decide) (by decide) (by decide) (by decide)

theorem refusedWait_time (s : State) (l : LaneId) : (s.refusedWait l).time = s.time :=
  (noticeEnd_frame s l .refused).same (b := .time) (by decide)

/-- A refusal leaves every output's level as it was (R71, R87). -/
theorem sameLevels_refusedWait (hg : (s.lane l).grant = some g) (hphase : g.phase = .waiting) :
    sameLevels s (s.refusedWait l) := by
  refine (sameLevels_of_frame (noticeEnd_frame s l .refused) (by decide)).trans (sameLevels_idled ?_)
  rw [noticeEnd_lane]
  exact Lane.wantsRelease_of_waiting hg hphase

theorem interlockClear_congr (hdrive : t.driveRelease l = s.driveRelease l) (hopen : (t.lane l).doorOpen = (s.lane l).doorOpen)
    (hclosing : (t.lane l).lastClosing = (s.lane l).lastClosing) (hsetup : (t.lane m).setup = (s.lane m).setup)
    (htime : t.time = s.time) : t.interlockClear m l = s.interlockClear m l := by
  unfold State.interlockClear State.deadTimeEndOf State.elapsed
  rw [hdrive, hopen, hclosing, hsetup, htime]

/-- A refusal leaves the interlock condition of the lane's partner as it was (R84, R87). -/
theorem interlockClear_refusedWait (hg : (s.lane l).grant = some g) (hphase : g.phase = .waiting)
    (hpending : (s.lane l).pendingSetup = none) (m : LaneId) : (s.refusedWait l).interlockClear m l = s.interlockClear m l :=
  have hlevels := sameLevels_refusedWait hg hphase
  interlockClear_congr (hlevels.driveRelease l) (by rw [refusedWait_lane_same hpending])
    (by rw [refusedWait_lane_same hpending]) (hlevels.setup m) (refusedWait_time s l)

theorem waitingGrant_congr (h : t.lane m = s.lane m) : t.waitingGrant m = s.waitingGrant m := by
  unfold State.waitingGrant
  rw [h]

theorem refusedWait_waitingGrant_same (hpending : (s.lane l).pendingSetup = none) :
    (s.refusedWait l).waitingGrant l = none := waitingGrant_of_no_grant (by rw [refusedWait_lane_same hpending])

/-- Where the partner stays no waiting grant is released as another is refused (R86). -/
theorem look_refusedWait (hg : (s.lane l).grant = some g) (hphase : g.phase = .waiting)
    (hpending : (s.lane l).pendingSetup = none) (hstays : s.partnerStays l) :
    (s.refusedWait l).look l = s.refusedWait l := by
  refine look_of_no_choice fun m hm => ?_
  rw [partnerOf_congr (sameLevels_refusedWait hg hphase).setup] at hm
  have hlane : (s.refusedWait l).lane m = s.lane m := refusedWait_lane_other (partnerOf_eq_some hm).2.2.symm
  refine arbiterChoice_eq_none (goesFirst_of_not_waiting (refusedWait_waitingGrant_same hpending) m) ?_
  cases hk : s.waitingGrant m with
  | none => exact goesFirst_of_not_waiting ((waitingGrant_congr hlane).trans hk) l
  | some k =>
    obtain ⟨hgrant, hwaiting⟩ := waitingGrant_eq_some.1 hk
    exact goesFirst_of_not_clear ((interlockClear_refusedWait hg hphase hpending m).trans (hstays m k hm hgrant hwaiting))

theorem execInterlockWaitExpiry_of_reached (hrun : s.supply.state = .run) (hg : (s.lane l).grant = some g)
    (hphase : g.phase = .waiting) (he : g.waitExpiry ≤ s.time.elapsed) (hpending : (s.lane l).pendingSetup = none) :
    execInterlockWaitExpiry l s = .next ((s.refusedWait l).look l).settle := by
  refine (whileRunning_of_run hrun).trans ?_
  rw [waitingGrant_eq_some.2 ⟨hg, hphase⟩]
  dsimp only
  rw [reach_of_reached he, endGrant_of_no_pending hpending]
  rfl

/-- The levels stand as they stood where no grant is released. -/
theorem settle_refusedWait (hlevels : s.levelLaw) (hg : (s.lane l).grant = some g) (hphase : g.phase = .waiting)
    (hpending : (s.lane l).pendingSetup = none) (hstays : s.partnerStays l) :
    ((s.refusedWait l).look l).settle = s.refusedWait l := by
  rw [look_refusedWait hg hphase hpending hstays]
  exact (sameLevels_refusedWait hg hphase).settle hlevels

theorem refusedWait_of_none (hp : s.handedAt l = none) : s.refusedWait l = s.idled l := by
  rw [State.refusedWait, noticeEnd_of_none hp]

theorem idled_of_no_pending (hpending : (s.lane l).pendingSetup = none) :
    s.idled l = s.setLane l { s.lane l with activity := .idle, grant := none } := by
  rw [State.idled, ← hpending]

theorem noticeEnd_refused (hp : s.handedAt l = some p) :
    s.noticeEnd l .refused = (s.queueVerdict p.head (plainVerdict .denyInterlock)).dropHanded l := by
  unfold State.noticeEnd State.tellRefused
  rw [hp]

/-! ### The partner's grant released as another is refused (R72, R84, R86, R87) -/

theorem goesFirst_of_alone (hm : s.waitingGrant m = some k) (hclear : s.interlockClear m l = true)
    (hl : s.waitingGrant l = none) : s.goesFirst m l = true := by
  unfold State.goesFirst
  rw [hm, hl, hclear]
  rfl

theorem arbiterChoice_of_second (hl : s.goesFirst l m = false) (hm : s.goesFirst m l = true) :
    s.arbiterChoice l m = some m := by
  unfold State.arbiterChoice
  rw [hl, hm]
  rfl

theorem lookOnce_of_choice {q : LaneId} (hq : s.arbiterChoice l m = some q) (hk : s.waitingGrant q = some k) :
    s.lookOnce l m = s.releaseGrant q k := by
  unfold State.lookOnce
  rw [hq]
  dsimp only
  rw [hk]

/-- A lane as it takes the release of a grant (R72). -/
def State.releasedLane (s : State) (m : LaneId) (k : Grant) : Lane :=
  { s.lane m with
    grant := some (s.releasedGrant m k), activity := .released
    encoder := if (s.lane m).setup.kind = .turnstile then 0 else (s.lane m).encoder }

theorem releaseGrant_of_unhanded (h : s.handedAt m = none) (k : Grant) :
    s.releaseGrant m k = s.setLane m (s.releasedLane m k) := by
  have htold : ∀ x : Lane, (s.setLane m x).tellReleased m = s.setLane m x := fun x => by
    unfold State.tellReleased
    rw [show (s.setLane m x).handedAt m = none from h]
  exact htold _

/-- Neither lane of a pair waits: the arbiter finds nothing to release. -/
theorem look_of_none_waiting (hl : s.waitingGrant l = none) (hpair : ∀ m, s.partnerOf l = some m → s.waitingGrant m = none) :
    s.look l = s :=
  look_of_no_choice fun m hm => arbiterChoice_eq_none (goesFirst_of_not_waiting hl m) (goesFirst_of_not_waiting (hpair m hm) l)

/-- A pair's one waiting grant whose condition holds is released by a look at its partner, and nothing else (R86). -/
theorem look_of_partner_waiting (hpartner : s.partnerOf l = some m) (hl : s.waitingGrant l = none)
    (hm : s.waitingGrant m = some k) (hclear : s.interlockClear m l = true) (hp : s.handedAt m = none) :
    s.look l = s.releaseGrant m k ∧ (s.releaseGrant m k).waitingGrant l = none ∧
      (s.releaseGrant m k).waitingGrant m = none := by
  have hne := (partnerOf_eq_some hpartner).2.2
  have hchoice : s.arbiterChoice l m = some m :=
    arbiterChoice_of_second (goesFirst_of_not_waiting hl m) (goesFirst_of_alone hm hclear hl)
  have hleft : (s.releaseGrant m k).waitingGrant l = none := (waitingGrant_congr (releaseGrant_lane_other k hne)).trans hl
  have hreleased : (s.releaseGrant m k).waitingGrant m = none := by
    rw [releaseGrant_of_unhanded hp]
    exact waitingGrant_of_released (g := s.releasedGrant m k) (by rw [State.setLane_same]; rfl) rfl
  refine ⟨?_, hleft, hreleased⟩
  rw [look_of_choice hpartner hchoice, lookOnce_of_choice hchoice hm]
  exact lookOnce_of_no_choice (arbiterChoice_eq_none (goesFirst_of_not_waiting hleft m) (goesFirst_of_not_waiting hreleased l))

theorem releaseGrant_setup (hp : s.handedAt m = none) (k : Grant) (n : LaneId) :
    ((s.releaseGrant m k).lane n).setup = (s.lane n).setup := by
  rw [releaseGrant_of_unhanded hp]
  by_cases hmn : m = n
  · subst hmn
    rw [State.setLane_same]
    rfl
  · rw [State.setLane_other _ _ _ _ hmn]

/-- The release of a pair's one waiting grant settles with that lane's levels alone taken again. -/
theorem settle_releaseGrant (hlevels : s.levelLaw) (hpartner : s.partnerOf l = some m)
    (hleft : (s.releaseGrant m k).waitingGrant l = none) (hreleased : (s.releaseGrant m k).waitingGrant m = none)
    (hp : s.handedAt m = none) : (s.releaseGrant m k).settle = (s.releaseGrant m k).retakeLevels := by
  refine settle_of_one_changed (l := m) (fun n hmn => ?_) (look_of_none_waiting hreleased fun n hn => ?_)
  · have hlane : (s.releaseGrant m k).lane n = s.lane n := releaseGrant_lane_other k hmn
    have hdriven : (s.releaseGrant m k).driveRelease n = s.driveRelease n := by
      rw [releaseGrant_of_unhanded hp] at hlane ⊢
      exact driveRelease_congr (by rw [hlane]) (by rw [hlane]) rfl rfl rfl
    rw [hdriven, ← hlevels.2.1 n, releaseGrant_of_unhanded hp]
    rfl
  · rw [partnerOf_congr (releaseGrant_setup hp k), (partnerOf_eq_some hpartner).2.1] at hn
    cases hn
    exact hleft

end

/-! ### The held-open timer and the exit allowance (R79, R80) -/

section
variable {s : State} {l : LaneId} {e : Elapsed}

theorem execHeldOpenExpiry_of_reached (hrun : s.supply.state = .run) (htimer : (s.lane l).heldTimer = some e)
    (he : e ≤ s.time.elapsed) : execHeldOpenExpiry l s = .next (s.heldRunsOut l) := by
  refine (whileRunning_of_run hrun).trans ?_
  rw [htimer]
  dsimp only
  rw [reach_of_reached he]

theorem execExitAllowanceExpiry_of_reached (hrun : s.supply.state = .run) (hallowed : (s.lane l).exitAllowance = some e)
    (he : e ≤ s.time.elapsed) :
    execExitAllowanceExpiry l s = .next (s.setLane l { s.lane l with exitAllowance := none }) := by
  refine (whileRunning_of_run hrun).trans ?_
  rw [hallowed]
  dsimp only
  rw [reach_of_reached he]

theorem heldRunsOut_of_held (hopen : (s.lane l).doorOpen = true)
    (hmode : (s.lane l).mode = .secure ∨ (s.lane l).mode = .locked) :
    s.heldRunsOut l = (s.setLane l { s.lane l with heldTimer := none, held := true }).laneAlarm l .heldBegin :=
  if_pos ⟨hopen, hmode⟩

/-- A door left open in SECURE or LOCKED makes its lane HELD, with an alarm (R79). -/
theorem heldRunsOut_alarms (hrun : s.supply.state = .run) (hkind : (s.lane l).setup.kind = .door)
    (hopen : (s.lane l).doorOpen = true) (hmode : (s.lane l).mode = .secure ∨ (s.lane l).mode = .locked) :
    unchangedBut [.lanes, .spool, .link] s (s.heldRunsOut l) ∧
      (s.heldRunsOut l).lanes = putAt s.lanes l { s.lane l with heldTimer := none, held := true } ∧
      entered (.laneAlarm s.now l .heldBegin) s (s.heldRunsOut l) := by
  have hframe := requestEntry_frame (s.setLane l { s.lane l with heldTimer := none, held := true })
    (.laneAlarm s.now l .heldBegin)
  have halarm : s.heldRunsOut l = (s.setLane l { s.lane l with heldTimer := none, held := true }).requestEntry
      (.laneAlarm s.now l .heldBegin) := by
    rw [heldRunsOut_of_held hopen hmode]
    exact laneAlarm_of_used (s := s.setLane l _) hrun (by rw [State.setLane_same]; exact hkind) _
  rw [halarm]
  exact ⟨(frame_setLane l _ (.refl _ _) (by decide)).trans (hframe.mono (by decide)), hframe.same (b := .lanes) (by decide),
    entered_requestEntry _ rfl rfl⟩

end

/-! ### What becomes of a handed punch as its grant ends (R30, R53, R57) -/

section
variable {s w t : State} {l : LaneId} {p : HandedPunch}

/-- The slot of a handed punch loses the lane's mark, and no other slot changes (R30). -/
theorem handedDropped.slots (h : handedDropped w t l) (hroster : w.roster = s.roster) (hp : w.handedAt l = some p) :
    t.roster = { s.roster with slots := t.roster.slots } ∧ (∀ a, p.slot ≠ some a → t.slot a = s.slot a) ∧
      ∀ a, p.slot = some a → s.isDamaged a = false → (s.slot a).status ≠ .free → (s.slot a).mark = some l →
        t.slot a = { s.slot a with mark := none } := by
  refine ⟨h.roster.trans (by rw [hroster]), fun a ha => ?_, fun a ha hd hfree hmark => ?_⟩
  · refine (h.others a fun q hq => ?_).trans (slot_congr hroster a)
    cases hp.symm.trans hq
    exact ha
  · rw [h.cleared p a hp ha (by rw [isDamaged_congr hroster, hd]) (by rw [slot_congr hroster]; exact hfree),
      slot_congr hroster, Slot.unmarked, if_pos hmark]

end

/-- What the end of a grant whose time ran out does with the punch handed on with it (R30, R57, R73). -/
theorem timedOut_of_handed {s : State} {l : LaneId} {g : Grant} {p : HandedPunch} (hp : s.handedAt l = some p)
    (hsound : s.soundWords) (hpolled : s.inPollSet p.head = true) (habsent : ∀ q ∈ s.punch.verdicts, q.head ≠ p.head) :
    unchangedBut [.lanes, .punch, .roster, .link] s (s.timedOut l g) ∧
      (s.timedOut l g).punch = { s.punch with
        handed := putAt s.punch.handed l none
        verdicts := s.punch.verdicts ++ (if g.passageSeen = true then [] else [⟨p.head, ⟨.finish, .none, false⟩⟩]) } ∧
      (s.timedOut l g).link = (if g.passageSeen = true then s.link
        else (s.sendReport (.void p.stamp l p.head p.badge p.slot p.shown .expiry)).link) ∧
      ∃ w, w.roster = s.roster ∧ w.handedAt l = some p ∧ handedDropped w (s.noticeEnd l g.timedEnd) l := by
  have htold := expiryTold_frame s l g p
  have hroster : (s.expiryTold l g p).roster = s.roster := htold.same (b := .roster) (by decide)
  have hpunch := expiryTold_punch (l := l) (g := g) hpolled habsent
  have hhanded : (s.expiryTold l g p).handedAt l = some p := by rw [State.handedAt, hpunch]; exact hp
  have hdropped := dropHanded_handedDropped (soundWords_congr hsound hroster) l
  rw [← noticeEnd_timedEnd hp] at hdropped
  have hout := timedOut_frame s l g
  refine ⟨(htold.mono (by decide)).trans ((hdropped.frame.mono (by decide)).trans (hout.mono (by decide))), ?_, ?_,
    _, hroster, hhanded, hdropped⟩
  · exact (hout.same (b := .punch) (by decide)).trans (hdropped.punch.trans (by rw [hpunch]))
  · exact (hout.same (b := .link) (by decide)).trans
      ((hdropped.frame.same (b := .link) (by decide)).trans (expiryTold_link s l g p))

/-- The partner's waiting grant, its condition no longer barred, is released as a lane's own is refused (R72, R86, R87). -/
theorem refusal_releases_partner {s : State} {l m : LaneId} {g k : Grant} (hrun : s.supply.state = .run)
    (hg : (s.lane l).grant = some g) (hphase : g.phase = .waiting) (hpending : (s.lane l).pendingSetup = none)
    (hp : s.handedAt l = none) (hpartner : s.partnerOf l = some m) (hk : (s.lane m).grant = some k)
    (hwaiting : k.phase = .waiting) (hseen : k.passageSeen = false) (hclear : s.interlockClear m l = true)
    (hpm : s.handedAt m = none) (hevacuating : s.inputs.evacuating = false) (hhold : s.inputs.releaseHolds[m] = none)
    (hlevels : s.levelLaw) : ∃ u, ((s.refusedWait l).look l).settle = u ∧ unchangedBut [.lanes, .inputs] s u ∧
      (u.lane l).activity = .idle ∧ (u.lane l).grant = none ∧ (u.lane m).activity = .released ∧
      u.inputs.drivenRelease[m] = true ∧ (u.lane m).grant = some { k with
        phase := .released, releaseExpiry := some (s.time.elapsed + 1000 * (s.lane m).setup.releaseTime) } := by
  have hsame := sameLevels_refusedWait hg hphase
  obtain ⟨hkind, -, hne⟩ := partnerOf_eq_some hpartner
  have hlane_l := refusedWait_lane_same (s := s) hpending
  have hlane_m : (s.refusedWait l).lane m = s.lane m := refusedWait_lane_other hne.symm
  have hpartner' : (s.refusedWait l).partnerOf l = some m := (partnerOf_congr hsame.setup l).trans hpartner
  have hmwaits := (waitingGrant_congr hlane_m).trans (waitingGrant_eq_some.2 ⟨hk, hwaiting⟩)
  have hfree := (interlockClear_refusedWait hg hphase hpending m).trans hclear
  have hlwaits := refusedWait_waitingGrant_same (s := s) hpending
  have hlaw := hsame.levelLaw hlevels
  rw [refusedWait_of_none hp] at hlane_l hlane_m hpartner' hmwaits hfree hlwaits hlaw ⊢
  obtain ⟨hlook, hleft, hreleased⟩ := look_of_partner_waiting hpartner' hlwaits hmwaits hfree hpm
  rw [hlook, settle_releaseGrant hlaw hpartner' hleft hreleased hpm]
  have hrelease := releaseGrant_of_unhanded (s := s.idled l) hpm k
  have hother := (releaseGrant_lane_other (s := s.idled l) k hne).trans hlane_l
  rw [hrelease] at hother ⊢
  have hframe : unchangedBut [.lanes] s ((s.idled l).setLane m ((s.idled l).releasedLane m k)) :=
    frame_setLane m _ (idled_frame s l) (by decide)
  refine ⟨_, rfl, (hframe.mono (by decide)).trans (retakeLevels_frame _), ?_, ?_, ?_, ?_, ?_⟩
  · rw [retakeLevels_lane, hother]
  · rw [retakeLevels_lane, hother]
  · rw [retakeLevels_lane, State.setLane_same]
    rfl
  · rw [retakeLevels_drivenRelease]
    refine (driveRelease_of_free (s := (s.idled l).setLane m _) hrun hevacuating hhold).trans ?_
    rw [State.setLane_same]
    exact Lane.wantsRelease_of_released (g := (s.idled l).releasedGrant m k) rfl rfl
      ((congrArg (fun x : Lane => x.setup.kind) hlane_m).trans hkind) rfl hseen
  · rw [retakeLevels_lane, State.setLane_same]
    dsimp only [State.releasedLane, State.releasedGrant]
    rw [hlane_m]
    rfl

/-- Settles O32: each timer by the state its expiry leaves, whose levels then settle with the one lane's output at most. -/
theorem laneTimersRunOut : Obligations.LaneTimersRunOut := by
  unfold Obligations.LaneTimersRunOut
  refine ⟨?_, ?_, ?_, ?_⟩
  · intro s l g e hrun hg hphase hexpiry he hpair hpending ended
    have hexec : exec (.releaseExpiry l) s = _ := execReleaseExpiry_of_reached hrun hg hphase hexpiry he hpending hpair
    have hended : ended (s.timedOut l g).settle := by
      have hlane := settle_timedOut_lane (g := g) hpending
      exact ⟨by rw [hlane], by rw [hlane], by rw [hlane], by rw [hlane]; rfl⟩
    refine ⟨fun hp => ⟨_, hexec, (releaseExpiry_of_unhanded hrun hg hphase hexpiry he hpair hpending hp).2, hended⟩, ?_⟩
    intro p hp hlevels hform hsound hpolled habsent
    obtain ⟨hframe, hpunch, hlink, w, hroster, hhanded, hdropped⟩ :=
      timedOut_of_handed (g := g) hp hsound hpolled habsent
    have hsettle := settle_timedOut (g := g) hlevels hpending hpair (hframe.same (b := .inputs) (by decide))
      (hframe.same (b := .supply) (by decide))
    have hretaken := retakeLevels_frame (s.timedOut l g)
    rw [← hsettle] at hretaken
    have hslots := hdropped.slots hroster hhanded
    have hrost : (s.timedOut l g).settle.roster = (s.noticeEnd l g.timedEnd).roster :=
      (hretaken.same (b := .roster) (by decide)).trans ((timedOut_frame s l g).same (b := .roster) (by decide))
    refine ⟨_, hexec, (hframe.mono (by decide)).trans (hretaken.mono (by decide)), hended, fun k hk => ?_,
      (hretaken.same (b := .punch) (by decide)).trans hpunch, (hretaken.same (b := .link) (by decide)).trans hlink, ?_,
      fun a ha => (slot_congr hrost a).trans (hslots.2.1 a ha),
      fun a ha hd hfree hmark => (slot_congr hrost a).trans (hslots.2.2 a ha hd hfree hmark)⟩
    · rw [hsettle, retakeLevels_lane, timedOut_lane_other hk.symm, ← hlevels.1 k]
    · rw [hrost]
      exact hslots.1
  · intro s l e hrun htimer he
    have hexec : exec (.heldOpenExpiry l) s = _ := execHeldOpenExpiry_of_reached hrun htimer he
    refine ⟨fun hshut => hexec.trans (congrArg _ (if_neg hshut)), fun hopen hmode hkind => ?_⟩
    exact ⟨_, hexec, heldRunsOut_alarms hrun hkind hopen hmode⟩
  · intro s l e hrun hallowed he
    exact execExitAllowanceExpiry_of_reached hrun hallowed he
  · intro s l g hrun hlevels hg hphase he hpending ended
    have hexec : exec (.interlockWaitExpiry l) s = _ := execInterlockWaitExpiry_of_reached hrun hg hphase he hpending
    refine ⟨fun hstays => ⟨fun hp => ?_, fun p hp hform hsound hpolled habsent => ?_⟩, ?_⟩
    · rw [hexec, settle_refusedWait hlevels hg hphase hpending hstays, refusedWait_of_none hp, idled_of_no_pending hpending]
    · have hqueued := queueVerdict_frame s p.head (plainVerdict .denyInterlock)
      have hpunch := queueVerdict_of_absent (plainVerdict .denyInterlock) hpolled habsent
      have hroster : (s.queueVerdict p.head (plainVerdict .denyInterlock)).roster = s.roster :=
        hqueued.same (b := .roster) (by decide)
      have hhanded : (s.queueVerdict p.head (plainVerdict .denyInterlock)).handedAt l = some p := by rw [hpunch]; exact hp
      have hdropped := dropHanded_handedDropped (soundWords_congr hsound hroster) l
      rw [← noticeEnd_refused hp] at hdropped
      have hidled := idled_frame (s.noticeEnd l .refused) l
      have hslots := hdropped.slots hroster hhanded
      have hrost : (s.refusedWait l).roster = (s.noticeEnd l .refused).roster := hidled.same (b := .roster) (by decide)
      refine ⟨s.refusedWait l, ?_, (hqueued.mono (by decide)).trans ((hdropped.frame.mono (by decide)).trans
        (hidled.mono (by decide))), lanes_eq_putAt (refusedWait_lane_same hpending) fun _ => refusedWait_lane_other, ?_, ?_,
        fun a ha => (slot_congr hrost a).trans (hslots.2.1 a ha),
        fun a ha hd hfree hmark => (slot_congr hrost a).trans (hslots.2.2 a ha hd hfree hmark)⟩
      · rw [hexec, settle_refusedWait hlevels hg hphase hpending hstays]
      · exact (hidled.same (b := .punch) (by decide)).trans (hdropped.punch.trans (by rw [hpunch]; rfl))
      · rw [hrost]
        exact hslots.1
    · intro m k hp hpartner hk hwaiting hseen hclear hpm hevacuating hhold
      rw [hexec]
      obtain ⟨u, hu, hreleased⟩ := refusal_releases_partner hrun hg hphase hpending hp hpartner hk hwaiting hseen hclear hpm
        hevacuating hhold hlevels
      exact ⟨u, congrArg _ hu, hreleased⟩

end Sys2Proof.Machine
end

section
/-! ## The state that reset leaves (R63, R93, R166, R167, R191, R196) -/
namespace Sys2Proof.Machine

theorem reset_slot (a : Nat) : State.reset.slot a = Slot.freeSlot := rfl

theorem reset_isDamaged (a : Nat) : State.reset.isDamaged a = false := rfl

theorem reset_lane (l : LaneId) : State.reset.lane l = Lane.initial := Vector.getElem_replicate _

theorem reset_inPair (l : LaneId) : State.reset.inPair l = false := by
  revert l; decide

/-- A vector of equal values holds that value at every index. -/
theorem replicate_get {α : Type} {n : Nat} (x : α) (i : Fin n) : (Vector.replicate n x)[i] = x := Vector.getElem_replicate _

theorem countSlots_eq_zero {p : Nat → Bool} (h : ∀ a, p a = false) : countSlots p = 0 := by
  simp [countSlots, h]

theorem reset_emptyLaw : State.reset.emptyLaw := State.emptyLaw_of_cells (fun _ h => absurd h List.not_mem_nil) rfl

theorem reset_badgeLaw : State.reset.badgeLaw :=
  State.badgeLaw_of_cells rfl (fun _ h => absurd h List.not_mem_nil) fun _ h => absurd h List.not_mem_nil

theorem reset_laneLaw : State.reset.laneLaw := by
  refine State.laneLaw_of_rest fun l => ?_
  rw [reset_lane]
  exact ⟨rfl, rfl, rfl, replicate_get none l, replicate_get none l⟩

theorem reset_levelLaw : State.reset.levelLaw := ⟨by decide, by decide, by decide⟩

theorem reset_modeLaw : State.reset.modeLaw := by
  intro l
  have hcalm : State.reset.inputs.evacuating = false := rfl
  rw [reset_lane, reset_inPair, hcalm]
  simp [Lane.initial]

theorem reset_countLaw : State.reset.countLaw :=
  ⟨(countSlots_eq_zero fun a => by simp [State.statusOf, reset_isDamaged, reset_slot, Slot.freeSlot]).symm,
    (countSlots_eq_zero reset_isDamaged).symm⟩

/-- Settles O4: each block holds its power-on values, and the laws hold of a part whose roster is empty and whose lanes rest. -/
theorem resetLeavesPowerOnValues : Obligations.ResetLeavesPowerOnValues := by
  unfold Obligations.ResetLeavesPowerOnValues
  have hranges : State.reset.obeys .ranges := obeys_reset .ranges
  obtain ⟨htime, helapsed, hgeneration, hepoch⟩ := hranges
  have hnone : ∀ c, c ∉ State.reset.roster.slots.cells := fun _ => List.not_mem_nil
  refine ⟨⟨?clock, fun a => ⟨rfl, rfl⟩, ?roster, ?lists, ?punch, ?lanes, ?bells, ?inputs, ?banks, ?spool, ?link, ?setup, ?supply,
    rfl⟩, ?laws⟩
  case clock => decide
  case roster => decide
  case lists => decide
  case punch =>
    exact ⟨rfl, rfl, fun h => replicate_get _ h.index, rfl, rfl, fun l => replicate_get _ l, fun l => replicate_get _ l⟩
  case lanes => exact fun l => ⟨replicate_get _ l, replicate_get _ l, reset_lane l⟩
  case bells =>
    exact ⟨fun b => ⟨replicate_get _ b, replicate_get _ b, replicate_get _ b, replicate_get _ b⟩, rfl⟩
  case inputs =>
    exact ⟨rfl, rfl, rfl, fun i => replicate_get _ i,
      fun l => ⟨replicate_get _ l, replicate_get _ l, replicate_get _ l, replicate_get _ l⟩,
      fun k => ⟨replicate_get _ k, replicate_get _ k, replicate_get _ k⟩⟩
  case banks =>
    exact ⟨rfl, rfl, rfl, rfl, rfl, rfl, rfl, fun i => replicate_get _ i, fun i => replicate_get _ i,
      fun i => replicate_get _ i, fun i => replicate_get _ i, fun i => replicate_get _ i⟩
  case spool => decide
  case link => decide
  case setup => exact ⟨rfl, rfl, fun k => replicate_get _ k⟩
  case supply => decide
  case laws =>
    refine ⟨⟨Tab.empty_wf _, Tab.empty_wf _⟩, fun _ _ => rfl, hepoch, obeys_reset .spool, obeys_reset .verdicts,
      obeys_reset .link, reset_levelLaw, htime, helapsed, hgeneration, reset_emptyLaw,
      State.listLaw_of_off (fun c h => absurd h (hnone c)) rfl rfl, reset_laneLaw,
      fun l w h => ?_, reset_modeLaw, State.markLaw_of_cells fun c h => absurd h (hnone c), reset_badgeLaw,
      fun a _ => ⟨reset_slot a, reset_isDamaged a⟩, reset_countLaw⟩
    have hwait : State.reset.punch.waits[l] = none := replicate_get none l
    exact absurd (hwait.symm.trans h) nofun

end Sys2Proof.Machine
end

section
/-! ## Polls, answers, misses and strays on the gate line (R37, R38, R39) -/
namespace Sys2Proof.Machine

/-! ### The head polled next (R37) -/

theorem mem_allHeads (h : Head) : h ∈ allHeads := by
  obtain ⟨l, d⟩ := h
  revert l
  cases d <;> decide

theorem allHeads_sorted : allHeads.Pairwise fun h k => h.address < k.address := by decide

/-- A search in address order finds the head of the lowest address among those that pass its test. -/
theorem find?_allHeads {h : Head} {p : Head → Bool} (hp : p h = true) (hlow : ∀ k, p k = true → h.address ≤ k.address) :
    allHeads.find? p = some h := by
  obtain ⟨before, after, hsplit⟩ := List.append_of_mem (mem_allHeads h)
  have hsorted := allHeads_sorted
  rw [hsplit] at hsorted ⊢
  rw [List.find?_eq_some_iff_append]
  refine ⟨hp, before, after, rfl, fun k hk => ?_⟩
  have hkh : k.address < h.address := (List.pairwise_append.1 hsorted).2.2 k hk h List.mem_cons_self
  cases hpk : p k with
  | false => rfl
  | true => exact absurd (hlow k hpk) (by omega)

section
variable {s t : State} {h : Head}

theorem mem_pollSet {k : Head} : k ∈ s.pollSet ↔ s.inPollSet k = true := by
  simp [State.pollSet, mem_allHeads]

theorem pollSet_head (hset : s.inPollSet h = true) (hlow : ∀ k, s.inPollSet k = true → h.address ≤ k.address) :
    s.pollSet.head? = some h := by
  rw [State.pollSet, List.head?_filter, find?_allHeads hset hlow]

theorem nextHead_of_above {p : Head} (hset : s.inPollSet h = true) (hp : s.punch.position = some p)
    (habove : p.address < h.address) (hlow : ∀ k, s.inPollSet k = true → p.address < k.address → h.address ≤ k.address) :
    s.nextHead = some h := by
  have hfind : (s.pollSet.find? fun k => decide (p.address < k.address)) = some h := by
    rw [State.pollSet, List.find?_filter]
    refine find?_allHeads (by simp [hset, habove]) fun k hk => ?_
    obtain ⟨hk, hpk⟩ := of_decide_eq_true hk
    exact hlow k hk (of_decide_eq_true hpk)
  simp only [State.nextHead, hp, hfind]

theorem nextHead_of_none_above (hset : s.inPollSet h = true)
    (hnone : ∀ p ∈ s.punch.position, ∀ k, s.inPollSet k = true → k.address ≤ p.address)
    (hlow : ∀ k, s.inPollSet k = true → h.address ≤ k.address) : s.nextHead = some h := by
  unfold State.nextHead
  split
  · exact pollSet_head hset hlow
  · next p hp =>
    have hfind : (s.pollSet.find? fun k => decide (p.address < k.address)) = none :=
      List.find?_eq_none.2 fun k hk => by simpa using hnone p hp k (mem_pollSet.1 hk)
    rw [hfind]
    exact pollSet_head hset hlow

theorem nextHead_of_empty (hempty : ∀ k, s.inPollSet k = false) : s.nextHead = none := by
  have hset : s.pollSet = [] := List.eq_nil_iff_forall_not_mem.2 fun k hk => by simp [mem_pollSet, hempty] at hk
  unfold State.nextHead
  rw [hset]
  cases s.punch.position <;> rfl

theorem exec_poll_of_next (hrun : s.supply.state = .run) (hout : s.punch.outstanding = none) (hnext : s.nextHead = some h) :
    exec .poll s = .next (s.setPunch { s.punch with
      verdicts := s.punch.verdicts.tail
      lastSent := match s.punch.verdicts.head? with
        | some q => some q
        | none => s.punch.lastSent
      position := some h, outstanding := some ⟨h, s.time.elapsed + 15⟩ }) := by
  change execPoll s = _
  refine (whileRunning_of_run hrun).trans (congrArg _ ?_)
  simp only [hout, hnext, State.sendVerdict]
  cases hq : s.punch.verdicts with
  | nil =>
    simp only [hq]
    rfl
  | cons q rest => rfl

theorem exec_poll_of_quiet (hrun : s.supply.state = .run) (hquiet : s.punch.outstanding.isSome = true ∨ s.nextHead = none) :
    exec .poll s = .next s := by
  change execPoll s = _
  refine (whileRunning_of_run hrun).trans (congrArg _ ?_)
  rcases hquiet with hout | hnext
  · obtain ⟨p, hp⟩ := Option.isSome_iff_exists.1 hout
    simp only [hp]
  · simp only [hnext]
    cases s.punch.outstanding <;> rfl

/-! ### What ends a poll (R38, R39) -/

theorem openPoll_of_within {p : OpenPoll} (hout : s.punch.outstanding = some p) (hin : s.time.elapsed ≤ p.expiry) :
    s.openPoll = some p := by
  simp only [State.openPoll, hout]
  exact if_pos hin

theorem openPoll_of_past (hpast : ∀ p ∈ s.punch.outstanding, p.expiry < s.time.elapsed) : s.openPoll = none := by
  unfold State.openPoll
  split
  · rfl
  · next p hp => exact if_neg (Nat.not_le.2 (hpast p hp))

theorem isAnswer_of_polled {e : Elapsed} (hout : s.punch.outstanding = some ⟨h, e⟩) (hin : s.time.elapsed ≤ e) :
    s.isAnswer h = true := by
  simp [State.isAnswer, openPoll_of_within hout hin]

theorem isAnswer_of_other {e : Elapsed} {k : Head} (hout : s.punch.outstanding = some ⟨h, e⟩) (hin : s.time.elapsed ≤ e)
    (hk : k ≠ h) : s.isAnswer k = false := by
  simp [State.isAnswer, openPoll_of_within hout hin, hk.symm]

theorem isAnswer_of_past (hpast : ∀ p ∈ s.punch.outstanding, p.expiry < s.time.elapsed) (k : Head) :
    s.isAnswer k = false := by
  simp [State.isAnswer, openPoll_of_past hpast]

theorem exec_garbledAnswer (hrun : s.supply.state = .run) : exec .garbledAnswer s = .next s.noAnswer :=
  whileRunning_of_run hrun

theorem exec_idle (hrun : s.supply.state = .run) (k : Head) :
    exec (.idle k) s = .next (if s.isAnswer k then s.endPoll.countAnswer k else s.noAnswer) := by
  change execIdle k s = _
  exact whileRunning_of_run hrun

theorem exec_idle_of_no_answer (hrun : s.supply.state = .run) {k : Head} (hno : s.isAnswer k = false) :
    exec (.idle k) s = .next s.noAnswer := by simp [exec_idle hrun, hno]

theorem exec_punch_of_no_answer (hrun : s.supply.state = .run) {k : Head} (hno : s.isAnswer k = false) (badge : BitVec 32)
    (intent : Intent) : exec (.punch k badge intent) s = .next s.noAnswer := by
  change execPunch k badge intent s = _
  refine (whileRunning_of_run hrun).trans (congrArg _ ?_)
  rw [hno]
  exact if_neg Bool.false_ne_true

theorem exec_pollTimeout {p : OpenPoll} (hrun : s.supply.state = .run) (hout : s.punch.outstanding = some p)
    (hdue : p.expiry ≤ s.time.elapsed) : exec .pollTimeout s = .next (s.endPoll.countMiss p.head) := by
  change execPollTimeout s = _
  refine (whileRunning_of_run hrun).trans (congrArg _ ?_)
  simp only [hout, reach_of_reached hdue]

/-! ### Misses and answers counted (R39) -/

theorem laneAlarm_of_kind (hrun : s.supply.state = .run) {l : LaneId} (hused : (s.lane l).setup.kind ≠ .unused)
    (cause : AlarmCause) : s.laneAlarm l cause = s.requestEntry (.laneAlarm s.now l cause) := if_neg (by simp [hrun, hused])

theorem used_of_inPollSet (hset : s.inPollSet h = true) : (s.lane h.lane).setup.kind ≠ .unused := by
  simpa using (Bool.and_eq_true_iff.1 hset).1

/-- A head's status written with an alarm of its lane. -/
theorem setHead_alarmed (hrun : s.supply.state = .run) (hused : (s.lane h.lane).setup.kind ≠ .unused) (x : HeadState)
    (cause : AlarmCause) :
    unchangedBut [.punch, .spool, .link] s ((s.setHead h x).laneAlarm h.lane cause) ∧
      ((s.setHead h x).laneAlarm h.lane cause).punch = { s.punch with heads := putAt s.punch.heads h.index x } ∧
      entered (.laneAlarm s.now h.lane cause) s ((s.setHead h x).laneAlarm h.lane cause) := by
  rw [laneAlarm_of_kind (s := s.setHead h x) hrun hused]
  have hframe := requestEntry_frame (s.setHead h x) (.laneAlarm (s.setHead h x).now h.lane cause)
  exact ⟨(frame_setPunch _ (.refl _ _) (by decide)).trans (hframe.mono (by decide)), hframe.same (b := .punch) (by decide),
    entered_requestEntry _ rfl rfl⟩

theorem countAnswer_of_active (hactive : (s.headAt h).silent = false) : s.countAnswer h = s.setHead h ⟨false, 0⟩ := by
  simp [State.countAnswer, hactive]

theorem countAnswer_of_silent (hsilent : (s.headAt h).silent = true) :
    s.countAnswer h = (s.setHead h ⟨false, 0⟩).laneAlarm h.lane .headBack := by
  simp [State.countAnswer, hsilent]

theorem countMiss_of_silent (hsilent : (s.headAt h).silent = true) : s.countMiss h = s := by
  simp [State.countMiss, hsilent]

theorem countMiss_of_few (hset : s.inPollSet h = true) (hactive : (s.headAt h).silent = false)
    (hfew : (s.headAt h).misses < 2) : s.countMiss h = s.setHead h ⟨false, (s.headAt h).misses + 1⟩ := by
  have hthird : ¬ 3 ≤ (s.headAt h).misses + 1 := by omega
  simp [State.countMiss, hset, hactive, hthird]

theorem countMiss_of_third (hset : s.inPollSet h = true) (hactive : (s.headAt h).silent = false)
    (hthird : (s.headAt h).misses = 2) : s.countMiss h = (s.setHead h ⟨true, 3⟩).laneAlarm h.lane .headSilent := by
  simp [State.countMiss, hset, hactive, hthird]

end

/-- Settles O25: the search in address order gives the head polled, and each end of a poll is one branch of the count of its
head's misses. -/
theorem pollsAreSentAnsweredAndMissed : Obligations.PollsAreSentAnsweredAndMissed := by
  unfold Obligations.PollsAreSentAnsweredAndMissed
  refine ⟨⟨fun s h hrun hout hset hnext => exec_poll_of_next hrun hout ?_,
    fun s hrun hempty => exec_poll_of_quiet hrun (.inr (nextHead_of_empty hempty)),
    fun s p hrun hout => exec_poll_of_quiet hrun (.inl (by simp [hout]))⟩, fun s h hrun => ?_⟩
  · rcases hnext with ⟨p, hp, habove, hlow⟩ | ⟨hnone, hlow⟩
    · exact nextHead_of_above hset hp habove hlow
    · exact nextHead_of_none_above hset hnone hlow
  · have hgarbled : ∀ e, s.punch.outstanding = some ⟨h, e⟩ → s.time.elapsed ≤ e →
        exec .garbledAnswer s = .next ((s.lineError.endPoll).countMiss h) := fun e hout hin => by
      rw [exec_garbledAnswer hrun, State.noAnswer, openPoll_of_within hout hin]
    have hidle : ∀ e, s.punch.outstanding = some ⟨h, e⟩ → s.time.elapsed ≤ e →
        exec (.idle h) s = .next (s.endPoll.countAnswer h) := fun e hout hin => by
      rw [exec_idle hrun, if_pos (isAnswer_of_polled hout hin)]
    refine ⟨fun e hout hin hactive => ?_, fun e hout hin hsilent hused => ⟨_, hidle e hout hin, ?_⟩,
      fun e hout hset hactive hfew => ⟨fun hdue => ?_, fun hin => ?_⟩,
      fun e hout hset hactive hthird => ⟨fun hdue => ⟨_, exec_pollTimeout hrun hout hdue, ?_⟩,
        fun hin => ⟨_, hgarbled e hout hin, ?_⟩⟩,
      fun e hout hdue hsilent => ?_, fun e k badge intent hout hin hk => ?_, whileRunning_of_run hrun, fun hpast => ?_⟩
    · rw [hidle e hout hin, countAnswer_of_active (s := s.endPoll) hactive]
      rfl
    · rw [countAnswer_of_silent (s := s.endPoll) hsilent]
      obtain ⟨hframe, hpunch, hentry⟩ := setHead_alarmed (s := s.endPoll) hrun hused ⟨false, 0⟩ .headBack
      exact ⟨(frame_setPunch _ (.refl _ _) (by decide)).trans hframe, hpunch, hentry.from_same rfl rfl⟩
    · rw [exec_pollTimeout hrun hout hdue, countMiss_of_few (s := s.endPoll) hset hactive hfew]
      rfl
    · rw [hgarbled e hout hin, countMiss_of_few (s := s.lineError.endPoll) hset hactive hfew]
      rfl
    · rw [countMiss_of_third (s := s.endPoll) hset hactive hthird]
      obtain ⟨hframe, hpunch, hentry⟩ :=
        setHead_alarmed (s := s.endPoll) hrun (used_of_inPollSet hset) ⟨true, 3⟩ .headSilent
      exact ⟨(frame_setPunch _ (.refl _ _) (by decide)).trans hframe, hpunch, hentry.from_same rfl rfl⟩
    · rw [countMiss_of_third (s := s.lineError.endPoll) hset hactive hthird]
      obtain ⟨hframe, hpunch, hentry⟩ :=
        setHead_alarmed (s := s.lineError.endPoll) hrun (used_of_inPollSet hset) ⟨true, 3⟩ .headSilent
      exact ⟨(frame_setPunch _ (frame_setPunch _ (.refl _ _) (by decide)) (by decide)).trans hframe, hpunch,
        hentry.from_same rfl rfl⟩
    · rw [exec_pollTimeout hrun hout hdue, countMiss_of_silent (s := s.endPoll) hsilent]
      rfl
    · have hno := isAnswer_of_other hout hin hk
      rw [exec_idle_of_no_answer hrun hno, exec_punch_of_no_answer hrun hno, exec_garbledAnswer hrun]
      exact ⟨rfl, rfl⟩
    · have hstray : s.noAnswer = s.lineError := by rw [State.noAnswer, openPoll_of_past hpast]
      have hno := isAnswer_of_past hpast h
      rw [exec_garbledAnswer hrun, exec_idle_of_no_answer hrun hno, hstray]
      refine ⟨rfl, rfl, fun badge intent => ?_⟩
      rw [exec_punch_of_no_answer hrun hno, hstray]
      rfl

end Sys2Proof.Machine
end

section
/-! ## The byte layouts of head answers, verdicts and shift totals (R38, R43, R182) -/
namespace Sys2Proof.Machine

/-! ### Numbers as bytes -/

@[simp] theorem bigEndian_length (n v : Nat) : (bigEndian n v).length = n := by
  induction n with
  | zero => rfl
  | succ n ih => simp [bigEndian, ih]

/-- Bytes that spell a number, read after others, shift what was read and add the number. -/
theorem foldl_bigEndian (n v acc : Nat) :
    (bigEndian n v).foldl (fun acc b => acc * 256 + b.toNat) acc = acc * 256 ^ n + v % 256 ^ n := by
  induction n generalizing acc with
  | zero => simp [bigEndian, Nat.mod_one]
  | succ n ih =>
    have hdigits : v % 256 ^ (n + 1) = v % 256 ^ n + 256 ^ n * (v / 256 ^ n % 256) := by
      rw [pow_succ, Nat.mod_mul]
    rw [bigEndian, List.foldl_cons, ih, BitVec.toNat_ofNat, hdigits]
    ring

theorem fromBytes_bigEndian (n v : Nat) : fromBytes (bigEndian n v) = v % 256 ^ n := by
  rw [fromBytes, foldl_bigEndian, Nat.zero_mul, Nat.zero_add]

theorem stampBytes_of_day {x : Stamp} (hx : x < 65536 * 86400) :
    stampBytes (some x) = bigEndian 2 (x / 86400) ++ bigEndian 3 (x % 86400) := by
  have hday : x / 86400 < 65536 := Nat.div_lt_of_lt_mul (by rwa [Nat.mul_comm])
  exact if_pos (Nat.le_of_lt_succ hday)

@[simp] theorem stampBytes_length (o : Option Stamp) : (stampBytes o).length = 5 := by
  unfold stampBytes
  split
  · rfl
  · split_ifs <;> simp

/-! ### The check byte (R38, R43) -/

theorem byteSum_append (k l : List Byte) : byteSum (k ++ l) = byteSum k + byteSum l := by
  have hfold : ∀ (l : List Byte) (acc : Byte), l.foldl (· + ·) acc = acc + byteSum l := by
    intro l
    induction l with
    | nil => intro acc; simp [byteSum]
    | cons b rest ih =>
      intro acc
      rw [byteSum, List.foldl_cons, List.foldl_cons, ih, ih]
      ring
  rw [byteSum, List.foldl_append, hfold l]
  rfl

theorem byteSum_cons (b : Byte) (l : List Byte) : byteSum (b :: l) = b + byteSum l := by
  rw [← List.singleton_append, byteSum_append]
  simp [byteSum]

theorem byteSum_checked (l : List Byte) : byteSum (checked l) = 0 := by
  rw [checked, byteSum_append]
  simp [byteSum]

/-- One character changed to another changes the sum. -/
theorem byteSum_set_ne {l : List Byte} {i : Nat} {b : Byte} (hi : i < l.length) (hne : l[i] ≠ b) :
    byteSum (l.set i b) ≠ byteSum l := by
  have hl : l = l.take i ++ l[i] :: l.drop (i + 1) := by simp
  rw [List.set_eq_take_append_cons_drop, if_pos hi]
  conv => rhs; rhs; rw [hl]
  rw [byteSum_append, byteSum_append, byteSum_cons, byteSum_cons]
  simpa using hne.symm

theorem readAnswer_of_sum {l : List Byte} (hsum : byteSum l ≠ 0) : readAnswer l = .garbled := if_pos hsum

/-- The characters of a PUNCH read back (R38). -/
theorem readAnswer_punchBytes (badge : BitVec 32) (intent : Intent) :
    readAnswer (punchBytes badge intent) = .punch badge intent := by
  have hsum : byteSum (punchBytes badge intent) = 0 := byteSum_checked _
  have hbadge : BitVec.ofNat 32 (fromBytes (bigEndian 4 badge.toNat)) = badge := by
    have hlt : badge.toNat < 256 ^ 4 := badge.isLt
    rw [fromBytes_bigEndian, Nat.mod_eq_of_lt hlt, BitVec.ofNat_toNat, BitVec.setWidth_eq]
  unfold readAnswer
  rw [if_neg (not_not.2 hsum)]
  conv => rhs; rw [← hbadge]
  cases intent <;> rfl

/-! ### Verdicts (R43) -/

/-- The verdict code of a byte, the first for a byte of none. -/
def verdictCodeOf (b : Byte) : VerdictCode :=
  ([.release, .releaseNoted, .wait, .busy, .again, .finish, .denyUnknown, .denyLane, .denyWindow, .denyPassback, .denyLocked,
    .denyInUse, .denyInterlock, .denyRefused].find? fun c => decide (c.byte = b)).getD .release

/-- The message of a byte, the first for a byte of none. -/
def messageOfByte (b : Byte) : Message :=
  ([.none, .inward, .outward, .breakOut, .back, .pass].find? fun m => decide (m.byte = b)).getD .none

theorem verdictCodeOf_byte (c : VerdictCode) : verdictCodeOf c.byte = c := by cases c <;> rfl

theorem messageOfByte_byte (m : Message) : messageOfByte m.byte = m := by cases m <;> rfl

theorem eq_of_verdictBytes {v w : Verdict} (h : v.bytes = w.bytes) : v = w := by
  obtain ⟨code, message, mark⟩ := v
  obtain ⟨code', message', mark'⟩ := w
  simp only [Verdict.bytes, checked, List.cons_append, List.nil_append, List.cons.injEq] at h
  obtain ⟨hcode, hmessage, hmark, -⟩ := h
  have hcode : code = code' := by rw [← verdictCodeOf_byte code, hcode, verdictCodeOf_byte]
  have hmessage : message = message' := by rw [← messageOfByte_byte message, hmessage, messageOfByte_byte]
  have hmark : mark = mark' := by cases mark <;> cases mark' <;> simp_all
  rw [hcode, hmessage, hmark]

/-! ### SHIFT_TOTAL entries (11, Layouts) -/

/-- The parts of a SHIFT_TOTAL entry in their order. -/
def totalParts (seq : Nat) (t : ShiftTotal) : List (List Byte) :=
  [bigEndian 4 seq, [0x01], bigEndian 4 t.badge, bigEndian 2 t.slot, bigEndian 1 t.payClass, bigEndian 1 t.pattern,
    bigEndian 2 t.generation, stampBytes (some t.schedStart), stampBytes (some t.schedEnd), stampBytes (some t.inStamp),
    stampBytes (some t.outStamp), stampBytes (some t.effIn), stampBytes (some t.effOut), bigEndian 2 t.anchorWeek,
    bigEndian 2 t.gross, bigEndian 2 t.breaks, bigEndian 2 t.unpaidBreak, bigEndian 1 t.meal, bigEndian 2 t.worked,
    bigEndian 2 t.regular, bigEndian 2 t.dailyOver, bigEndian 2 t.weeklyOver, bigEndian 2 t.night,
    bigEndian 1 t.holiday.toNat, bigEndian 4 t.pay, bigEndian 2 t.flags.bits.toNat]

/-- The sizes of the parts of a SHIFT_TOTAL entry in their order. -/
def totalSizes : List Nat := [4, 1, 4, 2, 1, 1, 2, 5, 5, 5, 5, 5, 5, 2, 2, 2, 2, 1, 2, 2, 2, 2, 2, 1, 4, 2]

/-- A part read at its offset, which is the sum of the lengths before it. -/
theorem take_drop_flatten {l : List (List Byte)} {i offset size : Nat} {part : List Byte} (hpart : l[i]? = some part)
    (hoffset : ((l.map List.length).take i).sum = offset) (hsize : part.length = size) :
    (l.flatten.drop offset).take size = part := by
  obtain ⟨hi, rfl⟩ := List.getElem?_eq_some_iff.1 hpart
  subst hoffset hsize
  rw [List.drop_sum_flatten, List.drop_eq_getElem_cons hi, List.flatten_cons, List.take_left']
  rfl

section
variable (seq : Nat) (t : ShiftTotal)

theorem shiftTotalBytes_eq : shiftTotalBytes seq t = (totalParts seq t).flatten := by
  unfold shiftTotalBytes totalParts
  simp only [List.flatten_cons, List.flatten_nil, List.append_nil]
  simp only [List.append_assoc]

theorem totalParts_lengths : (totalParts seq t).map List.length = totalSizes := by
  simp only [totalParts, List.map_cons, List.map_nil, bigEndian_length, stampBytes_length, List.length_singleton,
    totalSizes]

theorem shiftTotalBytes_length : (shiftTotalBytes seq t).length = 71 := by
  rw [shiftTotalBytes_eq, List.length_flatten, totalParts_lengths]
  rfl

/-- A part of an entry read at its offset. -/
theorem readPart {i offset size : Nat} {part : List Byte} (hpart : (totalParts seq t)[i]? = some part)
    (hoffset : (totalSizes.take i).sum = offset) (hsize : part.length = size) : ((shiftTotalBytes seq t).drop offset).take size = part := by
  rw [shiftTotalBytes_eq]
  exact take_drop_flatten hpart (by rw [totalParts_lengths, hoffset]) hsize

/-- A figure of an entry read at its offset. -/
theorem readFigure {i offset size v : Nat} (hpart : (totalParts seq t)[i]? = some (bigEndian size v))
    (hoffset : (totalSizes.take i).sum = offset) : fromBytes (((shiftTotalBytes seq t).drop offset).take size) = v % 256 ^ size := by
  rw [readPart seq t hpart hoffset (bigEndian_length _ _), fromBytes_bigEndian]

/-- A stamp of an entry read at its offset: its day number, then its second of day. -/
theorem readStamp {i offset : Nat} {x : Stamp} (hx : x < 65536 * 86400)
    (hpart : (totalParts seq t)[i]? = some (stampBytes (some x)))
    (hoffset : (totalSizes.take i).sum = offset) :
    fromBytes (((shiftTotalBytes seq t).drop offset).take 2) = x / 86400 ∧
      fromBytes (((shiftTotalBytes seq t).drop (offset + 2)).take 3) = x % 86400 := by
  have hread := readPart seq t hpart hoffset (stampBytes_length _)
  rw [stampBytes_of_day hx] at hread
  have hday : ((shiftTotalBytes seq t).drop offset).take 2 = bigEndian 2 (x / 86400) := by
    have htake := List.take_left' (l₂ := bigEndian 3 (x % 86400)) (bigEndian_length 2 (x / 86400))
    rwa [← hread, List.take_take] at htake
  have hsecond : ((shiftTotalBytes seq t).drop (offset + 2)).take 3 = bigEndian 3 (x % 86400) := by
    have hdrop := List.drop_left' (l₂ := bigEndian 3 (x % 86400)) (bigEndian_length 2 (x / 86400))
    rwa [← hread, List.drop_take, List.drop_drop] at hdrop
  rw [hday, hsecond, fromBytes_bigEndian, fromBytes_bigEndian]
  have hsmall : x / 86400 < 65536 := Nat.div_lt_of_lt_mul (by rwa [Nat.mul_comm])
  have hrest : x % 86400 < 86400 := Nat.mod_lt _ (by decide)
  exact ⟨Nat.mod_eq_of_lt hsmall, Nat.mod_eq_of_lt (hrest.trans (by decide))⟩

end

/-! ### SPOOL TAKE (R182) -/

theorem bytes_shiftTotal (seq : Nat) (t : ShiftTotal) : (⟨seq, .shiftTotal t⟩ : SpoolEntry).bytes = shiftTotalBytes seq t := rfl

theorem entryBytes_length_le (e : SpoolEntry) : e.bytes.length ≤ 71 := by
  unfold SpoolEntry.bytes
  split
  · exact (shiftTotalBytes_length _ _).le
  all_goals exact (List.length_take_le _ _).trans (by decide)

theorem payload_length (count next : Nat) (l : List SpoolEntry) :
    (Reply.payload ⟨.ok, .spoolEntries count l next⟩).length = 6 + (l.map fun e => e.bytes.length).sum := by
  simp only [Reply.payload, List.length_cons, List.length_append, bigEndian_length, List.length_flatMap]
  omega

theorem twelve_totals_length (next : Nat) (l : List (Nat × ShiftTotal)) (hl : l.length = 12) :
    (Reply.payload ⟨.ok, .spoolEntries 12 (l.map fun x => ⟨x.1, .shiftTotal x.2⟩) next⟩).length = 858 := by
  have hlengths : ((l.map fun x => (⟨x.1, .shiftTotal x.2⟩ : SpoolEntry)).map fun e => e.bytes.length) =
      l.map fun _ => 71 := by
    simp only [List.map_map, Function.comp_def, bytes_shiftTotal, shiftTotalBytes_length]
  rw [payload_length, hlengths, List.map_const', hl]
  rfl

theorem twelve_entries_length_le (next : Nat) (l : List SpoolEntry) (hl : l.length ≤ 12) :
    (Reply.payload ⟨.ok, .spoolEntries l.length l next⟩).length ≤ 858 := by
  have hsum := List.sum_le_card_nsmul (l.map fun e => e.bytes.length) 71 fun n hn => by
    obtain ⟨e, -, rfl⟩ := List.mem_map.1 hn
    exact entryBytes_length_le e
  rw [List.length_map, smul_eq_mul] at hsum
  rw [payload_length]
  omega

/-- Settles O52: sums of characters for the check byte, and the parts of an entry at the sums of the lengths before them. -/
theorem layoutsReadBack : Obligations.LayoutsReadBack := by
  unfold Obligations.LayoutsReadBack
  refine ⟨rfl, readAnswer_punchBytes, fun l i b hi hread hne => ?_, fun v => byteSum_checked _,
    fun v w => eq_of_verdictBytes, fun seq t => ?_, twelve_totals_length,
    twelve_entries_length_le⟩
  · have hsum : byteSum l = 0 := not_not.1 fun hsum => hread (readAnswer_of_sum hsum)
    exact readAnswer_of_sum (hsum ▸ byteSum_set_ne hi hne)
  · have figure {i offset size v : Nat} := @readFigure seq t i offset size v
    have stamp {i offset : Nat} {x : Stamp} (hx : x < 65536 * 86400) := @readStamp seq t i offset x hx
    have hflags : t.flags.bits.toNat % 256 ^ 2 = t.flags.bits.toNat := Nat.mod_eq_of_lt t.flags.bits.isLt
    have hholiday : t.holiday.toNat % 256 ^ 1 = t.holiday.toNat := Nat.mod_eq_of_lt ((Bool.toNat_lt _).trans (by decide))
    exact ⟨shiftTotalBytes_length seq t, figure (i := 0) rfl rfl,
      congrArg fromBytes (readPart seq t (i := 1) (size := 1) rfl rfl rfl), figure (i := 2) rfl rfl,
      figure (i := 3) rfl rfl, figure (i := 4) rfl rfl, figure (i := 5) rfl rfl, figure (i := 6) rfl rfl,
      fun hx => stamp hx (i := 7) rfl rfl, fun hx => stamp hx (i := 8) rfl rfl, fun hx => stamp hx (i := 9) rfl rfl,
      fun hx => stamp hx (i := 10) rfl rfl, fun hx => stamp hx (i := 11) rfl rfl, fun hx => stamp hx (i := 12) rfl rfl,
      figure (i := 13) rfl rfl, figure (i := 14) rfl rfl, figure (i := 15) rfl rfl, figure (i := 16) rfl rfl,
      figure (i := 17) rfl rfl, figure (i := 18) rfl rfl, figure (i := 19) rfl rfl, figure (i := 20) rfl rfl,
      figure (i := 21) rfl rfl, figure (i := 22) rfl rfl, (figure (i := 23) rfl rfl).trans hholiday,
      figure (i := 24) rfl rfl, (figure (i := 25) rfl rfl).trans hflags⟩

end Sys2Proof.Machine
end

section
/-! ## One lane's levels settled, a grant released, and a dead time's end (R53, R71, R72, R84, R86, R160) -/
namespace Sys2Proof.Machine

section
variable {s t u : State} {l m p : LaneId} {g : Grant}

/-! ### Levels settled where one lane's alone have changed (R71, R86, R160) -/

/-- Between two states nothing has changed that an output's level turns on, but what stands in one lane. -/
structure levelsBut (s t : State) (l : LaneId) : Prop where
  lanes : ∀ m, l ≠ m → (t.lane m).levels = (s.lane m).levels
  inputs : t.inputs = { s.inputs with deliveries := t.inputs.deliveries }
  bells : t.bells = s.bells
  supply : t.supply = s.supply

theorem sameLevels.but (h : sameLevels s t) (l : LaneId) : levelsBut s t l :=
  ⟨fun m _ => h.lanes m, h.inputs, h.bells, h.supply⟩

theorem levelsBut.trans (h : levelsBut s t l) (k : levelsBut t u l) : levelsBut s u l :=
  ⟨fun m hlm => (k.lanes m hlm).trans (h.lanes m hlm), by rw [k.inputs, h.inputs], k.bells.trans h.bells,
    k.supply.trans h.supply⟩

theorem levelsBut_setLane (s : State) (l : LaneId) (x : Lane) : levelsBut s (s.setLane l x) l :=
  ⟨fun _ hlm => congrArg Lane.levels (State.setLane_other _ _ _ _ hlm), rfl, rfl, rfl⟩

theorem levelsBut.driveRelease (h : levelsBut s t l) (hlm : l ≠ m) : t.driveRelease m = s.driveRelease m := by
  obtain ⟨hsetup, hwants, -⟩ := Lane.levels_eq_iff.1 (h.lanes m hlm)
  exact driveRelease_congr hsetup hwants h.supply (by rw [h.inputs]) (by rw [h.inputs])

theorem levelsBut.driveBell (h : levelsBut s t l) (b : BellId) : t.driveBell b = s.driveBell b := by
  unfold State.driveBell State.ringsEvacuation
  rw [h.supply, h.bells, h.inputs]

/-- The state with one lane's levels taken again. -/
def State.leveled (s : State) (l : LaneId) : State :=
  (s.setLane l { s.lane l with requested := (s.lane l).wantsRelease }).setInputs { s.inputs with
    drivenRelease := putAt s.inputs.drivenRelease l (s.driveRelease l) }

theorem leveled_frame (s : State) (l : LaneId) : unchangedBut [.lanes, .inputs] s (s.leveled l) :=
  frame_setInputs _ (frame_setLane l _ (.refl _ _) (by decide)) (by decide)

theorem leveled_lane_same (s : State) (l : LaneId) :
    (s.leveled l).lane l = { s.lane l with requested := (s.lane l).wantsRelease } := State.setLane_same _ _ _

theorem leveled_lane_other (hlm : l ≠ m) : (s.leveled l).lane m = s.lane m := State.setLane_other _ _ _ _ hlm

theorem leveled_driven_same (s : State) (l : LaneId) : (s.leveled l).inputs.drivenRelease[l] = s.driveRelease l :=
  putAt_same _ _ _

theorem leveled_driven_other (hlm : l ≠ m) : (s.leveled l).inputs.drivenRelease[m] = s.inputs.drivenRelease[m] :=
  putAt_other _ _ _ _ hlm

/-- Where the levels were settled and one lane's have changed since, taking all again takes that lane's. -/
theorem retakeLevels_of_levelsBut (h : levelsBut s t l) (hs : s.levelLaw) : t.retakeLevels = t.leveled l := by
  obtain ⟨hrequested, hrelease, hbell⟩ := hs
  have hlanes : t.retakeLevels.lanes = (t.leveled l).lanes := lanes_eq fun m => by
    rw [retakeLevels_lane]
    by_cases hlm : l = m
    · rw [← hlm, leveled_lane_same]
    · obtain ⟨-, hwants, hreq⟩ := Lane.levels_eq_iff.1 (h.lanes m hlm)
      rw [leveled_lane_other hlm, hwants, ← hrequested m, ← hreq]
  have hdriven : t.retakeLevels.inputs.drivenRelease = (t.leveled l).inputs.drivenRelease := Vector.ext fun i hi => by
    refine (retakeLevels_drivenRelease t ⟨i, hi⟩).trans ?_
    by_cases hlm : l = ⟨i, hi⟩
    · rw [← hlm]
      exact (leveled_driven_same t l).symm.trans (by subst hlm; rfl)
    · refine (h.driveRelease hlm).trans ((hrelease ⟨i, hi⟩).symm.trans ?_)
      refine Eq.trans ?_ (leveled_driven_other (s := t) hlm).symm
      rw [h.inputs]
  have hrung : t.retakeLevels.inputs.drivenBell = (t.leveled l).inputs.drivenBell := Vector.ext fun i hi => by
    refine (retakeLevels_drivenBell t ⟨i, hi⟩).trans ((releasesAgain_driveBell t ⟨i, hi⟩).trans ?_)
    refine (h.driveBell ⟨i, hi⟩).trans ((hbell ⟨i, hi⟩).symm.trans ?_)
    change _ = t.inputs.drivenBell[i]
    rw [h.inputs]
    rfl
  have hundriven : t.retakeLevels.inputs.undriven = (t.leveled l).inputs.undriven := retakeLevels_undriven t
  have hinputs := InputSampler.eq_of_levels hundriven hdriven hrung
  have hretaken := retakeLevels_frame t
  have hleveled := leveled_frame t l
  have hframe : unchangedBut [.lanes, .inputs] (t.leveled l) t.retakeLevels :=
    ⟨hretaken.1.trans hleveled.1.symm, fun b => by
      by_cases hb : b ∈ [Block.lanes, Block.inputs]
      · exact .inl hb
      · have h1 := hretaken.same hb
        have h2 := hleveled.same hb
        exact .inr (by cases b <;> exact h1.trans h2.symm)⟩
  refine eq_of_unchangedBut hframe fun b hb => ?_
  simp only [List.mem_cons, List.not_mem_nil, or_false] at hb
  rcases hb with rfl | rfl
  · exact hlanes
  · exact hinputs

/-- Levels settle by taking one lane's again, where no other lane's have changed and no grant is released for it. -/
theorem levelsBut.settle (h : levelsBut s t l) (hs : s.levelLaw) (hlook : t.lookIfChanged l = t) : t.settle = t.leveled l := by
  rw [← retakeLevels_of_levelsBut h hs]
  refine settle_of_quiet fun m => ?_
  by_cases hlm : l = m
  · exact hlm ▸ hlook
  · refine lookIfChanged_of_driven ?_
    rw [h.driveRelease hlm, ← hs.2.1 m, h.inputs]

/-! ### A grant released (R53, R72) -/

theorem releaseGrant_lane_same (s : State) (l : LaneId) (g : Grant) : (s.releaseGrant l g).lane l = s.releasedLane l g :=
  (congrArg (fun v : Vector Lane 8 => v[l]) ((tellReleased_frame _ l).same (b := .lanes) (by decide))).trans
    (State.setLane_same _ _ _)

theorem releaseGrant_frame (s : State) (l : LaneId) (g : Grant) : unchangedBut [.lanes, .punch] s (s.releaseGrant l g) :=
  frame_tellReleased l (frame_setLane l _ (.refl _ _) (by decide)) (by decide)

theorem releaseGrant_levelsBut (s : State) (l : LaneId) (g : Grant) : levelsBut s (s.releaseGrant l g) l :=
  (levelsBut_setLane s l _).trans ((sameLevels_of_frame (tellReleased_frame _ l) (by decide)).but l)

theorem releaseGrant_punch_of_unhanded (h : s.handedAt l = none) (g : Grant) : (s.releaseGrant l g).punch = s.punch := by
  rw [releaseGrant_of_unhanded h]
  rfl

theorem inPollSet_congr {i : Head} (h : (t.lane i.lane).setup = (s.lane i.lane).setup) : t.inPollSet i = s.inPollSet i := by
  unfold State.inPollSet
  rw [h]

theorem setLane_setup {x : Lane} (h : x.setup = (s.lane l).setup) (m : LaneId) :
    ((s.setLane l x).lane m).setup = (s.lane m).setup := by
  by_cases hlm : l = m
  · subst hlm
    rw [State.setLane_same, h]
  · rw [State.setLane_other _ _ _ _ hlm]

/-- The head of a handed punch is told of its release (R53). -/
theorem releaseGrant_punch {q : HandedPunch} (h : s.handedAt l = some q) (hpolled : s.inPollSet q.head = true)
    (habsent : ∀ v ∈ s.punch.verdicts, v.head ≠ q.head) (g : Grant) :
    (s.releaseGrant l g).punch = { s.punch with verdicts := s.punch.verdicts ++ [⟨q.head, releaseVerdict q⟩] } := by
  have hhanded : (s.setLane l (s.releasedLane l g)).handedAt l = some q := h
  have hset : (s.setLane l (s.releasedLane l g)).inPollSet q.head = true :=
    (inPollSet_congr (setLane_setup (x := s.releasedLane l g) rfl _)).trans hpolled
  have htold : (s.setLane l (s.releasedLane l g)).tellReleased l =
      (s.setLane l (s.releasedLane l g)).queueVerdict q.head (releaseVerdict q) := by
    unfold State.tellReleased
    rw [hhanded]
  change ((s.setLane l (s.releasedLane l g)).tellReleased l).punch = _
  rw [htold, queueVerdict_of_absent _ hset habsent]
  rfl

theorem releaseGrant_not_waiting (s : State) (l : LaneId) (g : Grant) : (s.releaseGrant l g).waitingGrant l = none :=
  waitingGrant_of_released (g := s.releasedGrant l g) (by rw [releaseGrant_lane_same]; rfl) rfl

theorem releaseGrant_setups (s : State) (l : LaneId) (g : Grant) (m : LaneId) :
    ((s.releaseGrant l g).lane m).setup = (s.lane m).setup := by
  by_cases hlm : l = m
  · subst hlm
    rw [releaseGrant_lane_same]
    rfl
  · rw [releaseGrant_lane_other g hlm]

/-- A lane's waiting grant whose condition holds is released by a look at the lane, where its partner has none waiting (R86). -/
theorem look_of_waiting (hpartner : s.partnerOf l = some p) (hl : s.waitingGrant l = some g) (hp : s.waitingGrant p = none)
    (hclear : s.interlockClear l p = true) : s.look l = s.releaseGrant l g := by
  have hne := (partnerOf_eq_some hpartner).2.2
  have hchoice : s.arbiterChoice l p = some l := if_pos (goesFirst_of_alone hl hclear hp)
  have hleft : (s.releaseGrant l g).waitingGrant p = none :=
    (waitingGrant_congr (releaseGrant_lane_other g hne.symm)).trans hp
  rw [look_of_choice hpartner hchoice, lookOnce_of_choice hchoice hl]
  exact lookOnce_of_no_choice (arbiterChoice_eq_none (goesFirst_of_not_waiting (releaseGrant_not_waiting s l g) p)
    (goesFirst_of_not_waiting hleft l))

/-! ### The end of a dead time (R84, R86) -/

theorem deadTimeDue_eq_none (h : (s.lane l).deadRuns = false ∨ s.partnerOf l = none) : s.deadTimeDue l = none := by
  unfold State.deadTimeDue
  rcases h with h | h <;> simp [h]

theorem deadTimeDue_eq_some {closed : Elapsed} (hruns : (s.lane l).deadRuns = true) (hpartner : s.partnerOf l = some p)
    (hclosed : (s.lane p).lastClosing = some closed) :
    s.deadTimeDue l = some (closed + 100 * (s.lane l).setup.deadTime) := by
  simp [State.deadTimeDue, State.deadTimeEndOf, hruns, hpartner, hclosed]

/-- The state with a lane's dead time over. -/
def State.deadEnded (s : State) (l : LaneId) : State := s.setLane l { s.lane l with deadRuns := false }

theorem sameLevels_deadEnded (s : State) (l : LaneId) : sameLevels s (s.deadEnded l) := sameLevels_setLane rfl

theorem exec_deadTimeEnd_of_none (hrun : s.supply.state = .run) (hdue : s.deadTimeDue l = none) :
    exec (.deadTimeEnd l) s = .next s := by
  change execDeadTimeEnd l s = _
  refine (whileRunning_of_run hrun).trans ?_
  rw [hdue]

theorem exec_deadTimeEnd_of_reached {e : Elapsed} (hrun : s.supply.state = .run) (hdue : s.deadTimeDue l = some e)
    (he : e ≤ s.time.elapsed) : exec (.deadTimeEnd l) s = .next ((s.deadEnded l).look l).settle := by
  change execDeadTimeEnd l s = _
  refine (whileRunning_of_run hrun).trans ?_
  rw [hdue]
  dsimp only
  rw [reach_of_reached he]
  rfl

/-- The interlock condition with the partner's output off, its door CLOSED and the dead time over (R84). -/
theorem interlockClear_of_closed {closed : Elapsed} (hdrive : s.driveRelease p = false) (hopen : (s.lane p).doorOpen = false)
    (hclosed : (s.lane p).lastClosing = some closed)
    (hover : closed + 100 * (s.lane l).setup.deadTime ≤ s.time.elapsed) : s.interlockClear l p = true := by
  simp [State.interlockClear, State.deadTimeEndOf, State.elapsed, hdrive, hopen, hclosed, hover]

end

/-- Settles O33: the look at the dead time's end releases the one waiting grant, and the levels settle with its lane's. -/
theorem deadTimeEndReleasesAWaitingGrant : Obligations.DeadTimeEndReleasesAWaitingGrant := by
  unfold Obligations.DeadTimeEndReleasesAWaitingGrant
  refine ⟨?_, fun s l hrun hnone => exec_deadTimeEnd_of_none hrun (deadTimeDue_eq_none hnone)⟩
  intro s l p g closed hrun hlevels hevacuating hpartner hg hphase hfree hclosed hruns hover hoff hshut hseen hhold
  obtain ⟨-, hback, hne⟩ := partnerOf_eq_some hpartner
  obtain ⟨hkind, -, -⟩ := partnerOf_eq_some hback
  have hended := sameLevels_deadEnded s l
  have hlane : (s.deadEnded l).lane l = { s.lane l with deadRuns := false } := State.setLane_same _ _ _
  have hlanep : (s.deadEnded l).lane p = s.lane p := State.setLane_other _ _ _ _ hne.symm
  have hpartner' : (s.deadEnded l).partnerOf l = some p := (partnerOf_congr hended.setup l).trans hpartner
  have hwaits : (s.deadEnded l).waitingGrant l = some g := waitingGrant_eq_some.2 ⟨by rw [hlane, hg], hphase⟩
  have hnone : (s.deadEnded l).waitingGrant p = none := waitingGrant_of_no_grant (by rw [hlanep, hfree])
  have hclear : (s.deadEnded l).interlockClear l p = true :=
    interlockClear_of_closed ((hended.driveRelease p).trans hoff) (by rw [hlanep, hshut]) (by rw [hlanep, hclosed])
      (by rw [hlane]; exact hover)
  have hlook := look_of_waiting hpartner' hwaits hnone hclear
  have hbut := (hended.but l).trans (releaseGrant_levelsBut (s.deadEnded l) l g)
  have hquiet : ((s.deadEnded l).releaseGrant l g).look l = (s.deadEnded l).releaseGrant l g :=
    look_of_none_waiting (releaseGrant_not_waiting _ l g) fun m hm => by
      rw [partnerOf_congr (releaseGrant_setups _ l g), hpartner'] at hm
      cases hm
      exact (waitingGrant_congr (releaseGrant_lane_other g hne.symm)).trans hnone
  have hexec := exec_deadTimeEnd_of_reached hrun (deadTimeDue_eq_some hruns hpartner hclosed) hover
  rw [hlook, hbut.settle hlevels (lookIfChanged_of_look hquiet)] at hexec
  have hreleased : ((s.deadEnded l).releaseGrant l g).lane l = (s.deadEnded l).releasedLane l g := releaseGrant_lane_same _ l g
  have hwants : (((s.deadEnded l).releaseGrant l g).lane l).wantsRelease = true := by
    rw [hreleased]
    refine Lane.wantsRelease_of_released (g := (s.deadEnded l).releasedGrant l g) rfl rfl ?_ rfl hseen
    exact (congrArg (fun x : Lane => x.setup.kind) hlane).trans hkind
  have hinputs : ((s.deadEnded l).releaseGrant l g).inputs = s.inputs :=
    (releaseGrant_frame _ l g).same (b := .inputs) (by decide)
  have hdrive : ((s.deadEnded l).releaseGrant l g).driveRelease l = true := by
    refine (driveRelease_of_free ?_ (by rw [hinputs, hevacuating]) (by rw [hinputs, hhold])).trans hwants
    rw [(releaseGrant_frame _ l g).same (b := .supply) (by decide)]
    exact hrun
  have hframe : unchangedBut [.lanes, .punch] s ((s.deadEnded l).releaseGrant l g) :=
    (frame_setLane l _ (.refl _ _) (by decide)).trans (releaseGrant_frame _ l g)
  refine ⟨_, hexec, (hframe.mono (by decide)).trans ((leveled_frame _ l).mono (by decide)), ?_, ?_, ?_, ?_, ?_, ?_,
    fun hp => ?_, fun q hq hpolled habsent => ?_⟩
  · rw [leveled_lane_same, hreleased]
    rfl
  · rw [leveled_lane_same, hreleased]
    exact congrArg Lane.deadRuns hlane
  · rw [leveled_lane_same, hreleased]
    exact congrArg (fun x : Lane => some { g with
      phase := .released, releaseExpiry := some (s.time.elapsed + 1000 * x.setup.releaseTime) }) hlane
  · rw [leveled_lane_same, hwants]
  · rw [leveled_driven_same, hdrive]
  · rw [leveled_driven_other hne.symm, hinputs, hlevels.2.1, hoff]
  · exact releaseGrant_punch_of_unhanded (s := s.deadEnded l) hp g
  · exact releaseGrant_punch (s := s.deadEnded l) hq ((inPollSet_congr (hended.setup _)).trans hpolled) habsent g

end Sys2Proof.Machine
end

section
/-! ## A door's opening (R54, R71, R74, R75, R77) -/
namespace Sys2Proof.Machine

section
variable {s t : State} {l m : LaneId} {g : Grant}

/-- The state with a lane's door found open, the change taken (R74). -/
def State.opened (s : State) (l : LaneId) : State :=
  s.undelivered.setLane l { s.lane l with doorOpen := true, heldTimer := s.heldExpiry (s.lane l) }

theorem opened_lane (s : State) (l : LaneId) :
    (s.opened l).lane l = { s.lane l with doorOpen := true, heldTimer := s.heldExpiry (s.lane l) } := State.setLane_same _ _ _

theorem sameLevels_opened (s : State) (l : LaneId) : sameLevels s (s.opened l) :=
  (sameLevels_undelivered s).trans (sameLevels_setLane (s := s.undelivered) rfl)

theorem opened_frame (s : State) (l : LaneId) : unchangedBut [.lanes, .inputs] s (s.opened l) :=
  frame_setLane l _ (frame_setInputs _ (.refl _ _) (by decide)) (by decide)

theorem exec_doorOpening (hrun : s.supply.state = .run) (hkind : (s.lane l).setup.kind = .door)
    (hshut : (s.lane l).doorOpen = false) (hd : s.inputs.deliveries = [.door l true]) :
    exec (.doorOpening l) s = .next ((s.opened l).takeOpening l).settle := by
  have hexec : exec (.doorOpening l) s = .next (if ((s.takeChange (.door l true)).lane l).setup.kind = .door ∧
      ((s.takeChange (.door l true)).lane l).doorOpen = false then
        ((s.takeChange (.door l true)).doorOpens l).settle else s.takeChange (.door l true)) := by
    change execDoorOpening l s = _
    exact whileRunning_of_run hrun
  rw [hexec, takeChange_of_only hd]
  exact congrArg _ (if_pos ⟨hkind, hshut⟩)

/-! ### How an opening is taken (R75) -/

theorem takeOpening_of_no_grant (hg : (s.lane l).grant = none) : s.takeOpening l = s.unexpectedOpening l := by
  unfold State.takeOpening
  rw [hg]

theorem takeOpening_of_waiting (hg : (s.lane l).grant = some g) (hphase : g.phase = .waiting) :
    s.takeOpening l = s.unexpectedOpening l := by
  simp [State.takeOpening, hg, hphase]

theorem takeOpening_of_passage (hg : (s.lane l).grant = some g) (hphase : g.phase = .released) (hseen : g.passageSeen = false) :
    s.takeOpening l = s.doorPassage l g := by
  simp [State.takeOpening, hg, hphase, hseen]

theorem takeOpening_of_used_pulse (hg : (s.lane l).grant = some g) (hphase : g.phase = .released) (hseen : g.passageSeen = true)
    (hmode : (s.lane l).setup.releaseMode = .pulse) : s.takeOpening l = s.laneAlarm l .tailgate := by
  simp [State.takeOpening, hg, hphase, hseen, hmode]

theorem takeOpening_of_used_untilOpen (hg : (s.lane l).grant = some g) (hphase : g.phase = .released)
    (hseen : g.passageSeen = true) (hmode : (s.lane l).setup.releaseMode = .untilOpen) :
    s.takeOpening l = s.unexpectedOpening l := by
  simp [State.takeOpening, hg, hphase, hseen, hmode]

/-- What excuses an opening that is no passage and no TAILGATE (R75). -/
def State.excusesOpening (s : State) (l : LaneId) : Prop :=
  s.driveRelease l = true ∨ (s.lane l).exitAllowance.isSome = true ∨ s.exitActive l = true ∨ (s.lane l).mode = .free ∨
    (s.lane l).mode = .egress

theorem unexpectedOpening_of_excused (h : s.excusesOpening l) : s.unexpectedOpening l = s := by
  unfold State.excusesOpening at h
  simp only [State.unexpectedOpening, State.exitExpected, Bool.or_eq_true]
  split_ifs with hdriven hmode
  · rfl
  · rfl
  · tauto

theorem unexpectedOpening_of_not_excused (h : ¬ s.excusesOpening l) : s.unexpectedOpening l = s.laneAlarm l .forced := by
  unfold State.excusesOpening at h
  simp only [State.unexpectedOpening, State.exitExpected, Bool.or_eq_true]
  rw [if_neg (by tauto), if_neg (by tauto)]

theorem excusesOpening_opened (s : State) (l : LaneId) : (s.opened l).excusesOpening l ↔ s.excusesOpening l := by
  unfold State.excusesOpening
  rw [(sameLevels_opened s l).driveRelease, opened_lane]
  exact Iff.rfl

/-- An alarm of the opened lane leaves the levels settled. -/
theorem opened_alarmed (hrun : s.supply.state = .run) (hlevels : s.levelLaw) (hkind : (s.lane l).setup.kind = .door)
    (cause : AlarmCause) : ∃ t, ((s.opened l).laneAlarm l cause).settle = t ∧
      unchangedBut [.lanes, .inputs, .spool, .link] s t ∧ t.lanes = (s.opened l).lanes ∧ t.inputs = (s.opened l).inputs ∧
      entered (.laneAlarm s.now l cause) s t := by
  have hopened : ((s.opened l).lane l).setup.kind ≠ .unused := by rw [opened_lane]; simp [hkind]
  have hframe := requestEntry_frame (s.opened l) (.laneAlarm s.now l cause)
  have hsame := (sameLevels_opened s l).trans (sameLevels_of_frame hframe (by decide))
  rw [laneAlarm_of_kind (s := s.opened l) hrun hopened]
  exact ⟨_, hsame.settle hlevels, ((opened_frame s l).mono (by decide)).trans (hframe.mono (by decide)),
    hframe.same (b := .lanes) (by decide), hframe.same (b := .inputs) (by decide), entered_requestEntry _ rfl rfl⟩

/-! ### A passage (R54, R75, R77) -/

theorem passageNotice_frame (s : State) (l : LaneId) : unchangedBut [.roster, .records, .spool, .link] s (s.passageNotice l) :=
  frame_passageNotice l (.refl _ _) (by decide) (by decide) (by decide) (by decide)

theorem passageNotice_of_none (h : s.handedAt l = none) : s.passageNotice l = s := by
  unfold State.passageNotice
  rw [h]

theorem passageNotice_of_some {p : HandedPunch} (h : s.handedAt l = some p) : s.passageNotice l = s.commit l p := by
  unfold State.passageNotice
  rw [h]

/-- A lane whose grant's passage has been seen, with the release expiry it then has (R75, R77). -/
def Lane.passed (x : Lane) (g : Grant) (expiry : Option Elapsed) : Lane :=
  { x with grant := some { g with passageSeen := true, releaseExpiry := expiry } }

/-- A PULSE grant of a DOOR lane asks for the release while its release time runs (R71). -/
theorem Lane.wantsRelease_of_pulse {x : Lane} (hg : x.grant = some g) (hkind : x.setup.kind = .door)
    (hmode : x.setup.releaseMode = .pulse) :
    x.wantsRelease = (x.modeReleases || (decide (g.phase = .released) && g.releaseExpiry.isSome)) := by
  simp [Lane.wantsRelease, Lane.modeReleases, hg, hkind, hmode]

theorem doorPassage_of_pulse (hmode : (s.lane l).setup.releaseMode = .pulse) (g : Grant) :
    s.doorPassage l g = (s.setLane l ((s.lane l).passed g g.releaseExpiry)).passageNotice l := by
  simp [State.doorPassage, hmode, Lane.passed]

theorem doorPassage_of_untilOpen (hmode : (s.lane l).setup.releaseMode = .untilOpen) (g : Grant) :
    s.doorPassage l g = (s.setLane l ((s.lane l).passed g none)).passageNotice l := by
  simp [State.doorPassage, hmode, Lane.passed]

/-- A PULSE grant's passage leaves the requested level as it was (R71, R75). -/
theorem settle_doorPassage_of_pulse (hsame : sameLevels s t) (hlevels : s.levelLaw) (hg : (t.lane l).grant = some g)
    (hkind : (t.lane l).setup.kind = .door) (hmode : (t.lane l).setup.releaseMode = .pulse) :
    (t.doorPassage l g).settle = (t.setLane l ((t.lane l).passed g g.releaseExpiry)).passageNotice l := by
  have hlane : sameLevels t (t.setLane l ((t.lane l).passed g g.releaseExpiry)) := by
    refine sameLevels_setLane (Lane.levels_eq_iff.2 ⟨rfl, ?_, rfl⟩)
    rw [Lane.wantsRelease_of_pulse hg hkind hmode]
    exact Lane.wantsRelease_of_pulse (x := (t.lane l).passed g g.releaseExpiry)
      (g := { g with passageSeen := true }) rfl hkind hmode
  have hpassed := hlane.trans (sameLevels_of_frame (passageNotice_frame _ l) (by decide))
  rw [doorPassage_of_pulse hmode]
  exact (hsame.trans hpassed).settle hlevels

/-- The passage of an UNTIL_OPEN grant out of any pair settles with its lane's levels (R71, R77). -/
theorem settle_doorPassage_of_untilOpen (hsame : sameLevels s t) (hlevels : s.levelLaw)
    (hmode : (t.lane l).setup.releaseMode = .untilOpen) (hpair : s.inPair l = false) (g : Grant) :
    (t.doorPassage l g).settle = ((t.setLane l ((t.lane l).passed g none)).passageNotice l).leveled l := by
  have hnotice := sameLevels_of_frame (passageNotice_frame (t.setLane l ((t.lane l).passed g none)) l) (by decide)
  have hbut := (hsame.but l).trans ((levelsBut_setLane t l ((t.lane l).passed g none)).trans (hnotice.but l))
  have hsetup : ∀ m, (((t.setLane l ((t.lane l).passed g none)).passageNotice l).lane m).setup = (s.lane m).setup := fun m =>
    (hnotice.setup m).trans ((setLane_setup (x := (t.lane l).passed g none) rfl m).trans (hsame.setup m))
  rw [doorPassage_of_untilOpen hmode, hbut.settle hlevels
    (lookIfChanged_of_look (look_of_unpaired ((partnerOf_congr hsetup l).trans (partnerOf_eq_none hpair))))]

end

/-- Settles O29: the opening leaves every level as it was, and each clause is the branch of R75 that takes it. -/
theorem doorOpeningIsTakenInOrder : Obligations.DoorOpeningIsTakenInOrder := by
  unfold Obligations.DoorOpeningIsTakenInOrder
  intro s l hrun hlevels hkind hshut hd opened taken excused raises
  have hexec := exec_doorOpening hrun hkind hshut hd
  have hsame := sameLevels_opened s l
  have hlane : (s.opened l).lane l = opened := opened_lane s l
  have hexcused : (s.opened l).excusesOpening l ↔ excused := excusesOpening_opened s l
  have hraises : ∀ cause, (s.opened l).takeOpening l = (s.opened l).laneAlarm l cause → raises cause := by
    intro cause hcause
    obtain ⟨t, ht, halarmed⟩ := opened_alarmed hrun hlevels hkind cause
    exact ⟨t, by rw [hexec, hcause, ht], halarmed⟩
  refine ⟨fun hg hyes => ?_, fun hg hno => hraises _ ?_, fun g hg hphase hno => hraises _ ?_,
    fun g hg hphase hseen hmode => hraises _ ?_, fun g hg hphase hseen hmode hno => hraises _ ?_,
    fun g hg hphase hseen hmode => ?_, fun g hg hphase hseen hmode hpair hevacuating hhold => ?_⟩
  · rw [hexec, takeOpening_of_no_grant (by rw [hlane]; exact hg), unexpectedOpening_of_excused (hexcused.2 hyes),
      hsame.settle hlevels]
    rfl
  · rw [takeOpening_of_no_grant (by rw [hlane]; exact hg), unexpectedOpening_of_not_excused (hexcused.not.2 hno)]
  · rw [takeOpening_of_waiting (g := g) (by rw [hlane]; exact hg) hphase, unexpectedOpening_of_not_excused (hexcused.not.2 hno)]
  · rw [takeOpening_of_used_pulse (g := g) (by rw [hlane]; exact hg) hphase hseen (by rw [hlane]; exact hmode)]
  · rw [takeOpening_of_used_untilOpen (g := g) (by rw [hlane]; exact hg) hphase hseen (by rw [hlane]; exact hmode),
      unexpectedOpening_of_not_excused (hexcused.not.2 hno)]
  · have hpassage : ((s.opened l).takeOpening l).settle =
        (taken.setLane l { opened with grant := some { g with passageSeen := true } }).passageNotice l := by
      rw [takeOpening_of_passage (g := g) (by rw [hlane]; exact hg) hphase hseen,
        settle_doorPassage_of_pulse hsame hlevels (by rw [hlane]; exact hg) (by rw [hlane]; exact hkind)
          (by rw [hlane]; exact hmode), hlane]
      exact congrArg (fun u : State => u.passageNotice l) (setLane_setLane _ _ _ _)
    refine ⟨fun hp => ?_, fun p hp => ?_⟩
    · rw [hexec, hpassage]
      exact congrArg _ (passageNotice_of_none hp)
    · rw [hexec, hpassage]
      exact congrArg _ (passageNotice_of_some hp)
  · intro seen wanted passed
    have hpassed : ((s.opened l).setLane l (((s.opened l).lane l).passed g none)).passageNotice l = passed := by
      rw [hlane]
      exact congrArg (fun u : State => u.passageNotice l) (setLane_setLane s.undelivered l _ seen)
    have hframe : unchangedBut [.roster, .records, .spool, .link] (taken.setLane l seen) passed :=
      passageNotice_frame (taken.setLane l seen) l
    have hseenlane : passed.lane l = seen :=
      (congrArg (fun v : Vector Lane 8 => v[l]) (hframe.same (b := .lanes) (by decide))).trans (State.setLane_same _ _ _)
    have hinputs : passed.inputs = { s.inputs with deliveries := [] } := hframe.same (b := .inputs) (by decide)
    have hwants : seen.wantsRelease = wanted := by
      refine (Lane.wantsRelease_of_seen (x := seen) rfl hkind hmode rfl).trans ?_
      simp [Lane.modeReleases, seen, opened, hkind, wanted]
    have hdrive : passed.driveRelease l = wanted := by
      have hsupply : passed.supply = s.supply := hframe.same (b := .supply) (by decide)
      refine (driveRelease_of_free (by rw [hsupply, hrun]) (by rw [hinputs]; exact hevacuating)
        (by rw [hinputs]; exact hhold)).trans ?_
      rw [hseenlane, hwants]
    rw [hexec, takeOpening_of_passage (g := g) (by rw [hlane]; exact hg) hphase hseen,
      settle_doorPassage_of_untilOpen hsame hlevels (by rw [hlane]; exact hmode) hpair, hpassed, State.leveled, hseenlane,
      hwants, hdrive, hinputs]

end Sys2Proof.Machine
end

section
/-! ## A passage's commit with every word sound (R45, R54–R56, R95–R109) -/
namespace Sys2Proof.Machine

section
variable {s t u : State} {l : LaneId} {a : Nat} {p q : HandedPunch} {i : Stamp} {y : Slot}

/-! ### Notes and report (R54, R56) -/

theorem foldl_requestEntry_spool {α : Type} (e : α → Entry) (h : t.spool = s.spool) (causes : List α) :
    (causes.foldl (fun v c => v.requestEntry (e c)) t).spool = (causes.foldl (fun v c => v.requestEntry (e c)) s).spool := by
  induction causes generalizing s t with
  | nil => exact h
  | cons c rest ih => exact ih (requestEntry_spool _ h)

theorem writeNotes_frame (l : LaneId) (p : HandedPunch) (s : State) (causes : List NoteCause) :
    unchangedBut [.spool] s (causes.foldl (State.writeNote l p) s) := by
  induction causes generalizing s with
  | nil => exact .refl _ _
  | cons c rest ih =>
    have hnote : unchangedBut [.spool] s (s.writeNote l p c) := by
      unfold State.writeNote State.requestEntry State.appendEntry State.copyAlarm
      split <;> exact frame_setSpool _ (.refl _ _) (by decide)
    exact hnote.trans (ih _)

theorem noteAndReport_frame (s : State) (l : LaneId) (p : HandedPunch) :
    unchangedBut [.spool, .link] s (s.noteAndReport l p) := frame_noteAndReport l p (.refl _ _) (by decide) (by decide)

/-- The notes of a commit go to the spool as it stands. -/
theorem noteAndReport_spool (h : u.spool = s.spool) (l : LaneId) (q : HandedPunch) : (u.noteAndReport l q).spool =
    ((commitNotes q).foldl (fun v cause => v.requestEntry (.punchNote q.stamp l q.head q.badge q.noted cause)) s).spool :=
  ((frame_sendReport (L := [.link]) _ (.refl _ _) (by decide)).same (b := .spool) (by decide)).trans
    (foldl_requestEntry_spool _ h _)

theorem noteAndReport_link (h : u.link = s.link) (l : LaneId) (q : HandedPunch) : (u.noteAndReport l q).link =
    (s.sendReport (.pass q.stamp l q.head q.badge q.slot q.shown q.notRecorded)).link :=
  sendReport_link _ (((writeNotes_frame l q u _).same (b := .link) (by decide)).trans h)

/-! ### What step 1 of a commit leaves (R54, R95) -/

/-- Between two states a slot has been written in its record's fields, and nothing of the roster otherwise. -/
structure slotTaken (s t : State) (a : Nat) (y : Slot) : Prop where
  frame : unchangedBut [.roster, .records, .spool] s t
  same : t.slot a = y
  others : ∀ c, a ≠ c → t.slot c = s.slot c
  roster : t.roster = { s.roster with slots := t.roster.slots }
  form : t.rosterForm

theorem slotTaken.refl (h : s.rosterForm) (a : Nat) : slotTaken s s a (s.slot a) :=
  ⟨.refl _ _, rfl, fun _ _ => rfl, rfl, h⟩

theorem slotTaken_setSlot (h : slotTaken s t a y) (x : Slot) : slotTaken s (t.setSlot a x) a x :=
  ⟨frame_setSlot _ _ h.frame (by decide), slot_setSlot_same h.form a x,
    fun c hc => (slot_setSlot_other hc x).trans (h.others c hc), by rw [State.setSlot, State.setRoster_roster, h.roster],
    rosterForm_setSlot h.form a x⟩

/-- What leaves the roster alone, the records or the spool written, leaves the slot taken as it was. -/
theorem slotTaken.of_frame (h : slotTaken s t a y) (hf : unchangedBut [.records, .spool] t u) : slotTaken s u a y := by
  have hroster : u.roster = t.roster := hf.same (b := .roster) (by decide)
  refine ⟨h.frame.trans (hf.mono (by decide)), (slot_congr hroster a).trans h.same,
    fun c hc => (slot_congr hroster c).trans (h.others c hc), by rw [hroster, ← h.roster], ?_⟩
  unfold State.rosterForm
  rw [hroster]
  exact h.form

theorem slotTaken.isDamaged (h : slotTaken s t a y) (c : Nat) : t.isDamaged c = s.isDamaged c := by
  rw [State.isDamaged, h.roster, State.isDamaged]

theorem slotTaken_setRecord (h : slotTaken s t a y) (r : ShiftRecord) :
    slotTaken s (t.setRecord a r) a { y with record := r } := by
  have hset := slotTaken_setSlot h { t.slot a with record := r }
  rw [h.same] at hset
  exact h.same ▸ hset

theorem slotTaken_openRecord (h : s.rosterForm) (a : Nat) (i : Stamp) (off : Bool) :
    slotTaken s (s.openRecord a i off) a { s.slot a with
      record := .onShift (s.openedData (s.slot a) i off)
        ((s.openedData (s.slot a) i off).schedEnd + 60 * (s.activeBank.payClass (s.slot a).payClass).autoClose) } :=
  (slotTaken_setRecord (.refl h a) _).of_frame (frame_setRecords _ (.refl _ _) (by decide))

theorem slotTaken_weekWritten (h : s.rosterForm) (a : Nat) (x : PayInput) : slotTaken s (s.weekWritten a x) a
    { s.slot a with weekIndex := (weekAfter x).1, weekTotal := (weekAfter x).2 } :=
  slotTaken_setSlot ((slotTaken.refl h a).of_frame (frame_setRecords _ (.refl _ _) (by decide))) _

theorem slotTaken_spooled (h : s.rosterForm) (a : Nat) (x : PayInput) :
    slotTaken s (((s.weekWritten a x).appendEntry (.shiftTotal (shiftTotal x))).setRecord a .off) a
      { s.slot a with weekIndex := (weekAfter x).1, weekTotal := (weekAfter x).2, record := .off } :=
  slotTaken_setRecord ((slotTaken_weekWritten h a x).of_frame (frame_appendEntry _ (.refl _ _) (by decide))) .off

theorem slotTaken_waiting (h : s.rosterForm) (a : Nat) (x : PayInput) (r : ShiftRecord) (v : RecordUnit) :
    slotTaken s (((s.weekWritten a x).setRecord a r).setRecords v) a
      { s.slot a with weekIndex := (weekAfter x).1, weekTotal := (weekAfter x).2, record := r } :=
  (slotTaken_setRecord (slotTaken_weekWritten h a x) r).of_frame (frame_setRecords _ (.refl _ _) (by decide))

/-! ### How the record takes a punch (R95, R98, R100, R106) -/

section
variable (hsound : s.soundWords) (hactive : s.statusOf a = .active)
include hsound hactive

theorem recordPunch_of_sound (k : Classification) (i : Stamp) (off : Bool) : s.recordPunch a k i off =
    match k, (s.slot a).record with
    | .clockIn, .off => (s.openRecord a i off, .applied)
    | .breakOut, .onShift d e =>
      if d.breaks.length < 4 then (s.setRecord a (.onBreak { d with breaks := d.breaks ++ [⟨i, none⟩] } e), .applied)
      else (s, .doesNotApply)
    | .breakIn, .onBreak d e => (s.setRecord a (.onShift { d with breaks := closeLast i d.breaks } e), .applied)
    | .clockOut, .onShift _ _ => ((s.closeRecord a i .clockOut).1, .applied)
    | .clockOut, .onBreak _ _ => ((s.closeRecord a i .clockOut).1, .applied)
    | _, _ => (s, .doesNotApply) := by
  unfold State.recordPunch
  simp only [checkedRead_of_sound hsound]
  exact (if_neg (by simp [hactive])).trans rfl

theorem recordPunch_clockIn (hoff : (s.slot a).record = .off) (i : Stamp) (off : Bool) :
    s.recordPunch a .clockIn i off = (s.openRecord a i off, .applied) := by
  rw [recordPunch_of_sound hsound hactive, hoff]

theorem recordPunch_breakOut {d : RecordData} {e : Stamp} (hrecord : (s.slot a).record = .onShift d e)
    (hfew : d.breaks.length < 4) (i : Stamp) (off : Bool) : s.recordPunch a .breakOut i off =
      (s.setRecord a (.onBreak { d with breaks := d.breaks ++ [⟨i, none⟩] } e), .applied) := by
  rw [recordPunch_of_sound hsound hactive, hrecord]
  exact if_pos hfew

theorem recordPunch_breakIn {d : RecordData} {e : Stamp} (hrecord : (s.slot a).record = .onBreak d e) (i : Stamp)
    (off : Bool) : s.recordPunch a .breakIn i off =
      (s.setRecord a (.onShift { d with breaks := closeLast i d.breaks } e), .applied) := by
  rw [recordPunch_of_sound hsound hactive, hrecord]

theorem recordPunch_clockOut {d : RecordData} (hopen : (s.slot a).record.openData = some d) (i : Stamp) (off : Bool) :
    s.recordPunch a .clockOut i off = ((s.closeRecord a i .clockOut).1, .applied) := by
  rw [recordPunch_of_sound hsound hactive]
  cases hrecord : (s.slot a).record with
  | onShift | onBreak => rfl
  | off | closedWaiting => rw [hrecord] at hopen; cases hopen

/-- A punch whose classification no longer fits its record (R95). -/
theorem recordPunch_of_unfit {k : Classification}
    (hunfit : (k = .clockIn ∧ (s.slot a).record ≠ .off) ∨
      (k = .breakOut ∧ ∀ d u, (s.slot a).record = .onShift d u → 4 ≤ d.breaks.length) ∨
      (k = .breakIn ∧ ∀ d u, (s.slot a).record ≠ .onBreak d u) ∨
      (k = .clockOut ∧ (s.slot a).record.openData = none)) (i : Stamp) (off : Bool) :
    s.recordPunch a k i off = (s, .doesNotApply) := by
  rw [recordPunch_of_sound hsound hactive]
  rcases hunfit with ⟨rfl, h⟩ | ⟨rfl, h⟩ | ⟨rfl, h⟩ | ⟨rfl, h⟩
  · cases hrecord : (s.slot a).record with
    | off => exact absurd hrecord h
    | _ => rfl
  · cases hrecord : (s.slot a).record with
    | onShift d u => exact if_neg (Nat.not_lt.2 (h d u hrecord))
    | _ => rfl
  · cases hrecord : (s.slot a).record with
    | onBreak d u => exact absurd hrecord (h d u)
    | _ => rfl
  · cases hrecord : (s.slot a).record with
    | onShift | onBreak => rw [hrecord] at h; cases h
    | _ => rfl

end

/-! ### A worker's commit (R54, R55) -/

/-- A slot as steps 2 and 3 of a commit leave it (R54). -/
def Slot.presented (y : Slot) (p : HandedPunch) (epoch : Nat) : Slot :=
  { y with
    inside := decide (p.head.dir = .inward), presenceStamp := epoch
    lastPunch := match p.stamp with
      | some i => some (i, p.head)
      | none => y.lastPunch }

theorem commitSlot_of_sound (herrors : (s.slot a).errors = ⟨0, false⟩) (hactive : s.statusOf a = .active) (q : HandedPunch) :
    s.commitSlot a q = s.setSlot a ((s.slot a).presented q s.roster.epoch) := by
  unfold State.commitSlot State.writeSlot
  simp only [checkedRead_quiet (.inr herrors), hactive]
  rfl

theorem commit_of_visitor (h : p.slot = none) (l : LaneId) : s.commit l p = s.noteAndReport l p := by
  unfold State.commit
  rw [h]

theorem commit_of_active (hsound : s.soundWords) (hactive : s.statusOf a = .active) (h : p.slot = some a) (l : LaneId) :
    s.commit l p = ((s.commitRecord a p).1.commitSlot a (s.commitRecord a p).2).noteAndReport l (s.commitRecord a p).2 := by
  unfold State.commit
  rw [h]
  dsimp only
  rw [checkedRead_of_sound hsound, if_pos hactive]

/-- Between two states a worker's punch has been committed, its record's step having left one state and one slot. -/
structure committed (s u t : State) (l : LaneId) (a : Nat) (y : Slot) (q : HandedPunch) : Prop where
  frame : unchangedBut [.roster, .records, .spool, .link] s t
  same : t.slot a = y.presented q s.roster.epoch
  others : ∀ c, c ≠ a → t.slot c = s.slot c
  roster : t.roster = { s.roster with slots := t.roster.slots }
  records : t.records = u.records
  spool : ∀ v : State, u.spool = v.spool → t.spool = ((commitNotes q).foldl (fun v cause =>
    v.requestEntry (.punchNote q.stamp l q.head q.badge q.noted cause)) v).spool
  link : t.link = (s.sendReport (.pass q.stamp l q.head q.badge q.slot q.shown q.notRecorded)).link

theorem commit_committed (hsound : s.soundWords) (hactive : s.statusOf a = .active) (hslot : p.slot = some a)
    (hstep : s.commitRecord a p = (u, q)) (htaken : slotTaken s u a y) (hstatus : y.status = .active)
    (herrors : y.errors = ⟨0, false⟩) (l : LaneId) : committed s u (s.commit l p) l a y q := by
  obtain ⟨hdamage, -⟩ := statusOf_eq_active.1 hactive
  have hread : u.statusOf a = .active := statusOf_eq_active.2 ⟨(htaken.isDamaged a).trans hdamage, by rw [htaken.same, hstatus]⟩
  have hcommit : s.commit l p = (u.setSlot a (y.presented q s.roster.epoch)).noteAndReport l q := by
    have hepoch : u.roster.epoch = s.roster.epoch := by rw [htaken.roster]
    rw [commit_of_active hsound hactive hslot, hstep]
    dsimp only
    rw [commitSlot_of_sound (by rw [htaken.same, herrors]) hread, htaken.same, hepoch]
  have hset := slotTaken_setSlot htaken (y.presented q s.roster.epoch)
  have hnoted := noteAndReport_frame (u.setSlot a (y.presented q s.roster.epoch)) l q
  have hroster : (s.commit l p).roster = (u.setSlot a (y.presented q s.roster.epoch)).roster := by
    rw [hcommit]
    exact hnoted.same (b := .roster) (by decide)
  have hlink : u.link = s.link := htaken.frame.same (b := .link) (by decide)
  refine ⟨?_, (slot_congr hroster a).trans hset.same, fun c hc => (slot_congr hroster c).trans (hset.others c hc.symm),
    by rw [hroster]; exact hset.roster, ?_, fun v hv => ?_, ?_⟩
  · rw [hcommit]
    exact (hset.frame.mono (by decide)).trans (hnoted.mono (by decide))
  · rw [hcommit]
    exact hnoted.same (b := .records) (by decide)
  · rw [hcommit]
    exact noteAndReport_spool (u := u.setSlot a _) hv l q
  · rw [hcommit]
    exact noteAndReport_link (u := u.setSlot a _) hlink l q

theorem commitRecord_of_not_recorded (h : p.recorded = none) (a : Nat) : s.commitRecord a p = (s, p) := by
  unfold State.commitRecord
  rw [h]

theorem recorded_of_fit {k : Classification} (hcls : p.cls = some k) (hrecorded : p.notRecorded = false) (hin : k ≠ .passIn)
    (hout : k ≠ .passOut) : p.recorded = some k := by
  simp [HandedPunch.recorded, hcls, hrecorded, hin, hout]

theorem commitRecord_of_applied {k : Classification} (hk : p.recorded = some k) (hstamp : p.stamp = some i)
    (hrecord : s.recordPunch a k i p.offWindow = (u, .applied)) : s.commitRecord a p = (u, p) := by
  unfold State.commitRecord
  rw [hk, hstamp]
  dsimp only
  rw [hrecord]

/-- A punch turned to PASS_IN or PASS_OUT at its commit (R55). -/
def HandedPunch.turned (p : HandedPunch) : HandedPunch := { p with cls := some (passOf p.head.dir), notRecorded := true }

theorem commitRecord_of_unfit {k : Classification} (hk : p.recorded = some k) (hstamp : p.stamp = some i)
    (hrecord : s.recordPunch a k i p.offWindow = (u, .doesNotApply)) : s.commitRecord a p = (u, p.turned) := by
  unfold State.commitRecord
  rw [hk, hstamp]
  dsimp only
  rw [hrecord, HandedPunch.turned, hstamp]

/-! ### Opening, breaks and closure (R96, R98, R100, R101, R106, R109) -/

/-- Where a reference joins the deadline list: behind every earlier or equal deadline (R101). -/
theorem insertDeadline_split (deadlineOf : Nat → Option Stamp) (a : Nat) (e : Stamp) (l : List Nat) :
    ∃ before after, l = before ++ after ∧ insertDeadline deadlineOf a e l = before ++ a :: after ∧
      (∀ d ∈ before, ∀ u, deadlineOf d = some u → u ≤ e) ∧ ∀ d ∈ after.head?, ∃ u, deadlineOf d = some u ∧ e < u := by
  induction l with
  | nil => exact ⟨[], [], rfl, rfl, nofun, nofun⟩
  | cons x rest ih =>
    obtain ⟨before, after, hrest, hinsert, hbefore, hafter⟩ := ih
    have hjoin : ∀ (hx : ∀ u, deadlineOf x = some u → u ≤ e), insertDeadline deadlineOf a e (x :: rest) =
        x :: insertDeadline deadlineOf a e rest → ∃ before after, x :: rest = before ++ after ∧
          insertDeadline deadlineOf a e (x :: rest) = before ++ a :: after ∧
          (∀ d ∈ before, ∀ u, deadlineOf d = some u → u ≤ e) ∧ ∀ d ∈ after.head?, ∃ u, deadlineOf d = some u ∧ e < u := by
      intro hx hstep
      refine ⟨x :: before, after, by rw [hrest]; rfl, by rw [hstep, hinsert]; rfl, fun d hd => ?_, hafter⟩
      rcases List.mem_cons.1 hd with rfl | hd
      · exact hx
      · exact hbefore d hd
    cases hx : deadlineOf x with
    | none =>
      refine hjoin (fun u hu => by rw [hx] at hu; cases hu) ?_
      simp only [insertDeadline, hx]
    | some u =>
      by_cases he : e < u
      · refine ⟨[], x :: rest, rfl, by simp only [insertDeadline, hx, if_pos he, List.nil_append], nofun, fun d hd => ?_⟩
        cases hd
        exact ⟨u, hx, he⟩
      · refine hjoin (fun v hv => ?_) (by simp only [insertDeadline, hx, if_neg he])
        rw [hx] at hv
        cases hv
        exact Nat.not_lt.1 he

theorem closeLast_append (i o : Stamp) (pairs : List BreakPair) :
    closeLast i (pairs ++ [⟨o, none⟩]) = pairs ++ [⟨o, some i⟩] := by
  induction pairs with
  | nil => rfl
  | cons x rest ih =>
    cases rest with
    | nil => rfl
    | cons y more =>
      change x :: closeLast i ((y :: more) ++ [⟨o, none⟩]) = _
      rw [ih]
      rfl

/-- What the record takes of a CLOCK_OUT: its total in the spool, or waiting (R106, R109). -/
theorem closeRecord_taken (hform : s.rosterForm) (hsound : s.soundWords) {d : RecordData}
    (hopen : (s.slot a).record.openData = some d) (i : Stamp) (cause : ClosureCause) :
    let input := s.closureInput a d i cause
    let placed := s.records.closureQueue = [] ∧ s.spool.entries.length < 4096
    let remaining := s.records.deadlines.filter fun b => decide (b ≠ a)
    let weeks (r : ShiftRecord) : Slot :=
      { s.slot a with weekIndex := (weekAfter input).1, weekTotal := (weekAfter input).2, record := r }
    let v := (s.closeRecord a i cause).1
    (placed → slotTaken s v a (weeks .off) ∧ v.records = { s.records with deadlines := remaining } ∧
      v.spool = (s.appendEntry (.shiftTotal (shiftTotal input))).spool) ∧
    (¬ placed → slotTaken s v a (weeks (.closedWaiting { input.data with flags := (shiftTotal input).flags } i
        (shiftTotal input))) ∧
      v.records = { s.records with deadlines := remaining, closureQueue := s.records.closureQueue ++ [a] } ∧
      v.spool = s.spool) := by
  intro input placed remaining weeks v
  have hclose := closeRecord_of_sound i hsound hopen cause
  refine ⟨fun hplaced => ?_, fun hnot => ?_⟩
  · have hv : v = ((s.weekWritten a input).appendEntry (.shiftTotal (shiftTotal input))).setRecord a .off := by
      rw [show v = _ from congrArg Prod.fst hclose, placeTotal_of_room (s := s.weekWritten a _) hplaced]
    rw [hv]
    exact ⟨slotTaken_spooled hform a input, rfl, rfl⟩
  · have hv : v = ((s.weekWritten a input).setRecord a (.closedWaiting { input.data with flags := (shiftTotal input).flags }
        i (shiftTotal input))).setRecords { (s.weekWritten a input).records with
          closureQueue := s.records.closureQueue ++ [a] } := by
      rw [show v = _ from congrArg Prod.fst hclose, placeTotal_of_no_room (s := s.weekWritten a _) hnot]
      rfl
    rw [hv]
    exact ⟨slotTaken_waiting hform a input _ _, rfl, rfl⟩

/-- What a CLOCK_IN's record holds, its scheduled start the nearest or the minute of the punch (R96–R98). -/
theorem openedData_eq (s : State) (x : Slot) (i : Stamp) (off : Bool) :
    let start := nearestStart s.activeBank s.time.weekdayOffset (s.activeBank.shiftPattern x.pattern) i
    let first := start.getD (i / 60 * 60)
    let last := match start with
      | some u => u + 60 * (s.activeBank.shiftPattern x.pattern).length
      | none => i / 60 * 60 + 28800
    s.openedData x i off =
      { inStamp := i, pattern := x.pattern, schedStart := first, schedEnd := last, anchorDay := first / 86400
        anchorWeek := s.weekOf first, breaks := [], generation := s.banks.generation, stepCount := s.time.stepCount
        holdCount := s.time.holdCount
        flags := { offWindow := off, unscheduled := start.isNone, missingOut := false, withdrawn := false
                   breakOpen := false, clockStepped := false, hold := false, rulesChanged := false, negative := false
                   capped := false } } := by
  intro start first last
  have hanchor : s.anchor x.pattern i = (first, last, start.isNone) := by
    unfold State.anchor
    change (match start with
      | some t => (t, t + 60 * (s.activeBank.shiftPattern x.pattern).length, false)
      | none => (i / 60 * 60, i / 60 * 60 + 28800, true)) = _
    cases hstart : start <;> simp only [first, last, hstart] <;> rfl
  unfold State.openedData
  rw [hanchor]
  rfl

end

/-- Settles O30: the record's step by its case, then presence, last punch, notes and report on what it left. -/
theorem passageCommitsThePunch : Obligations.PassageCommitsThePunch := by
  unfold Obligations.PassageCommitsThePunch
  intro s l p hp t notes noted reported
  have ht : t = s.commit l p := passageNotice_of_some hp
  have hnotes : ∀ q : HandedPunch, notes q = commitNotes q := fun q => by
    simp only [notes, commitNotes, ← Option.isSome_iff_ne_none]
  have hnoted : ∀ (q : HandedPunch) (v : State), noted q v = ((commitNotes q).foldl (fun w cause =>
      w.requestEntry (.punchNote q.stamp l q.head q.badge q.noted cause)) v).spool := fun q v => by
    simp only [noted, hnotes]
  refine ⟨fun hvisitor => ?_, fun a hform hsound hd hslot hactive => ?_⟩
  · rw [ht, commit_of_visitor hvisitor, hnoted]
    exact ⟨noteAndReport_frame s l p, noteAndReport_spool rfl l p, noteAndReport_link rfl l p⟩
  intro x c written frame
  have hstatus : s.statusOf a = .active := statusOf_eq_active.2 ⟨hd, hactive⟩
  have herrors : (s.slot a).errors = ⟨0, false⟩ := hsound a hd
  have hdone : ∀ {u q y}, s.commitRecord a p = (u, q) → slotTaken s u a y → y.status = .active → y.errors = ⟨0, false⟩ →
      committed s u t l a y q := fun hstep htaken h1 h2 =>
    ht ▸ commit_committed hsound hstatus hslot hstep htaken h1 h2 l
  have hspool : ∀ {u q y} (v : State), committed s u t l a y q → u.spool = v.spool → t.spool = noted q v :=
    fun v h hv => (h.spool v hv).trans (hnoted _ v).symm
  refine ⟨fun hpass => ?pass, fun i k hstamp hcls hrecorded => ⟨fun hk hoff => ?clockIn, fun d u hk hrecord hfew => ?breakOut,
    fun d u pairs o hk hrecord hbreaks => ?breakIn, fun d hk hopen => ?clockOut, fun hunfit => ?unfit⟩⟩
  · have hnone : p.recorded = none := if_pos (.inr hpass)
    have h := hdone (commitRecord_of_not_recorded hnone a) (.refl hform a) hactive herrors
    exact ⟨⟨h.frame, h.others, h.roster⟩, h.records, h.same, hspool s h rfl, h.link⟩
  · subst hk
    intro start first last deadline opened
    have h := hdone (commitRecord_of_applied (recorded_of_fit hcls hrecorded (by decide) (by decide)) hstamp
      (recordPunch_clockIn hsound hstatus hoff i p.offWindow)) (slotTaken_openRecord hform a i p.offWindow) hactive herrors
    have hdata : s.openedData x i p.offWindow = opened := openedData_eq s x i p.offWindow
    obtain ⟨before, after, hlist, hinsert, hbefore, hafter⟩ := insertDeadline_split s.deadlineOf a deadline s.records.deadlines
    refine ⟨⟨h.frame, h.others, h.roster⟩, ?_, hspool s h rfl, h.link, before, after, hlist, ?_, hbefore, hafter⟩
    · rw [h.same, hdata]
      rfl
    · rw [h.records, ← hinsert]
      change { s.records with
        deadlines := insertDeadline s.deadlineOf a ((s.openedData x i p.offWindow).schedEnd + 60 * c.autoClose)
          s.records.deadlines } = _
      rw [hdata]
  · subst hk
    have h := hdone (commitRecord_of_applied (recorded_of_fit hcls hrecorded (by decide) (by decide)) hstamp
      (recordPunch_breakOut hsound hstatus hrecord hfew i p.offWindow)) (slotTaken_setRecord (.refl hform a) _) hactive herrors
    exact ⟨⟨h.frame, h.others, h.roster⟩, h.records, hspool s h rfl, h.link, h.same⟩
  · subst hk
    have h := hdone (commitRecord_of_applied (recorded_of_fit hcls hrecorded (by decide) (by decide)) hstamp
      (recordPunch_breakIn hsound hstatus hrecord i p.offWindow)) (slotTaken_setRecord (.refl hform a) _) hactive herrors
    rw [hbreaks, closeLast_append] at h
    exact ⟨⟨h.frame, h.others, h.roster⟩, h.records, hspool s h rfl, h.link, h.same⟩
  · subst hk
    intro input total placed weeks remaining
    have hstep := commitRecord_of_applied (recorded_of_fit hcls hrecorded (by decide) (by decide)) hstamp
      (recordPunch_clockOut hsound hstatus hopen i p.offWindow)
    obtain ⟨hroom, hfull⟩ := closeRecord_taken hform hsound hopen i .clockOut
    by_cases hplaced : placed
    · obtain ⟨htaken, hrecords, hentry⟩ := hroom hplaced
      have h := hdone hstep htaken hactive herrors
      exact ⟨⟨h.frame, h.others, h.roster⟩, h.link, fun _ => ⟨h.same, h.records.trans hrecords, hspool _ h hentry⟩,
        fun hnot => absurd hplaced hnot⟩
    · obtain ⟨htaken, hrecords, hentry⟩ := hfull hplaced
      have h := hdone hstep htaken hactive herrors
      exact ⟨⟨h.frame, h.others, h.roster⟩, h.link, fun hyes => absurd hyes hplaced,
        fun _ => ⟨h.same, h.records.trans hrecords, hspool s h hentry⟩⟩
  · intro q
    have hk : k ≠ .passIn ∧ k ≠ .passOut := by rcases hunfit with ⟨rfl, -⟩ | ⟨rfl, -⟩ | ⟨rfl, -⟩ | ⟨rfl, -⟩ <;> decide
    have h := hdone (commitRecord_of_unfit (recorded_of_fit hcls hrecorded hk.1 hk.2) hstamp
      (recordPunch_of_unfit hsound hstatus hunfit i p.offWindow)) (.refl hform a) hactive herrors
    exact ⟨⟨h.frame, h.others, h.roster⟩, h.records, h.same, hspool s h rfl, h.link⟩

end Sys2Proof.Machine
end

section
/-! ## A turnstile's encoder changes (R54, R57, R71, R73, R81–R83) -/
namespace Sys2Proof.Machine

section
variable {s t u w : State} {l m : LaneId} {a : Nat} {p : HandedPunch} {i : Stamp}

/-! ### A commit keeps the words sound, and turns on no lane, punch or input (R33, R54) -/

/-- How a classification and a record stand to each other (R95). -/
theorem record_cases (k : Classification) (r : ShiftRecord) :
    (k = .clockIn ∧ r = .off) ∨ (∃ d e, k = .breakOut ∧ r = .onShift d e ∧ d.breaks.length < 4) ∨
      (∃ d e, k = .breakIn ∧ r = .onBreak d e) ∨ (∃ d, k = .clockOut ∧ r.openData = some d) ∨
      ((k = .clockIn ∧ r ≠ .off) ∨ (k = .breakOut ∧ ∀ d u, r = .onShift d u → 4 ≤ d.breaks.length) ∨
        (k = .breakIn ∧ ∀ d u, r ≠ .onBreak d u) ∨ (k = .clockOut ∧ r.openData = none)) ∨
      (k = .passIn ∨ k = .passOut) := by
  cases k with
  | clockIn => by_cases hoff : r = .off <;> simp [hoff]
  | breakOut =>
    cases r with
    | onShift d e =>
      by_cases hfew : d.breaks.length < 4
      · exact .inr (.inl ⟨d, e, rfl, rfl, hfew⟩)
      · refine .inr (.inr (.inr (.inr (.inl (.inr (.inl ⟨rfl, fun c u hc => ?_⟩))))))
        cases hc
        exact Nat.not_lt.1 hfew
    | _ => simp
  | breakIn => cases r <;> simp
  | clockOut => cases hopen : r.openData <;> simp
  | passIn | passOut => simp

section
variable (hsound : s.soundWords) (hactive : s.statusOf a = .active)
include hsound hactive

theorem recordPunch_of_pass {k : Classification} (hk : k = .passIn ∨ k = .passOut) (i : Stamp) (off : Bool) :
    s.recordPunch a k i off = (s, .doesNotApply) := by
  rw [recordPunch_of_sound hsound hactive]
  rcases hk with rfl | rfl <;> rfl

/-- Whatever a record makes of a punch, its slot stays ACTIVE with its words sound. -/
theorem recordPunch_taken (hform : s.rosterForm) (k : Classification) (i : Stamp) (off : Bool) :
    ∃ y, slotTaken s (s.recordPunch a k i off).1 a y ∧ y.status = (s.slot a).status ∧ y.errors = (s.slot a).errors := by
  have hquiet : s.recordPunch a k i off = (s, .doesNotApply) →
      ∃ y, slotTaken s (s.recordPunch a k i off).1 a y ∧ y.status = (s.slot a).status ∧ y.errors = (s.slot a).errors :=
    fun h => ⟨s.slot a, by rw [h]; exact .refl hform a, rfl, rfl⟩
  rcases record_cases k (s.slot a).record with ⟨rfl, hoff⟩ | ⟨d, e, rfl, hrecord, hfew⟩ | ⟨d, e, rfl, hrecord⟩ | ⟨d, rfl, hopen⟩ |
    hunfit | hpass
  · rw [recordPunch_clockIn hsound hactive hoff]
    exact ⟨_, slotTaken_openRecord hform a i off, rfl, rfl⟩
  · rw [recordPunch_breakOut hsound hactive hrecord hfew]
    exact ⟨_, slotTaken_setRecord (.refl hform a) _, rfl, rfl⟩
  · rw [recordPunch_breakIn hsound hactive hrecord]
    exact ⟨_, slotTaken_setRecord (.refl hform a) _, rfl, rfl⟩
  · rw [recordPunch_clockOut hsound hactive hopen]
    obtain ⟨hroom, hfull⟩ := closeRecord_taken hform hsound hopen i .clockOut
    by_cases hplaced : s.records.closureQueue = [] ∧ s.spool.entries.length < 4096
    · exact ⟨_, (hroom hplaced).1, rfl, rfl⟩
    · exact ⟨_, (hfull hplaced).1, rfl, rfl⟩
  · exact hquiet (recordPunch_of_unfit hsound hactive hunfit i off)
  · exact hquiet (recordPunch_of_pass hsound hactive hpass i off)

theorem commitRecord_taken (hform : s.rosterForm) (p : HandedPunch) : ∃ y, slotTaken s (s.commitRecord a p).1 a y ∧
    y.status = (s.slot a).status ∧ y.errors = (s.slot a).errors := by
  unfold State.commitRecord
  split
  · next k i _ _ =>
    obtain ⟨y, htaken, hstatus, herrors⟩ := recordPunch_taken hsound hactive hform k i p.offWindow
    refine ⟨y, ?_, hstatus, herrors⟩
    dsimp only
    split <;> exact htaken
  · exact ⟨_, .refl hform a, rfl, rfl⟩

end

/-- A commit changes no slot's status and damages none. -/
theorem commit_status (hform : s.rosterForm) (hsound : s.soundWords) (l : LaneId) (p : HandedPunch) (c : Nat) :
    (s.commit l p).isDamaged c = s.isDamaged c ∧ ((s.commit l p).slot c).status = (s.slot c).status ∧
      ((s.commit l p).slot c).errors = (s.slot c).errors := by
  have hnoted : ∀ q, ((s.noteAndReport l q).isDamaged c = s.isDamaged c ∧
      ((s.noteAndReport l q).slot c).status = (s.slot c).status ∧ ((s.noteAndReport l q).slot c).errors = (s.slot c).errors) :=
    fun q => by
      have hroster := noteAndReport_roster (s := s) l q
      rw [isDamaged_congr hroster, slot_congr hroster]
      exact ⟨rfl, rfl, rfl⟩
  cases hslot : p.slot with
  | none => exact commit_of_visitor hslot l ▸ hnoted p
  | some a =>
    by_cases hactive : s.statusOf a = .active
    · obtain ⟨y, htaken, hstatus, herrors⟩ := commitRecord_taken hsound hactive hform p
      obtain ⟨hd, hx⟩ := statusOf_eq_active.1 hactive
      have h := commit_committed hsound hactive hslot (u := (s.commitRecord a p).1) rfl htaken (hstatus.trans hx)
        (herrors.trans (hsound a hd)) l
      refine ⟨by rw [State.isDamaged, h.roster, State.isDamaged], ?_⟩
      by_cases hca : c = a
      · subst hca
        rw [h.same]
        exact ⟨hstatus, herrors⟩
      · rw [h.others c hca]
        exact ⟨rfl, rfl⟩
    · have hcommit : s.commit l p = s.noteAndReport l { p with notRecorded := true } := by
        unfold State.commit
        rw [hslot]
        dsimp only
        rw [checkedRead_of_sound hsound, if_neg hactive]
      exact hcommit ▸ hnoted _

theorem commit_soundWords (hform : s.rosterForm) (hsound : s.soundWords) (l : LaneId) (p : HandedPunch) :
    (s.commit l p).soundWords := by
  intro c hc
  obtain ⟨hd, -, herrors⟩ := commit_status hform hsound l p c
  rw [herrors]
  exact hsound c (hd ▸ hc)

/-- A state with the lanes, the punches and the inputs of another. -/
def State.over (s u : State) : State := { s with lanes := u.lanes, punch := u.punch, inputs := u.inputs }

theorem over_closeRecord (hsound : s.soundWords) {d : RecordData} (hopen : (s.slot a).record.openData = some d) (i : Stamp)
    (cause : ClosureCause) : ((s.over u).closeRecord a i cause).1 = (s.closeRecord a i cause).1.over u := by
  rw [closeRecord_of_sound i hsound hopen, closeRecord_of_sound (s := s.over u) i hsound hopen]
  by_cases hroom : s.records.closureQueue = [] ∧ s.spool.entries.length < 4096
  · rw [placeTotal_of_room (s := s.weekWritten a _) hroom, placeTotal_of_room (s := (s.over u).weekWritten a _) hroom]
    rfl
  · rw [placeTotal_of_no_room (s := s.weekWritten a _) hroom, placeTotal_of_no_room (s := (s.over u).weekWritten a _) hroom]
    rfl

theorem over_recordPunch (hsound : s.soundWords) (hactive : s.statusOf a = .active) (k : Classification) (i : Stamp)
    (off : Bool) : (s.over u).recordPunch a k i off =
      ((s.recordPunch a k i off).1.over u, (s.recordPunch a k i off).2) := by
  rcases record_cases k (s.slot a).record with ⟨rfl, hoff⟩ | ⟨d, e, rfl, hrecord, hfew⟩ | ⟨d, e, rfl, hrecord⟩ | ⟨d, rfl, hopen⟩ |
    hunfit | hpass
  · rw [recordPunch_clockIn hsound hactive hoff, recordPunch_clockIn (s := s.over u) hsound hactive hoff]
    rfl
  · rw [recordPunch_breakOut hsound hactive hrecord hfew, recordPunch_breakOut (s := s.over u) hsound hactive hrecord hfew]
    rfl
  · rw [recordPunch_breakIn hsound hactive hrecord, recordPunch_breakIn (s := s.over u) hsound hactive hrecord]
    rfl
  · rw [recordPunch_clockOut hsound hactive hopen, recordPunch_clockOut (s := s.over u) hsound hactive hopen,
      over_closeRecord hsound hopen]
  · rw [recordPunch_of_unfit hsound hactive hunfit, recordPunch_of_unfit (s := s.over u) hsound hactive hunfit]
  · rw [recordPunch_of_pass hsound hactive hpass, recordPunch_of_pass (s := s.over u) hsound hactive hpass]

theorem over_commitRecord (hsound : s.soundWords) (hactive : s.statusOf a = .active) (p : HandedPunch) :
    (s.over u).commitRecord a p = ((s.commitRecord a p).1.over u, (s.commitRecord a p).2) := by
  unfold State.commitRecord
  split
  · dsimp only
    rw [over_recordPunch hsound hactive]
    dsimp only
    split <;> rfl
  · rfl

theorem over_sendReport (r : Report) : (s.over u).sendReport r = (s.sendReport r).over u := by
  unfold State.sendReport
  change (if s.link.online = true then (if s.link.transmit.length < 31 then _ else _) else _) = _
  by_cases honline : s.link.online = true
  · by_cases hroom : s.link.transmit.length < 31
    · rw [if_pos honline, if_pos hroom, if_pos honline, if_pos hroom]
      rfl
    · rw [if_pos honline, if_neg hroom, if_pos honline, if_neg hroom]
      rfl
  · rw [if_neg honline, if_neg honline]

theorem over_writeNote (l : LaneId) (p : HandedPunch) (c : NoteCause) :
    (s.over u).writeNote l p c = (s.writeNote l p c).over u := by
  unfold State.writeNote State.requestEntry
  change (if s.spool.entries.length < 3840 then _ else _) = _
  by_cases hroom : s.spool.entries.length < 3840
  · rw [if_pos hroom, if_pos hroom]
    rfl
  · rw [if_neg hroom, if_neg hroom]
    rfl

theorem over_noteAndReport (l : LaneId) (p : HandedPunch) : (s.over u).noteAndReport l p = (s.noteAndReport l p).over u := by
  have hnotes : ∀ (causes : List NoteCause) (s : State),
      causes.foldl (State.writeNote l p) (s.over u) = (causes.foldl (State.writeNote l p) s).over u := by
    intro causes
    induction causes with
    | nil => exact fun _ => rfl
    | cons c rest ih =>
      intro s
      rw [List.foldl_cons, over_writeNote, ih, List.foldl_cons]
  unfold State.noteAndReport
  rw [hnotes, over_sendReport]

/-- A commit is the same whatever the lanes, the punches and the inputs are (R54). -/
theorem over_commit (hform : s.rosterForm) (hsound : s.soundWords) (l : LaneId) (p : HandedPunch) :
    (s.over u).commit l p = (s.commit l p).over u := by
  cases hslot : p.slot with
  | none => rw [commit_of_visitor hslot, commit_of_visitor hslot, over_noteAndReport]
  | some a =>
    by_cases hactive : s.statusOf a = .active
    · obtain ⟨y, htaken, hstatus, herrors⟩ := commitRecord_taken hsound hactive hform p
      obtain ⟨hd, hx⟩ := statusOf_eq_active.1 hactive
      have hy : ((s.commitRecord a p).1.slot a).errors = ⟨0, false⟩ := by rw [htaken.same, herrors, hsound a hd]
      have hread : (s.commitRecord a p).1.statusOf a = .active :=
        statusOf_eq_active.2 ⟨(htaken.isDamaged a).trans hd, by rw [htaken.same, hstatus, hx]⟩
      rw [commit_of_active hsound hactive hslot, commit_of_active (s := s.over u) hsound hactive hslot,
        over_commitRecord hsound hactive]
      dsimp only
      rw [commitSlot_of_sound hy hread, commitSlot_of_sound (s := (s.commitRecord a p).1.over u) hy hread,
        ← over_noteAndReport]
      rfl
    · unfold State.commit
      rw [hslot]
      dsimp only
      rw [checkedRead_of_sound hsound, checkedRead_of_sound (s := s.over u) hsound, if_neg hactive,
        if_neg (show ¬ (s.over u).statusOf a = .active from hactive), over_noteAndReport]

/-! ### The decoder and the count (R81) -/

/-- One line of the pair has changed, the way the inward cycle goes (R81). -/
def Lane.turnsInward (x : Lane) (a b : Bool) : Prop :=
  (x.decoderA = x.decoderB ∧ a = x.decoderA ∧ b ≠ x.decoderB) ∨ (x.decoderA ≠ x.decoderB ∧ a ≠ x.decoderA ∧ b = x.decoderB)

/-- One line of the pair has changed, the way the outward cycle goes (R81). -/
def Lane.turnsOutward (x : Lane) (a b : Bool) : Prop :=
  (x.decoderA = x.decoderB ∧ a ≠ x.decoderA ∧ b = x.decoderB) ∨ (x.decoderA ≠ x.decoderB ∧ a = x.decoderA ∧ b ≠ x.decoderB)

theorem encoderStep_inward {x : Lane} {a b : Bool} (h : x.turnsInward a b) :
    encoderStep x.decoderA x.decoderB a b = .inward := by
  unfold Lane.turnsInward at h
  revert h
  cases x.decoderA <;> cases x.decoderB <;> revert a b <;> decide

theorem encoderStep_outward {x : Lane} {a b : Bool} (h : x.turnsOutward a b) :
    encoderStep x.decoderA x.decoderB a b = .outward := by
  unfold Lane.turnsOutward at h
  revert h
  cases x.decoderA <;> cases x.decoderB <;> revert a b <;> decide

theorem encoderStep_error {x : Lane} {a b : Bool} (ha : a ≠ x.decoderA) (hb : b ≠ x.decoderB) :
    encoderStep x.decoderA x.decoderB a b = .error := by
  revert ha hb
  cases x.decoderA <;> cases x.decoderB <;> revert a b <;> decide

/-- A lane with its decoder pair and its count changed (R81). -/
def Lane.turned (x : Lane) (a b : Bool) (n : Int) : Lane := { x with decoderA := a, decoderB := b, encoder := n }

/-- The state with an encoder change taken and the lane's count moved to a value. -/
def State.turned (s : State) (l : LaneId) (a b : Bool) (n : Int) : State :=
  s.undelivered.setLane l ((s.lane l).turned a b n)

section
variable {a b : Bool} {n : Int}

theorem turned_lane (s : State) (l : LaneId) (a b : Bool) (n : Int) : (s.turned l a b n).lane l = (s.lane l).turned a b n :=
  State.setLane_same _ _ _

theorem turned_lane_other (hlm : l ≠ m) : (s.turned l a b n).lane m = s.lane m := State.setLane_other _ _ _ _ hlm

theorem turned_frame (s : State) (l : LaneId) (a b : Bool) (n : Int) : unchangedBut [.lanes, .inputs] s (s.turned l a b n) :=
  frame_setLane l _ (frame_setInputs _ (.refl _ _) (by decide)) (by decide)

theorem sameLevels_turned (s : State) (l : LaneId) (a b : Bool) (n : Int) : sameLevels s (s.turned l a b n) :=
  (sameLevels_undelivered s).trans (sameLevels_setLane (s := s.undelivered) rfl)

theorem turned_setLane (x : Lane) : (s.turned l a b n).setLane l x = s.undelivered.setLane l x := setLane_setLane _ _ _ _

theorem turned_zeroEncoder (s : State) (l : LaneId) (a b : Bool) (n : Int) :
    (s.turned l a b n).zeroEncoder l = s.turned l a b 0 := by
  unfold State.zeroEncoder
  rw [turned_setLane, turned_lane]
  rfl

theorem exec_encoderChange (hrun : s.supply.state = .run) (hkind : (s.lane l).setup.kind = .turnstile)
    (hd : s.inputs.deliveries = [.encoder l a b]) :
    exec (.encoderChange l a b) s = .next (s.undelivered.encoderMoves l a b).settle := by
  have htake : s.takeChange (.encoder l a b) = s.undelivered := by
    unfold State.takeChange State.dropDelivery
    simp [hd, State.undelivered]
  have hexec : exec (.encoderChange l a b) s = .next (if ((s.takeChange (.encoder l a b)).lane l).setup.kind = .turnstile
      then ((s.takeChange (.encoder l a b)).encoderMoves l a b).settle else s.takeChange (.encoder l a b)) := by
    change execEncoderChange l a b s = _
    exact whileRunning_of_run hrun
  rw [hexec, htake]
  exact congrArg _ (if_pos hkind)

theorem countStep_turned (s : State) (l : LaneId) (a b : Bool) (e k : Int) : (s.turned l a b e).countStep l k =
    if ((s.lane l).setup.passageStep : Int) ≤ e + k then (s.turned l a b (e + k)).stepReached l .inward
    else if e + k ≤ -((s.lane l).setup.passageStep : Int) then (s.turned l a b (e + k)).stepReached l .outward
    else s.turned l a b (e + k) := by
  unfold State.countStep
  rw [turned_lane]
  dsimp only
  rw [turned_setLane]
  rfl

/-- What a change of the pair does, by the step it is (R81). -/
theorem encoderMoves_eq (s : State) (l : LaneId) (a b : Bool) : s.undelivered.encoderMoves l a b =
    match encoderStep (s.lane l).decoderA (s.lane l).decoderB a b with
    | .stay => s.turned l a b (s.lane l).encoder
    | .inward => (s.turned l a b (s.lane l).encoder).countStep l 1
    | .outward => (s.turned l a b (s.lane l).encoder).countStep l (-1)
    | .error => (s.turned l a b (s.lane l).encoder).laneAlarm l .encoderError := rfl

theorem encoderMoves_inward (h : (s.lane l).turnsInward a b) :
    s.undelivered.encoderMoves l a b = (s.turned l a b (s.lane l).encoder).countStep l 1 := by
  rw [encoderMoves_eq, encoderStep_inward h]

theorem encoderMoves_outward (h : (s.lane l).turnsOutward a b) :
    s.undelivered.encoderMoves l a b = (s.turned l a b (s.lane l).encoder).countStep l (-1) := by
  rw [encoderMoves_eq, encoderStep_outward h]

theorem encoderMoves_error (ha : a ≠ (s.lane l).decoderA) (hb : b ≠ (s.lane l).decoderB) :
    s.undelivered.encoderMoves l a b = (s.turned l a b (s.lane l).encoder).laneAlarm l .encoderError := by
  rw [encoderMoves_eq, encoderStep_error ha hb]

/-- A change below the passage step moves the count alone (R81). -/
theorem encoderMoves_below (hmoves : (s.lane l).turnsInward a b ∧ n = (s.lane l).encoder + 1 ∨
      (s.lane l).turnsOutward a b ∧ n = (s.lane l).encoder - 1)
    (hlow : -((s.lane l).setup.passageStep : Int) < n) (hhigh : n < (s.lane l).setup.passageStep) :
    s.undelivered.encoderMoves l a b = s.turned l a b n := by
  rcases hmoves with ⟨hturn, rfl⟩ | ⟨hturn, rfl⟩
  · rw [encoderMoves_inward hturn, countStep_turned, if_neg (Int.not_le.2 hhigh), if_neg (Int.not_le.2 hlow)]
  · rw [encoderMoves_outward hturn, countStep_turned, ← Int.sub_eq_add_neg, if_neg (Int.not_le.2 hhigh),
      if_neg (Int.not_le.2 hlow)]

/-- A change brings a lane's count to its passage step in a direction (R81). -/
def Lane.steps (x : Lane) (a b : Bool) (d : Dir) : Prop :=
  (d = .inward ∧ x.turnsInward a b ∧ x.encoder + 1 = x.setup.passageStep) ∨
    (d = .outward ∧ x.turnsOutward a b ∧ x.encoder - 1 = -(x.setup.passageStep : Int))

/-- A change that brings the count to the passage step (R81). -/
theorem encoderMoves_stepped {d : Dir} (hstep : 0 < (s.lane l).setup.passageStep) (h : (s.lane l).steps a b d) :
    ∃ n, s.undelivered.encoderMoves l a b = (s.turned l a b n).stepReached l d := by
  rcases h with ⟨rfl, hturn, hcount⟩ | ⟨rfl, hturn, hcount⟩
  · exact ⟨_, (encoderMoves_inward hturn).trans ((countStep_turned ..).trans (if_pos (le_of_eq hcount.symm)))⟩
  · refine ⟨_, (encoderMoves_outward hturn).trans ((countStep_turned ..).trans ((if_neg ?_).trans (if_pos (le_of_eq hcount))))⟩
    omega

/-! ### The passage step with no released grant (R83) -/

/-- What excuses a step with no released grant (R83). -/
def State.excusesStep (s : State) (l : LaneId) (d : Dir) : Prop :=
  s.driveRelease l = true ∨ (s.lane l).mode = .free ∨ (s.lane l).mode = .egress ∨
    (d = .outward ∧ ((s.lane l).exitAllowance.isSome = true ∨ s.exitActive l = true))

theorem stepReached_ungranted {d : Dir} (h : ∀ g ∈ (s.lane l).grant, g.phase = .waiting) :
    (s.turned l a b n).stepReached l d = (s.turned l a b n).stepUngranted l d := by
  unfold State.stepReached
  rw [turned_lane]
  split
  · next g hg =>
    have hphase : g.phase = .waiting := h g hg
    exact if_neg (by simp [hphase])
  · rfl

theorem stepUngranted_turned (d : Dir) : (s.turned l a b n).stepUngranted l d =
    if (s.turned l a b 0).driveRelease l = true ∨ ((s.turned l a b 0).lane l).mode = .free ∨
      ((s.turned l a b 0).lane l).mode = .egress then s.turned l a b 0
    else if d = .outward ∧ (s.turned l a b 0).exitExpected l = true then s.turned l a b 0
    else (s.turned l a b 0).laneAlarm l .forced := by
  unfold State.stepUngranted
  rw [turned_zeroEncoder]

theorem stepUngranted_of_excused {d : Dir} (h : s.excusesStep l d) : (s.turned l a b n).stepUngranted l d = s.turned l a b 0 := by
  unfold State.excusesStep at h
  rw [stepUngranted_turned, (sameLevels_turned s l a b 0).driveRelease, turned_lane]
  simp only [State.exitExpected, turned_lane, Bool.or_eq_true]
  change (if s.driveRelease l = true ∨ (s.lane l).mode = .free ∨ (s.lane l).mode = .egress then _
    else if d = .outward ∧ ((s.lane l).exitAllowance.isSome = true ∨ s.exitActive l = true) then _ else _) = _
  split_ifs
  · rfl
  · rfl
  · tauto

theorem stepUngranted_of_not_excused {d : Dir} (h : ¬ s.excusesStep l d) :
    (s.turned l a b n).stepUngranted l d = (s.turned l a b 0).laneAlarm l .forced := by
  unfold State.excusesStep at h
  rw [stepUngranted_turned, (sameLevels_turned s l a b 0).driveRelease, turned_lane]
  simp only [State.exitExpected, turned_lane, Bool.or_eq_true]
  change (if s.driveRelease l = true ∨ (s.lane l).mode = .free ∨ (s.lane l).mode = .egress then _
    else if d = .outward ∧ ((s.lane l).exitAllowance.isSome = true ∨ s.exitActive l = true) then _ else _) = _
  rw [if_neg (by tauto), if_neg (by tauto)]

/-- An alarm of the turned lane leaves the levels settled. -/
theorem turned_alarmed (hrun : s.supply.state = .run) (hlevels : s.levelLaw) (hkind : (s.lane l).setup.kind = .turnstile)
    (cause : AlarmCause) : ∃ t, ((s.turned l a b n).laneAlarm l cause).settle = t ∧
      unchangedBut [.lanes, .inputs, .spool, .link] s t ∧ t.lanes = (s.turned l a b n).lanes ∧
      t.inputs = (s.turned l a b n).inputs ∧ entered (.laneAlarm s.now l cause) s t := by
  have hused : ((s.turned l a b n).lane l).setup.kind ≠ .unused := by rw [turned_lane]; simp [Lane.turned, hkind]
  have hframe := requestEntry_frame (s.turned l a b n) (.laneAlarm s.now l cause)
  have hsame := (sameLevels_turned s l a b n).trans (sameLevels_of_frame hframe (by decide))
  rw [laneAlarm_of_kind (s := s.turned l a b n) hrun hused]
  exact ⟨_, hsame.settle hlevels, ((turned_frame s l a b n).mono (by decide)).trans (hframe.mono (by decide)),
    hframe.same (b := .lanes) (by decide), hframe.same (b := .inputs) (by decide), entered_requestEntry _ rfl rfl⟩

/-! ### The passage step with a released grant (R57, R73, R82) -/

theorem Lane.modeReleases_of_used {x : Lane} (h : x.setup.kind ≠ .unused) :
    x.modeReleases = (decide (x.mode = .free) || decide (x.mode = .egress)) := by
  simp [Lane.modeReleases, h]

theorem partnerOf_turnstile (h : (s.lane l).setup.kind = .turnstile) : s.partnerOf l = none := by
  unfold State.partnerOf
  split
  · rfl
  · exact if_neg (by simp [h])

/-- The state with a turnstile's grant ended at its passage step, its count at 0 (R73, R82). -/
def State.stepEnded (w : State) (l : LaneId) (how : GrantEnd) : State := ((w.noticeEnd l how).idled l).zeroEncoder l

/-- Between two states a turnstile's grant has ended at its passage step, its levels taken again (R71, R73, R82). -/
structure stepTaken (s t : State) (l : LaneId) (a b : Bool) : Prop where
  lanes : t.lanes = putAt s.lanes l { (s.lane l).turned a b 0 with
    activity := .idle, grant := none, requested := decide ((s.lane l).mode = .free) || decide ((s.lane l).mode = .egress) }
  deliveries : t.inputs.deliveries = []
  driven : t.inputs.drivenRelease[l] = t.driveRelease l

theorem leveled_driveRelease (s : State) (l m : LaneId) : (s.leveled l).driveRelease m = s.driveRelease m := by
  by_cases hlm : l = m
  · subst hlm
    exact driveRelease_congr (by rw [leveled_lane_same]) (by rw [leveled_lane_same]; rfl) rfl rfl rfl
  · exact driveRelease_congr (by rw [leveled_lane_other hlm]) (by rw [leveled_lane_other hlm]) rfl rfl rfl

/-- A turnstile's grant ends at its passage step with the levels of its lane alone taken again. -/
theorem settle_stepEnded (hlevels : s.levelLaw) (hkind : (s.lane l).setup.kind = .turnstile)
    (hpending : (s.lane l).pendingSetup = none) {g : Option Grant}
    (hlane : w.lane l = { (s.lane l).turned a b n with grant := g }) (hother : ∀ m, l ≠ m → w.lane m = s.lane m)
    (hinputs : w.inputs = s.undelivered.inputs) (hbells : w.bells = s.bells) (hsupply : w.supply = s.supply) (how : GrantEnd) :
    (((w.endGrant l how).zeroEncoder l).look l).settle = (w.stepEnded l how).leveled l ∧
      unchangedBut [.lanes, .inputs] (w.noticeEnd l how) ((w.stepEnded l how).leveled l) ∧
      stepTaken s ((w.stepEnded l how).leveled l) l a b := by
  have hended : (w.endGrant l how).zeroEncoder l = w.stepEnded l how := by
    rw [endGrant_of_no_pending (by rw [hlane]; exact hpending)]
    rfl
  have hstep : (w.stepEnded l how).lane l = { (s.lane l).turned a b 0 with activity := .idle, grant := none } := by
    refine (State.setLane_same _ _ _).trans ?_
    rw [idled_lane_same, noticeEnd_lane, hlane]
    exact congrArg (fun o => ({ (s.lane l).turned a b 0 with activity := .idle, grant := none, pendingSetup := o } : Lane))
      hpending.symm
  have hstepother : ∀ m, l ≠ m → (w.stepEnded l how).lane m = s.lane m := fun m hlm =>
    (State.setLane_other _ _ _ _ hlm).trans ((idled_lane_other hlm).trans ((noticeEnd_lane how m).trans (hother m hlm)))
  have hframe : unchangedBut [.lanes] (w.noticeEnd l how) (w.stepEnded l how) :=
    frame_zeroEncoder l (idled_frame _ l) (by decide)
  have hwhole : unchangedBut [.punch, .roster, .records, .spool, .link, .lanes] w (w.stepEnded l how) :=
    ((noticeEnd_frame w l how).mono (by decide)).trans (hframe.mono (by decide))
  have hstepinputs : (w.stepEnded l how).inputs = s.undelivered.inputs := (hwhole.same (b := .inputs) (by decide)).trans hinputs
  have hbut : levelsBut s (w.stepEnded l how) l :=
    ⟨fun m hlm => by rw [hstepother m hlm], by rw [hstepinputs]; rfl, (hwhole.same (b := .bells) (by decide)).trans hbells,
      (hwhole.same (b := .supply) (by decide)).trans hsupply⟩
  have hlook : (w.stepEnded l how).look l = w.stepEnded l how :=
    look_of_unpaired (partnerOf_turnstile (by rw [hstep]; exact hkind))
  refine ⟨?_, (hframe.mono (by decide)).trans (leveled_frame _ l), ?_, ?_, ?_⟩
  · rw [hended, hlook, hbut.settle hlevels (lookIfChanged_of_look hlook)]
  · refine lanes_eq_putAt ?_ fun m hlm => (leveled_lane_other hlm).trans (hstepother m hlm)
    rw [leveled_lane_same, hstep, Lane.wantsRelease_of_no_grant rfl, Lane.modeReleases_of_used (by simp [Lane.turned, hkind])]
    rfl
  · exact (congrArg InputSampler.deliveries hstepinputs).trans rfl
  · rw [leveled_driven_same, leveled_driveRelease]

/-- A slot's mark is cleared as its punch is dropped, where it names the lane (R30). -/
theorem handedDropped.unmarked (h : handedDropped w t l) (hp : w.handedAt l = some p) :
    t.roster = { w.roster with slots := t.roster.slots } ∧ (∀ c, p.slot ≠ some c → t.slot c = w.slot c) ∧
      ∀ c, p.slot = some c → w.isDamaged c = false → (w.slot c).status ≠ .free →
        t.slot c = { w.slot c with mark := if (w.slot c).mark = some l then none else (w.slot c).mark } :=
  ⟨h.roster, fun c hc => h.others c fun q hq => by cases hp.symm.trans hq; exact hc, fun c hc => h.cleared p c hp hc⟩

/-- The head and the plant are told of a punch whose grant is voided by a step against it (R57). -/
def State.reverseTold (s : State) (l : LaneId) (p : HandedPunch) : State :=
  (s.queueVerdict p.head (plainVerdict .finish)).sendReport (.void p.stamp l p.head p.badge p.slot p.shown .reverse)

theorem noticeEnd_reverse (hp : s.handedAt l = some p) :
    s.noticeEnd l (.void .reverse) = (s.reverseTold l p).dropHanded l := by
  unfold State.noticeEnd State.voidPunch
  rw [hp]
  rfl

theorem reverseTold_frame (s : State) (l : LaneId) (p : HandedPunch) : unchangedBut [.punch, .link] s (s.reverseTold l p) :=
  frame_sendReport _ (frame_queueVerdict _ _ (.refl _ _) (by decide)) (by decide)

theorem stepReached_granted {d : Dir} {g : Grant} (hg : (s.lane l).grant = some g) (hphase : g.phase = .released) :
    (s.turned l a b n).stepReached l d = (s.turned l a b n).stepGranted l g d := by
  have hgrant : ((s.turned l a b n).lane l).grant = some g := by rw [turned_lane]; exact hg
  unfold State.stepReached
  rw [hgrant]
  exact if_pos hphase

/-- A turnstile whose step is its grant's passage, before the punch is committed (R82). -/
def State.stepPassed (s : State) (l : LaneId) (a b : Bool) (n : Int) (g : Grant) : State :=
  s.undelivered.setLane l { (s.lane l).turned a b n with grant := some { g with passageSeen := true } }

theorem stepGranted_along {d : Dir} {g : Grant} (hdir : g.dir = d) : (s.turned l a b n).stepGranted l g d =
    ((((s.stepPassed l a b n g).passageNotice l).endGrant l .finished).zeroEncoder l).look l := by
  unfold State.stepGranted
  rw [if_pos hdir, turned_setLane, turned_lane]
  rfl

theorem stepGranted_against {d : Dir} {g : Grant} (hdir : g.dir ≠ d) : (s.turned l a b n).stepGranted l g d =
    ((((s.turned l a b n).laneAlarm l .reverse).endGrant l (.void .reverse)).zeroEncoder l).look l := by
  unfold State.stepGranted
  rw [if_neg hdir]

theorem over_frame (s u : State) : unchangedBut [.lanes, .punch, .inputs] s (s.over u) :=
  ⟨rfl, fun b => by cases b <;> simp [Block.same, State.over]⟩

theorem stepPassed_over (s : State) (l : LaneId) (a b : Bool) (n : Int) (g : Grant) :
    s.stepPassed l a b n g = s.over (s.stepPassed l a b n g) := rfl

end

end

/-- Settles O35: the decoder's step by the pair's table, then the count by its branches, a grant's end settling its lane's
levels alone. -/
theorem encoderChangeMovesTheCount : Obligations.EncoderChangeMovesTheCount := by
  unfold Obligations.EncoderChangeMovesTheCount
  intro s l a b hrun hlevels hkind hd x moved taken inward outward stepped raises
  have hexec := exec_encoderChange hrun hkind hd
  have hraises : ∀ n cause, s.undelivered.encoderMoves l a b = (s.turned l a b n).laneAlarm l cause → raises n cause := by
    intro n cause hcause
    obtain ⟨t, ht, halarmed⟩ := turned_alarmed hrun hlevels hkind cause
    exact ⟨t, by rw [hexec, hcause, ht], halarmed⟩
  have hquiet : ∀ n, s.undelivered.encoderMoves l a b = s.turned l a b n →
      exec (.encoderChange l a b) s = .next (taken.setLane l (moved n)) := fun n hn => by
    rw [hexec, hn, (sameLevels_turned s l a b n).settle hlevels]
    rfl
  refine ⟨fun hin hlow hhigh => hquiet _ (encoderMoves_below (.inl ⟨hin, rfl⟩) hlow hhigh),
    fun hout hlow hhigh => hquiet _ (encoderMoves_below (.inr ⟨hout, rfl⟩) hlow hhigh),
    fun ha hb => hraises _ _ (encoderMoves_error ha hb), fun d hstep hd hwaiting => ?_,
    fun d g hstep hd hg hphase hpending hform hsound => ?_⟩
  · intro excused
    obtain ⟨n, hmoves⟩ := encoderMoves_stepped hstep hd
    rw [stepReached_ungranted hwaiting] at hmoves
    exact ⟨fun hyes => hquiet 0 (hmoves.trans (stepUngranted_of_excused hyes)),
      fun hno => hraises 0 _ (hmoves.trans (stepUngranted_of_not_excused hno))⟩
  · intro wanted at0 unmarked alarm
    obtain ⟨n, hmoves⟩ := encoderMoves_stepped hstep hd
    rw [stepReached_granted hg hphase] at hmoves
    have hpassed : ∀ m, l ≠ m → (s.stepPassed l a b n g).lane m = s.lane m := fun m hlm => State.setLane_other _ _ _ _ hlm
    have hpassedlane : (s.stepPassed l a b n g).lane l =
        { (s.lane l).turned a b n with grant := some { g with passageSeen := true } } := State.setLane_same _ _ _
    have hturned := turned_frame s l a b n
    have halarm := requestEntry_frame (s.turned l a b n) alarm
    have halarmlane : ∀ m, ((s.turned l a b n).requestEntry alarm).lane m = (s.turned l a b n).lane m := fun m =>
      congrArg (fun v : Vector Lane 8 => v[m]) (halarm.same (b := .lanes) (by decide))
    have halarmed : (s.turned l a b n).laneAlarm l .reverse = (s.turned l a b n).requestEntry alarm :=
      laneAlarm_of_kind (s := s.turned l a b n) hrun (by rw [turned_lane]; simp [Lane.turned, hkind]) .reverse
    have hentered : entered alarm s ((s.turned l a b n).requestEntry alarm) := entered_requestEntry _ rfl rfl
    have hagainst := settle_stepEnded (w := (s.turned l a b n).requestEntry alarm) (a := a) (b := b) (n := n) hlevels hkind
      hpending (g := (s.lane l).grant) ((halarmlane l).trans (turned_lane s l a b n))
      (fun m hlm => (halarmlane m).trans (turned_lane_other hlm)) (halarm.same (b := .inputs) (by decide))
      (halarm.same (b := .bells) (by decide)) (halarm.same (b := .supply) (by decide)) (.void .reverse)
    refine ⟨fun hdir hp => ?_, fun p hdir hp => ?_, fun hdir hp => ?_, fun p hdir hp hpolled habsent => ?_⟩
    · rw [stepGranted_along hdir, passageNotice_of_none (s := s.stepPassed l a b n g) hp] at hmoves
      obtain ⟨hsettle, hframe, htaken⟩ := settle_stepEnded (w := s.stepPassed l a b n g) hlevels hkind hpending hpassedlane hpassed
        rfl rfl rfl .finished
      rw [noticeEnd_of_none (s := s.stepPassed l a b n g) hp] at hframe
      have hpassedframe : unchangedBut [.lanes, .inputs] s (s.stepPassed l a b n g) :=
        frame_setLane l _ (frame_setInputs _ (.refl _ _) (by decide)) (by decide)
      exact ⟨_, by rw [hexec, hmoves, hsettle], hpassedframe.trans hframe, htaken.lanes, htaken.deliveries, htaken.driven⟩
    · have hw : (s.stepPassed l a b n g).passageNotice l = (s.commit l p).over (s.stepPassed l a b n g) := by
        rw [passageNotice_of_some (s := s.stepPassed l a b n g) hp, stepPassed_over, over_commit hform hsound]
        rfl
      have hcommit := frame_commit (s₀ := s) (L := [.roster, .records, .spool, .link]) l p (.refl _ _) (by decide) (by decide)
        (by decide) (by decide)
      rw [stepGranted_along hdir, hw] at hmoves
      obtain ⟨hsettle, hframe, htaken⟩ := settle_stepEnded (w := (s.commit l p).over (s.stepPassed l a b n g)) hlevels hkind
        hpending hpassedlane hpassed rfl (hcommit.same (b := .bells) (by decide)) (hcommit.same (b := .supply) (by decide))
        .finished
      have hdropped : handedDropped ((s.commit l p).over (s.stepPassed l a b n g))
          (((s.commit l p).over (s.stepPassed l a b n g)).noticeEnd l .finished) l :=
        dropHanded_handedDropped (s := (s.commit l p).over (s.stepPassed l a b n g)) (commit_soundWords hform hsound l p) l
      have hdrop := hdropped.frame
      obtain ⟨hroster, hslots, hmark⟩ := hdropped.unmarked (p := p) hp
      have hrost := hframe.same (b := .roster) (by decide)
      refine ⟨_, by rw [hexec, hmoves, hsettle], ?_, ⟨htaken.lanes, htaken.deliveries, htaken.driven⟩,
        (hframe.same (b := .punch) (by decide)).trans hdropped.punch,
        (hframe.same (b := .records) (by decide)).trans (hdrop.same (b := .records) (by decide)),
        (hframe.same (b := .spool) (by decide)).trans (hdrop.same (b := .spool) (by decide)),
        (hframe.same (b := .link) (by decide)).trans (hdrop.same (b := .link) (by decide)), ?_⟩
      · have hover := over_frame (s.commit l p) (s.stepPassed l a b n g)
        exact (hcommit.mono (by decide)).trans ((hover.mono (by decide)).trans ((hdrop.mono (by decide)).trans
          (hframe.mono (by decide))))
      · refine ⟨by rw [hrost]; exact hroster, fun c hc => (slot_congr hrost c).trans (hslots c hc), fun c hc hd hfree => ?_⟩
        obtain ⟨hdamage, hstatus, -⟩ := commit_status hform hsound l p c
        exact (slot_congr hrost c).trans (hmark c hc (hdamage.trans hd) (by rw [← hstatus] at hfree; exact hfree))
    · rw [stepGranted_against hdir, halarmed] at hmoves
      obtain ⟨hsettle, hframe, htaken⟩ := hagainst
      have hhanded : ((s.turned l a b n).requestEntry alarm).handedAt l = none :=
        (congrArg (fun v : PunchUnit => v.handed[l]) (halarm.same (b := .punch) (by decide))).trans hp
      rw [noticeEnd_of_none hhanded] at hframe
      exact ⟨_, by rw [hexec, hmoves, hsettle], (hturned.mono (by decide)).trans ((halarm.mono (by decide)).trans
        (hframe.mono (by decide))), ⟨htaken.lanes, htaken.deliveries, htaken.driven⟩,
        hentered.of_same (hframe.same (b := .spool) (by decide)) (hframe.same (b := .link) (by decide))⟩
    · rw [stepGranted_against hdir, halarmed] at hmoves
      obtain ⟨hsettle, hframe, htaken⟩ := hagainst
      generalize hw : (s.turned l a b n).requestEntry alarm = w at hmoves hsettle hframe htaken halarm hentered
      have hpunch : w.punch = s.punch := halarm.same (b := .punch) (by decide)
      have hsetup : ∀ m, (w.lane m).setup = (s.lane m).setup := fun m => by
        rw [← hw, halarmlane m, (sameLevels_turned s l a b n).setup]
      have hhanded : w.handedAt l = some p := (congrArg (fun v : PunchUnit => v.handed[l]) hpunch).trans hp
      have htold := reverseTold_frame w l p
      have htoldpunch : (w.reverseTold l p).punch =
          { s.punch with verdicts := s.punch.verdicts ++ [⟨p.head, ⟨.finish, .none, false⟩⟩] } := by
        unfold State.reverseTold
        rw [sendReport_punch, queueVerdict_of_absent _ ((inPollSet_congr (hsetup _)).trans hpolled) (by rw [hpunch]; exact habsent),
          hpunch]
        rfl
      have hroster : (w.reverseTold l p).roster = s.roster :=
        (htold.same (b := .roster) (by decide)).trans (halarm.same (b := .roster) (by decide))
      have hdropped := dropHanded_handedDropped (soundWords_congr hsound hroster) l
      rw [noticeEnd_reverse hhanded] at hframe
      have hdrop := hdropped.frame
      obtain ⟨hrost, hslots, hmark⟩ := hdropped.unmarked (p := p) (by rw [State.handedAt, htoldpunch]; exact hp)
      have hrost' := hframe.same (b := .roster) (by decide)
      refine ⟨_, by rw [hexec, hmoves, hsettle], ?_, ⟨htaken.lanes, htaken.deliveries, htaken.driven⟩, ⟨?_, fun c hc => ?_,
        fun c hc hd hfree => ?_⟩, ?_, ?_, ?_⟩
      · exact (hturned.mono (by decide)).trans ((halarm.mono (by decide)).trans ((htold.mono (by decide)).trans
          ((hdrop.mono (by decide)).trans (hframe.mono (by decide)))))
      · rw [hrost', hrost, hroster]
      · exact (slot_congr hrost' c).trans ((hslots c hc).trans (slot_congr hroster c))
      · have hcleared := hmark c hc ((isDamaged_congr hroster c).trans hd) (by rw [slot_congr hroster]; exact hfree)
        rw [slot_congr hroster] at hcleared
        exact (slot_congr hrost' c).trans hcleared
      · exact (hframe.same (b := .spool) (by decide)).trans ((hdrop.same (b := .spool) (by decide)).trans
          ((htold.same (b := .spool) (by decide)).trans hentered.1))
      · refine (hframe.same (b := .link) (by decide)).trans ((hdrop.same (b := .link) (by decide)).trans ?_)
        exact sendReport_link _ (((queueVerdict_frame w _ _).same (b := .link) (by decide)).trans hentered.2)
      · refine (hframe.same (b := .punch) (by decide)).trans (hdropped.punch.trans ?_)
        rw [htoldpunch]

end Sys2Proof.Machine
end

section
/-! ## The checks of a punch (R42–R52) -/
namespace Sys2Proof.Machine

section
variable {s t u : State} {h : Head} {l : LaneId} {a : Nat} {p : PunchRead} {y z : Slot}

/-! ### The verdict of a punch that a check ends (R40, R42) -/

/-- With at most one verdict for a head, the queue takes a verdict by putting it in that one's place, or at the tail (R40). -/
theorem queueFor_eq {i : Head} {v : Verdict} {q : List QueuedVerdict} (hq : (q.map QueuedVerdict.head).Nodup) :
    queueFor i v q = if q.any (fun y => decide (y.head = i)) then q.map (fun y => if y.head = i then ⟨i, v⟩ else y)
      else q ++ [⟨i, v⟩] := by
  induction q with
  | nil => rfl
  | cons y rest ih =>
    obtain ⟨hy, hrest⟩ := List.nodup_cons.1 hq
    by_cases hi : y.head = i
    · have hothers : rest.map (fun z => if z.head = i then ⟨i, v⟩ else z) = rest :=
        (List.map_congr_left fun z hz => if_neg fun hzi : z.head = i =>
          hy (List.mem_map.2 ⟨z, hz, hzi.trans hi.symm⟩)).trans (List.map_id rest)
      simp [queueFor, hi, hothers]
    · rw [queueFor, if_neg hi, ih hrest]
      by_cases hany : rest.any (fun z => decide (z.head = i)) = true <;> simp [hi, hany]

theorem queueVerdict_of_law {i : Head} (v : Verdict) (hpolled : s.inPollSet i = true) (hlaw : s.verdictLaw) :
    s.queueVerdict i v = s.setPunch { s.punch with
      verdicts := if s.punch.verdicts.any (fun q => decide (q.head = i))
        then s.punch.verdicts.map (fun q => if q.head = i then ⟨i, v⟩ else q) else s.punch.verdicts ++ [⟨i, v⟩] } := by
  unfold State.queueVerdict
  rw [if_pos hpolled, queueFor_eq hlaw]

/-! ### A punch within the reply window (R38, R42) -/

/-- The state as an answer of an ACTIVE head ends its poll (R38, R39). -/
def State.answered (s : State) (h : Head) : State :=
  s.setPunch { s.punch with outstanding := none, heads := putAt s.punch.heads h.index ⟨false, 0⟩ }

theorem sameLevels_setPunch (s : State) (x : PunchUnit) : sameLevels s (s.setPunch x) := ⟨fun _ => rfl, rfl, rfl, rfl⟩

theorem sameLevels_queueVerdict (s : State) (i : Head) (v : Verdict) : sameLevels s (s.queueVerdict i v) :=
  sameLevels_of_frame (queueVerdict_frame s i v) (by decide)

theorem exec_punch_of_answer {e : Elapsed} (hrun : s.supply.state = .run) (hout : s.punch.outstanding = some ⟨h, e⟩)
    (hin : s.time.elapsed ≤ e) (hactive : (s.headAt h).silent = false) (badge : BitVec 32) (intent : Intent) :
    exec (.punch h badge intent) s = .next ((s.answered h).judge ⟨h, badge.toNat, intent, s.now⟩).1.settle := by
  change execPunch h badge intent s = _
  refine (whileRunning_of_run hrun).trans (congrArg _ ?_)
  rw [isAnswer_of_polled hout hin, if_pos rfl, countAnswer_of_active (s := s.endPoll) hactive]
  rfl

/-- A punch that a check ends changes no level. -/
theorem settle_endPunch (hlevels : s.levelLaw) (h : sameLevels s u) (i : Head) (v : Verdict) :
    (u.endPunch i v).1.settle = u.queueVerdict i v := (h.trans (sameLevels_queueVerdict u i v)).settle hlevels

/-! ### Checks 1 to 4 (R42, R44, R45) -/

/-- A lane accepts a punch for its lookup: its mode is SECURE or FREE, it is IDLE, and the badge is one that can be held. -/
def State.accepts (s : State) (p : PunchRead) : Prop :=
  ((s.lane p.head.lane).mode = .secure ∨ (s.lane p.head.lane).mode = .free) ∧ (s.lane p.head.lane).activity = .idle ∧
    p.badge ≠ 0 ∧ p.badge ≠ 4294967295

theorem judge_of_egress (hmode : (s.lane p.head.lane).mode = .egress) : s.judge p = s.endPunch p.head ⟨.release, .pass, true⟩ :=
  if_pos hmode

theorem judge_of_locked (hmode : (s.lane p.head.lane).mode = .locked) :
    s.judge p = s.endPunch p.head (plainVerdict .denyLocked) := by simp [State.judge, hmode]

theorem judge_of_busy (hmode : (s.lane p.head.lane).mode = .secure ∨ (s.lane p.head.lane).mode = .free)
    (hbusy : (s.lane p.head.lane).activity ≠ .idle) : s.judge p = s.endPunch p.head (plainVerdict .busy) := by
  rcases hmode with hmode | hmode <;> simp [State.judge, hmode, hbusy]

theorem judge_of_invalid (hmode : (s.lane p.head.lane).mode = .secure ∨ (s.lane p.head.lane).mode = .free)
    (hidle : (s.lane p.head.lane).activity = .idle) (hbadge : p.badge = 0 ∨ p.badge = 4294967295) :
    s.judge p = s.endPunch p.head (plainVerdict .denyUnknown) := by
  rcases hmode with hmode | hmode <;> simp [State.judge, hmode, hidle, hbadge]

theorem judge_of_accepted (h : s.accepts p) : s.judge p =
    match (s.lookup p.badge).2 with
    | none => (s.lookup p.badge).1.missed p
    | some a => (s.lookup p.badge).1.judgeSlot p a := by
  obtain ⟨hmode, hidle, hlow, hhigh⟩ := h
  rcases hmode with hmode | hmode <;> simp [State.judge, hmode, hidle, hlow, hhigh] <;> rfl

theorem judge_of_missing (h : s.accepts p) (hsound : s.soundWords) (hmissing : ∀ a, s.holdsBadge p.badge a = false) :
    s.judge p = s.missed p := by
  rw [judge_of_accepted h, lookup_of_missing hsound hmissing]

theorem judge_of_held (h : s.accepts p) (hsound : s.soundWords) (hbadges : s.badgeLaw)
    (hheld : s.holdsBadge p.badge a = true) : s.judge p = s.judgeSlot p a := by
  rw [judge_of_accepted h, lookup_of_held hsound hbadges hheld]

theorem missed_of_unreferred (h : ¬ (s.link.online = true ∧ (s.lane p.head.lane).setup.referral = true)) :
    s.missed p = s.applyMiss p := if_neg h

theorem applyMiss_of_deny (h : (s.lane p.head.lane).setup.miss = .deny) :
    s.applyMiss p = s.endPunch p.head (plainVerdict .denyUnknown) := by simp [State.applyMiss, h]

/-! ### Checks 5 to 11 at a slot (R46–R51) -/

/-- A slot is marked for another lane than the punch's (R46). -/
def State.inUse (s : State) (p : PunchRead) (a : Nat) : Prop := ∃ m, (s.slot a).mark = some m ∧ m ≠ p.head.lane

theorem judgeSlot_of_inUse (h : s.inUse p a) : s.judgeSlot p a = s.endPunch p.head (plainVerdict .denyInUse) := by
  obtain ⟨m, hm, hne⟩ := h
  simp [State.judgeSlot, hm, hne]

/-- The check of the mark, passed. -/
theorem judgeSlot_of_not_inUse (h : ¬ s.inUse p a) : s.judgeSlot p a =
    if repeatCaught s.setup.general.repeatGuard p (s.slot a) then s.endPunch p.head (plainVerdict .again)
    else if inSet (s.slot a).lanes p.head.lane.val then
      (s.raiseUnrecorded a (classify p.head.dir (s.slot a).record p.intent).raises).judgeClassified p a
        (classify p.head.dir (s.slot a).record p.intent)
    else s.endPunch p.head (plainVerdict .denyLane) := by
  unfold State.judgeSlot
  dsimp only
  cases hm : (s.slot a).mark with
  | none => exact if_neg Bool.false_ne_true
  | some m =>
    have hlane : m = p.head.lane := by
      by_contra hne
      exact h ⟨m, hm, hne⟩
    exact if_neg (by simp [hlane])

theorem repeatCaught_iff {g : Nat} {x : Slot} : repeatCaught g p x = true ↔
    ∃ i u, p.stamp = some i ∧ x.lastPunch = some (u, p.head) ∧ 0 < g ∧ u ≤ i ∧ i - u < g := by
  unfold repeatCaught
  rcases p.stamp with _ | i <;> rcases x.lastPunch with _ | ⟨u, k⟩ <;> simp
  constructor
  · rintro ⟨⟨⟨hguard, hk⟩, hle⟩, hlt⟩
    exact ⟨hk, hguard, hle, hlt⟩
  · rintro ⟨hk, hguard, hle, hlt⟩
    exact ⟨⟨⟨hguard, hk⟩, hle⟩, hlt⟩

theorem passbackViolated_iff {d : Dir} {r : PresenceRead} : passbackViolated d r = true ↔
    (d = .inward ∧ r = .inside) ∨ (d = .outward ∧ r = .outside) := by
  cases d <;> cases r <;> simp [passbackViolated]

/-- Between two states one slot has been written, the roster's words and nothing else. -/
structure slotWritten (s t : State) (a : Nat) (y : Slot) : Prop where
  frame : unchangedBut [.roster] s t
  same : t.slot a = y
  others : ∀ d, d ≠ a → t.slot d = s.slot d
  roster : t.roster = { s.roster with slots := t.roster.slots }
  form : t.rosterForm

theorem slotWritten_refl (hform : s.rosterForm) (a : Nat) : slotWritten s s a (s.slot a) :=
  ⟨.refl _ _, rfl, fun _ _ => rfl, rfl, hform⟩

theorem slotWritten.trans (h : slotWritten s t a y) (k : slotWritten t u a z) : slotWritten s u a z :=
  ⟨h.frame.trans k.frame, k.same, fun d hd => (k.others d hd).trans (h.others d hd), by rw [k.roster, h.roster], k.form⟩

/-- An ACTIVE slot's words are sound where every slot's are. -/
theorem errors_of_active (hsound : s.soundWords) (hactive : s.statusOf a = .active) : (s.slot a).errors = ⟨0, false⟩ :=
  hsound a (statusOf_eq_active.1 hactive).1

/-- A sound ACTIVE slot is written as a request asks (R20). -/
theorem writeSlot_written (hform : s.rosterForm) (herrors : (s.slot a).errors = ⟨0, false⟩) (hactive : s.statusOf a = .active)
    (onWithdrawn : Bool) (f : Slot → Slot) : slotWritten s (s.writeSlot a onWithdrawn f).1 a (f (s.slot a)) := by
  have hwrite : (s.writeSlot a onWithdrawn f).1 = s.setSlot a (f (s.slot a)) := by
    unfold State.writeSlot
    dsimp only
    rw [checkedRead_quiet (.inr herrors), hactive]
  rw [hwrite]
  exact ⟨frame_setSlot _ _ (.refl _ _) (by decide), slot_setSlot_same hform a _,
    fun d hd => slot_setSlot_other hd.symm _, rfl, rosterForm_setSlot hform a _⟩

/-- The unrecorded count has risen where the classification raises it (R49). -/
theorem raiseUnrecorded_written (hform : s.rosterForm) (herrors : (s.slot a).errors = ⟨0, false⟩)
    (hactive : s.statusOf a = .active) (d : Dir) (i : Intent) :
    slotWritten s (s.raiseUnrecorded a (classify d (s.slot a).record i).raises) a ((s.slot a).counted d i) := by
  unfold State.raiseUnrecorded Slot.counted
  split
  · exact writeSlot_written hform herrors hactive false _
  · exact slotWritten_refl hform a

theorem Slot.counted_cases (x : Slot) (d : Dir) (i : Intent) : ∃ n, x.counted d i = { x with unrecorded := n } := by
  unfold Slot.counted
  split
  · exact ⟨_, rfl⟩
  · exact ⟨x.unrecorded, rfl⟩

/-- What the checks of passback and of the CLOCK_IN window turn on, kept as the count rises. -/
theorem presenceOf_counted (h : slotWritten s t a ((s.slot a).counted p.head.dir p.intent)) :
    t.presenceOf (t.slot a) = s.presenceOf (s.slot a) := by
  obtain ⟨n, hn⟩ := Slot.counted_cases (s.slot a) p.head.dir p.intent
  unfold State.presenceOf
  rw [h.same, hn, h.roster]

theorem windowFor_counted (h : slotWritten s t a ((s.slot a).counted p.head.dir p.intent)) :
    t.windowFor (t.slot a) (classify p.head.dir (s.slot a).record p.intent).cls p.stamp = s.windowOf p a := by
  obtain ⟨n, hn⟩ := Slot.counted_cases (s.slot a) p.head.dir p.intent
  unfold State.windowOf State.windowFor State.admitWindow State.activeBank
  rw [h.same, hn, h.frame.same (b := .banks) (by decide), h.frame.same (b := .time) (by decide)]

theorem slotWritten.lane (h : slotWritten s t a y) (l : LaneId) : t.lane l = s.lane l :=
  congrArg (fun v : Vector Lane 8 => v[l]) (h.frame.same (b := .lanes) (by decide))

/-- A passback violation at a HARD lane ends the punch, the unrecorded count risen where its classification raises it (R49,
R50). -/
theorem judgeSlot_of_violated (huse : ¬ s.inUse p a)
    (hrepeat : repeatCaught s.setup.general.repeatGuard p (s.slot a) = false)
    (hlane : inSet (s.slot a).lanes p.head.lane.val = true)
    (hwritten : slotWritten s t a ((s.slot a).counted p.head.dir p.intent))
    (ht : t = s.raiseUnrecorded a (classify p.head.dir (s.slot a).record p.intent).raises)
    (hviolated : passbackViolated p.head.dir (s.presenceOf (s.slot a)) = true)
    (hhard : (s.lane p.head.lane).setup.passback = .hard) :
    s.judgeSlot p a = t.endPunch p.head (plainVerdict .denyPassback) := by
  rw [judgeSlot_of_not_inUse huse, hrepeat, if_neg Bool.false_ne_true, if_pos hlane, ← ht]
  exact if_pos ⟨by rw [presenceOf_counted hwritten]; exact hviolated, by rw [hwritten.lane]; exact hhard⟩

/-- A denial by the window ends a CLOCK_IN, whose classification raises no count (R51). -/
theorem judgeSlot_of_denied (huse : ¬ s.inUse p a)
    (hrepeat : repeatCaught s.setup.general.repeatGuard p (s.slot a) = false)
    (hlane : inSet (s.slot a).lanes p.head.lane.val = true)
    (hpassback : ¬ (passbackViolated p.head.dir (s.presenceOf (s.slot a)) = true ∧
      (s.lane p.head.lane).setup.passback = .hard))
    (hraises : (classify p.head.dir (s.slot a).record p.intent).raises = false) (hdenied : s.windowOf p a = .denied) :
    s.judgeSlot p a = s.endPunch p.head (plainVerdict .denyWindow) := by
  rw [judgeSlot_of_not_inUse huse, hrepeat, if_neg Bool.false_ne_true, if_pos hlane, hraises]
  change s.judgeClassified p a _ = _
  unfold State.judgeClassified
  dsimp only
  rw [if_neg hpassback, show s.windowFor (s.slot a) _ p.stamp = WindowAnswer.denied from hdenied]

/-- A CLOCK_IN more than its margins from the nearest start is denied where the class is not admitted at any time (R51). -/
theorem windowOf_denied {i start : Stamp} (hin : p.head.dir = .inward) (hoff : (s.slot a).record = .off)
    (hstamp : p.stamp = some i)
    (hstart : nearestStart s.activeBank s.time.weekdayOffset (s.activeBank.shiftPattern (s.slot a).pattern) i = some start)
    (houtside : i + 60 * (s.activeBank.payClass (s.slot a).payClass).admitEarly < start ∨
      start + 60 * (s.activeBank.payClass (s.slot a).payClass).admitLate < i)
    (hany : (s.activeBank.payClass (s.slot a).payClass).anyTime = false) : s.windowOf p a = .denied := by
  unfold State.windowOf
  rw [hin, hoff, hstamp]
  change s.admitWindow (s.slot a) i = _
  unfold State.admitWindow
  dsimp only
  rw [hstart]
  dsimp only
  rw [if_neg fun ⟨hlow, hhigh⟩ => houtside.elim (fun hlt => Nat.not_le.2 hlt hlow) fun hlt => Nat.not_le.2 hlt hhigh, hany,
    if_neg Bool.false_ne_true]

end

/-- Settles O26: each check's own branch of the judgement queues one verdict, and no level turns on it. -/
theorem punchTurnedAwayEarly : Obligations.PunchTurnedAwayEarly := by
  unfold Obligations.PunchTurnedAwayEarly
  intro s h e badge intent hrun hlevels hverdicts hout hin hactive hpolled lane ended ends accepting
  let p : PunchRead := ⟨h, badge.toNat, intent, s.now⟩
  have hexec := exec_punch_of_answer hrun hout hin hactive badge intent
  have hsame : sameLevels s (s.answered h) := sameLevels_setPunch s _
  have hends : ∀ v, (s.answered h).judge p = (s.answered h).endPunch h v → ends v := fun v hjudge => by
    change exec _ s = _
    rw [hexec, hjudge, settle_endPunch hlevels hsame, queueVerdict_of_law (s := s.answered h) v hpolled hverdicts]
    rfl
  have hword : ∀ n : BitVec 32, badge = n ↔ badge.toNat = n.toNat := fun n => BitVec.toNat_inj.symm
  have haccepts : accepting → (s.answered h).accepts p := fun ⟨hmode, hidle, hlow, hhigh⟩ =>
    ⟨hmode, hidle, fun hzero => hlow ((hword 0).2 hzero), fun htop => hhigh ((hword 4294967295).2 htop)⟩
  refine ⟨fun hmode => hends _ (judge_of_egress (p := p) hmode), fun hmode => hends _ (judge_of_locked (p := p) hmode),
    fun hmode hbusy => hends _ (judge_of_busy (p := p) hmode hbusy),
    fun hmode hidle hbadge => hends _ (judge_of_invalid (p := p) hmode hidle (hbadge.imp (hword 0).1 (hword 4294967295).1)),
    fun hacc hsound hmissing honline hmiss => hends _ ?_, fun a hacc hform hsound hbadges hheld => ?_⟩
  · rw [judge_of_missing (haccepts hacc) hsound hmissing, missed_of_unreferred (s := s.answered h) (p := p) honline,
      applyMiss_of_deny (s := s.answered h) (p := p) hmiss]
    rfl
  · intro x inUse repeated violated c
    have hjudge : (s.answered h).judge p = (s.answered h).judgeSlot p a := judge_of_held (haccepts hacc) hsound hbadges hheld
    have hrepeated : repeated ↔ repeatCaught s.setup.general.repeatGuard p x = true :=
      (repeatCaught_iff (p := p) (x := x)).symm
    have hnot : ¬ repeated → repeatCaught s.setup.general.repeatGuard p x = false := fun hno =>
      Bool.eq_false_iff.2 fun hyes => hno (hrepeated.2 hyes)
    have hviolation : violated ↔ passbackViolated h.dir (s.presenceOf x) = true := passbackViolated_iff.symm
    refine ⟨fun huse => hends _ (hjudge.trans (judgeSlot_of_inUse (p := p) huse)),
      fun huse hrep => hends _ (hjudge.trans ?_), fun huse hrep hbarred => hends _ (hjudge.trans ?_),
      fun huse hrep hlane hviol hhard => ?_, fun i start huse hrep hlane hpass hdir hoff hnow hstart houtside hany => ?_⟩
    · rw [judgeSlot_of_not_inUse (s := s.answered h) (p := p) huse]
      exact if_pos (hrepeated.1 hrep)
    · rw [judgeSlot_of_not_inUse (s := s.answered h) (p := p) huse]
      exact (if_neg (Bool.eq_false_iff.1 (hnot hrep))).trans (if_neg (Bool.eq_false_iff.1 hbarred))
    · have hstatus := (holdsBadge_eq_true.1 hheld).1
      have hwritten := raiseUnrecorded_written (s := s.answered h) hform (errors_of_active hsound hstatus) hstatus h.dir intent
      have hended := judgeSlot_of_violated (s := s.answered h) (p := p) huse (hnot hrep) hlane hwritten rfl
        (hviolation.1 hviol) hhard
      generalize (s.answered h).raiseUnrecorded a _ = t at hwritten hended
      have hpunch : t.punch = (s.answered h).punch := hwritten.frame.same (b := .punch) (by decide)
      have hqueue := queueVerdict_frame t h (plainVerdict .denyPassback)
      have hroster : (t.queueVerdict h (plainVerdict .denyPassback)).roster = t.roster :=
        hqueue.same (b := .roster) (by decide)
      refine ⟨_, hexec.trans (by rw [hjudge, hended, settle_endPunch hlevels
        (hsame.trans (sameLevels_of_frame hwritten.frame (by decide)))]), ?_, ?_, ?_, fun d hd => ?_, ?_⟩
      · exact (frame_setPunch _ (.refl _ _) (by decide)).trans ((hwritten.frame.mono (by decide)).trans
          (hqueue.mono (by decide)))
      · rw [queueVerdict_of_law (s := t) _ ((inPollSet_congr (by rw [hwritten.lane]; rfl)).trans hpolled)
          (by unfold State.verdictLaw; rw [hpunch]; exact hverdicts), State.setPunch_punch, hpunch]
        rfl
      · exact (slot_congr hroster a).trans hwritten.same
      · exact (slot_congr hroster d).trans (hwritten.others d hd)
      · rw [hroster]
        exact hwritten.roster
    · refine hends _ (hjudge.trans (judgeSlot_of_denied (s := s.answered h) (p := p) huse (hnot hrep) hlane
        (fun hboth => hpass ⟨hviolation.2 hboth.1, hboth.2⟩) ?_ (windowOf_denied hdir hoff hnow hstart houtside hany)))
      change (classify h.dir (s.slot a).record intent).raises = false
      rw [hdir, hoff]
      rfl

end Sys2Proof.Machine
end

section
/-! ## The grant of a punch that passes its checks (R45, R48–R53, R58, R72, R85) -/
namespace Sys2Proof.Machine

section
variable {s t u v : State} {h : Head} {l m : LaneId} {a : Nat} {p : PunchRead} {q : HandedPunch} {g : Grant}

/-! ### What a grant's taking leaves of the Punch Unit -/

/-- Between two states the Punch Unit has changed in its verdict queue alone. -/
def onlyVerdicts (s t : State) : Prop := t.punch = { s.punch with verdicts := t.punch.verdicts }

theorem onlyVerdicts.refl (s : State) : onlyVerdicts s s := rfl

theorem onlyVerdicts.trans (h : onlyVerdicts s t) (k : onlyVerdicts t u) : onlyVerdicts s u := by
  unfold onlyVerdicts at h k ⊢
  rw [k, h]

theorem onlyVerdicts.of_frame {L : List Block} (hf : unchangedBut L s t) (hL : Block.punch ∉ L) : onlyVerdicts s t := by
  unfold onlyVerdicts
  rw [hf.same (b := .punch) hL]

theorem onlyVerdicts.handedAt (h : onlyVerdicts s t) (l : LaneId) : t.handedAt l = s.handedAt l :=
  Eq.trans (congrArg (fun x : PunchUnit => x.handed[l]) (show t.punch = _ from h)) rfl

theorem onlyVerdicts.waits (h : onlyVerdicts s t) : t.punch.waits = s.punch.waits :=
  Eq.trans (congrArg PunchUnit.waits (show t.punch = _ from h)) rfl

theorem onlyVerdicts_queueVerdict (s : State) (i : Head) (x : Verdict) : onlyVerdicts s (s.queueVerdict i x) := by
  unfold State.queueVerdict
  split <;> rfl

theorem onlyVerdicts_releaseGrant (s : State) (l : LaneId) (g : Grant) : onlyVerdicts s (s.releaseGrant l g) := by
  refine (onlyVerdicts.of_frame (frame_setLane l (s.releasedLane l g) (.refl [.lanes] s) (by decide)) (by decide)).trans ?_
  change onlyVerdicts _ (State.tellReleased _ l)
  unfold State.tellReleased
  split
  · exact .refl _
  · exact onlyVerdicts_queueVerdict _ _ _

theorem onlyVerdicts_lookOnce (s : State) (l m : LaneId) : onlyVerdicts s (s.lookOnce l m) := by
  unfold State.lookOnce
  split
  · exact .refl _
  · split
    · exact .refl _
    · exact onlyVerdicts_releaseGrant _ _ _

theorem onlyVerdicts_look (s : State) (l : LaneId) : onlyVerdicts s (s.look l) := by
  unfold State.look
  split
  · exact .refl _
  · split
    · exact .refl _
    · exact (onlyVerdicts_lookOnce _ _ _).trans (onlyVerdicts_lookOnce _ _ _)

theorem onlyVerdicts_lookAtEntry (s : State) (l : LaneId) : onlyVerdicts s (s.lookAtEntry l) := by
  unfold State.lookAtEntry State.lookAtPartner
  split
  · exact .refl _
  · split
    · exact .refl _
    · split
      · exact (onlyVerdicts_releaseGrant _ _ _).trans (onlyVerdicts_lookOnce _ _ _)
      · exact .refl _

theorem onlyVerdicts_settle (s : State) : onlyVerdicts s s.settle := by
  have hlooks : onlyVerdicts s (allLanes.foldl State.lookIfChanged s) :=
    List.foldlRecOn (motive := onlyVerdicts s) allLanes _ (.refl s) fun t ht m _ => by
      unfold State.lookIfChanged
      split
      · exact ht
      · exact ht.trans (onlyVerdicts_look t m)
  exact hlooks.trans (.of_frame (retakeLevels_frame _) (by decide))

/-! ### A grant held in an interlock wait (R85) -/

/-- A lane as it holds a grant in INTERLOCK_WAIT (R85). -/
def State.heldLane (s : State) (l : LaneId) (g : Grant) : Lane :=
  { s.lane l with grant := some (s.heldGrant l g), activity := .interlockWait }

theorem tellWaiting_frame (s : State) (l : LaneId) : unchangedBut [.punch] s (s.tellWaiting l) :=
  frame_tellWaiting l (.refl _ _) (by decide)

theorem holdGrant_lane_same (s : State) (l : LaneId) (g : Grant) : (s.holdGrant l g).lane l = s.heldLane l g :=
  (congrArg (fun x : Vector Lane 8 => x[l]) ((tellWaiting_frame _ l).same (b := .lanes) (by decide))).trans
    (State.setLane_same _ _ _)

theorem holdGrant_lane_other (g : Grant) (hlm : l ≠ m) : (s.holdGrant l g).lane m = s.lane m :=
  (congrArg (fun x : Vector Lane 8 => x[m]) ((tellWaiting_frame _ l).same (b := .lanes) (by decide))).trans
    (State.setLane_other _ _ _ _ hlm)

theorem holdGrant_frame (s : State) (l : LaneId) (g : Grant) : unchangedBut [.lanes, .punch] s (s.holdGrant l g) :=
  frame_holdGrant l g (.refl _ _) (by decide) (by decide)

theorem onlyVerdicts_holdGrant (s : State) (l : LaneId) (g : Grant) : onlyVerdicts s (s.holdGrant l g) := by
  refine (onlyVerdicts.of_frame (frame_setLane l (s.heldLane l g) (.refl [.lanes] s) (by decide)) (by decide)).trans ?_
  change onlyVerdicts _ (State.tellWaiting _ l)
  unfold State.tellWaiting
  split
  · exact .refl _
  · exact onlyVerdicts_queueVerdict _ _ _

theorem holdGrant_verdicts (hq : s.handedAt l = some q) (hpolled : s.inPollSet q.head = true)
    (habsent : ∀ y ∈ s.punch.verdicts, y.head ≠ q.head) (g : Grant) :
    (s.holdGrant l g).punch.verdicts = s.punch.verdicts ++ [⟨q.head, ⟨.wait, .none, false⟩⟩] := by
  have hset : (s.setLane l (s.heldLane l g)).inPollSet q.head = true :=
    (inPollSet_congr (setLane_setup (x := s.heldLane l g) rfl _)).trans hpolled
  have htold : (s.setLane l (s.heldLane l g)).tellWaiting l =
      (s.setLane l (s.heldLane l g)).queueVerdict q.head (plainVerdict .wait) := by
    unfold State.tellWaiting
    rw [show (s.setLane l (s.heldLane l g)).handedAt l = some q from hq]
  change ((s.setLane l (s.heldLane l g)).tellWaiting l).punch.verdicts = _
  rw [htold, queueVerdict_of_absent _ hset habsent]
  rfl

/-- A lane without a grant that takes one and holds it asks for no more than it did (R71). -/
theorem sameLevels_holdGrant (hnone : (s.lane l).grant = none) (g : Grant) : sameLevels s (s.holdGrant l g) := by
  have hlevels : (s.heldLane l g).levels = (s.lane l).levels := Lane.levels_eq_iff.2 ⟨rfl,
    (Lane.wantsRelease_of_waiting (x := s.heldLane l g) (g := s.heldGrant l g) rfl rfl).trans
      (Lane.wantsRelease_of_no_grant hnone).symm, rfl⟩
  exact (sameLevels_setLane hlevels).trans (sameLevels_of_frame (tellWaiting_frame _ l) (by decide))

/-! ### A grant released at once (R72) -/

/-- A lane in use asks for its release while it holds a released grant whose passage has not been seen (R71). -/
theorem Lane.wantsRelease_of_granted {x : Lane} (hg : x.grant = some g) (hphase : g.phase = .released)
    (hused : x.setup.kind ≠ .unused) (hexpiry : g.releaseExpiry.isSome = true) (hseen : g.passageSeen = false) :
    x.wantsRelease = true := by
  cases hkind : x.setup.kind with
  | unused => exact absurd hkind hused
  | door => exact Lane.wantsRelease_of_released hg hphase hkind hexpiry hseen
  | turnstile => simp [Lane.wantsRelease, hg, hphase, hkind, hexpiry]

/-- An output driven on stays on as its lane asks for the release. -/
theorem driveRelease_of_wants (hsetup : (t.lane l).setup = (s.lane l).setup) (hinputs : t.inputs = s.inputs)
    (hsupply : t.supply = s.supply) (hwants : (t.lane l).wantsRelease = true) (hdriven : s.driveRelease l = true) :
    t.driveRelease l = true := by
  unfold State.driveRelease at hdriven ⊢
  rw [hsetup, hinputs, hsupply, hwants]
  split at hdriven
  · assumption
  · cases hdriven
  · split at hdriven
    · next hevacuating => exact if_pos hevacuating
    · next hnot =>
      rw [if_neg hnot]
      split at hdriven
      · assumption
      · rfl

/-- A grant released at once settles with its own lane's levels: with the output driven on the partner's condition fails, and
with it not driven on no driven level has changed (R84, R86). -/
theorem settle_granted (hlevels : s.levelLaw) (hsame : sameLevels s v) (hused : (v.lane l).setup.kind ≠ .unused)
    (hseen : g.passageSeen = false) : (v.releaseGrant l g).settle = (v.releaseGrant l g).leveled l := by
  have hframe := releaseGrant_frame v l g
  have hlane := releaseGrant_lane_same v l g
  refine ((hsame.but l).trans (releaseGrant_levelsBut v l g)).settle hlevels ?_
  cases hdriven : (v.releaseGrant l g).driveRelease l with
  | true =>
    refine lookIfChanged_of_look (look_of_no_choice fun m _ => arbiterChoice_eq_none
      (goesFirst_of_not_waiting (releaseGrant_not_waiting v l g) m) (goesFirst_of_not_clear ?_))
    simp [State.interlockClear, hdriven]
  | false =>
    refine lookIfChanged_of_driven ?_
    have hwants : ((v.releaseGrant l g).lane l).wantsRelease = true := by
      rw [hlane]
      exact Lane.wantsRelease_of_granted (g := v.releasedGrant l g) rfl rfl hused rfl hseen
    have hoff : v.driveRelease l = false := Bool.eq_false_iff.2 fun hon => Bool.eq_false_iff.1 hdriven
      (driveRelease_of_wants (releaseGrant_setups v l g l) (hframe.same (b := .inputs) (by decide))
        (hframe.same (b := .supply) (by decide)) hwants hon)
    rw [hframe.same (b := .inputs) (by decide), hdriven, ← hoff, (hsame.levelLaw hlevels).2.1 l]

/-! ### A punch handed on to its lane (R53) -/

/-- Between two states a lane has been handed a punch for which it is to take a grant, and nothing has changed that the taking
of the grant turns on. -/
structure handedOn (s v : State) (q : HandedPunch) : Prop where
  levels : sameLevels s v
  others : ∀ m, q.head.lane ≠ m → v.lane m = s.lane m
  lane : v.lane q.head.lane = { s.lane q.head.lane with activity := (v.lane q.head.lane).activity }
  time : v.time = s.time
  verdicts : v.punch.verdicts = s.punch.verdicts
  handed : v.punch.handed = putAt s.punch.handed q.head.lane (some q)

theorem handedOn.mode (h : handedOn s v q) : (v.lane q.head.lane).mode = (s.lane q.head.lane).mode := by rw [h.lane]

theorem handedOn.handedAt_same (h : handedOn s v q) : v.handedAt q.head.lane = some q := by
  unfold State.handedAt
  rw [h.handed]
  exact putAt_same _ _ _

theorem handedOn.handedAt_other (h : handedOn s v q) (hm : q.head.lane ≠ m) : v.handedAt m = s.handedAt m := by
  unfold State.handedAt
  rw [h.handed]
  exact putAt_other _ _ _ _ hm

theorem handedOn.polled (h : handedOn s v q) (hpolled : s.inPollSet q.head = true) : v.inPollSet q.head = true :=
  (inPollSet_congr (h.levels.setup _)).trans hpolled

theorem handedOn.partnerOf (h : handedOn s v q) (m : LaneId) : v.partnerOf m = s.partnerOf m := partnerOf_congr h.levels.setup m

/-- The interlock condition of the lane turns on its partner alone. -/
theorem handedOn.interlockClear (h : handedOn s v q) (hm : q.head.lane ≠ m) :
    v.interlockClear q.head.lane m = s.interlockClear q.head.lane m := by
  unfold State.interlockClear State.deadTimeEndOf State.elapsed
  rw [h.levels.driveRelease, h.others m hm, h.levels.setup, h.time]

theorem handedOn.takesAtOnce (h : handedOn s v q) : v.takesAtOnce q.head.lane ↔ s.takesAtOnce q.head.lane := by
  unfold State.takesAtOnce
  rw [h.partnerOf]
  refine forall_congr' fun m => forall_congr' fun hm => ?_
  have hne := (partnerOf_eq_some hm).2.2.symm
  rw [h.interlockClear hne, h.others m hne]

theorem handedOn.released (h : handedOn s v q) (hlevels : s.levelLaw) (hpolled : s.inPollSet q.head = true)
    (habsent : ∀ y ∈ s.punch.verdicts, y.head ≠ q.head) (honce : s.takesAtOnce q.head.lane) :
    unchangedBut [.lanes, .punch, .inputs] v (v.takeGrant q.head.lane (grantFor q)).settle ∧
      grantReleased q s (v.takeGrant q.head.lane (grantFor q)).settle ∧
      ∀ m, m ≠ q.head.lane → (v.takeGrant q.head.lane (grantFor q)).settle.lane m = s.lane m := by
  have hpolled' := h.polled hpolled
  have hsettle := settle_granted (g := grantFor q) hlevels h.levels (used_of_inPollSet hpolled') rfl
  have hlane := releaseGrant_lane_same v q.head.lane (grantFor q)
  have hpunch := releaseGrant_punch h.handedAt_same hpolled' (by rw [h.verdicts]; exact habsent) (grantFor q)
  have hleveled : ((v.releaseGrant q.head.lane (grantFor q)).leveled q.head.lane).punch = _ := hpunch
  rw [State.takeGrant_of_takesAtOnce (h.takesAtOnce.2 honce), hsettle]
  refine ⟨((releaseGrant_frame v _ _).mono (by decide)).trans ((leveled_frame _ _).mono (by decide)),
    ⟨?_, ?_, ?_, ?_, ?_, ?_⟩, fun m hm => ?_⟩
  · rw [leveled_lane_same, hlane]
    rfl
  · rw [leveled_lane_same, hlane]
    exact h.mode
  · rw [leveled_lane_same, hlane]
    exact Lane.wantsRelease_of_granted (g := v.releasedGrant q.head.lane (grantFor q)) rfl rfl
      (used_of_inPollSet hpolled') rfl rfl
  · rw [leveled_lane_same, hlane]
    simp only [State.releasedLane, State.releasedGrant, State.inSeconds, State.elapsed, h.time, h.levels.setup]
    rfl
  · exact (congrArg (fun x : PunchUnit => x.handed[q.head.lane]) hleveled).trans h.handedAt_same
  · rw [hleveled, ← h.verdicts]
    rfl
  · rw [leveled_lane_other hm.symm, releaseGrant_lane_other _ hm.symm, h.others m hm.symm]

/-- The grant of a lane that must wait is held, whatever becomes of it at the arbiter's look (R85, R86). -/
theorem takeGrant_of_not_once (honce : ¬ s.takesAtOnce l) (g : Grant) : s.takeGrant l g = (s.holdGrant l g).lookAtEntry l := by
  refine if_pos (Bool.not_eq_false _ ▸ fun hno => honce ((s.mustWait_eq_false_iff l).1 hno))

theorem onlyVerdicts_takeGrant (s : State) (l : LaneId) (g : Grant) : onlyVerdicts s (s.takeGrant l g) := by
  unfold State.takeGrant
  split
  · exact (onlyVerdicts_holdGrant s l g).trans (onlyVerdicts_lookAtEntry _ l)
  · exact onlyVerdicts_releaseGrant s l g

theorem handedOn.held (h : handedOn s v q) (hlevels : s.levelLaw) (hnone : (s.lane q.head.lane).grant = none)
    (hpolled : s.inPollSet q.head = true) (habsent : ∀ y ∈ s.punch.verdicts, y.head ≠ q.head)
    (honce : ¬ s.takesAtOnce q.head.lane) (hstays : s.partnerStays q.head.lane) :
    unchangedBut [.lanes, .punch] v (v.takeGrant q.head.lane (grantFor q)).settle ∧
      grantHeld q s (v.takeGrant q.head.lane (grantFor q)).settle ∧
      ∀ m, m ≠ q.head.lane → (v.takeGrant q.head.lane (grantFor q)).settle.lane m = s.lane m := by
  have hgrant : (v.lane q.head.lane).grant = none := by
    rw [h.lane]
    exact hnone
  have hsame := sameLevels_holdGrant hgrant (grantFor q)
  have hlane := holdGrant_lane_same v q.head.lane (grantFor q)
  have hstays' : (v.holdGrant q.head.lane (grantFor q)).partnerStays q.head.lane := by
    intro m k hm hk hphase
    rw [partnerOf_congr hsame.setup, h.partnerOf] at hm
    have hne := (partnerOf_eq_some hm).2.2.symm
    rw [holdGrant_lane_other _ hne, h.others m hne] at hk
    have hclear := hstays m k hm hk hphase
    unfold State.interlockClear State.deadTimeEndOf State.elapsed at hclear ⊢
    rw [hsame.driveRelease, h.levels.driveRelease, hsame.setup, h.levels.setup, hlane,
      (holdGrant_frame v _ _).same (b := .time) (by decide), h.time, State.heldLane, h.lane]
    exact hclear
  rw [takeGrant_of_not_once (h.takesAtOnce.not.2 honce), State.lookAtEntry_of_partnerStays hstays',
    (h.levels.trans hsame).settle hlevels]
  refine ⟨holdGrant_frame v _ _, ⟨?_, ?_, ?_, ?_, ?_⟩, fun m hm => ?_⟩
  · rw [hlane]
    rfl
  · rw [hlane]
    exact h.mode
  · rw [hlane]
    simp only [State.heldLane, State.heldGrant, State.inSeconds, State.elapsed, h.time, h.levels.setup]
    rfl
  · exact ((onlyVerdicts_holdGrant v _ _).handedAt _).trans h.handedAt_same
  · rw [holdGrant_verdicts h.handedAt_same (h.polled hpolled) (by rw [h.verdicts]; exact habsent), h.verdicts]
  · rw [holdGrant_lane_other _ hm.symm, h.others m hm.symm]

/-- A lane neither RELEASED nor in INTERLOCK_WAIT has no grant (R70). -/
theorem grant_eq_none_of_law (hlanes : s.laneLaw) (hnot : (s.lane l).activity ≠ .released)
    (hwaits : (s.lane l).activity ≠ .interlockWait) : (s.lane l).grant = none := by
  obtain ⟨hreleased, hwaiting, -⟩ := hlanes l
  cases hg : (s.lane l).grant with
  | none => rfl
  | some g =>
    cases hphase : g.phase with
    | released => exact absurd (hreleased.2 ⟨g, hg, hphase⟩) hnot
    | waiting => exact absurd (hwaiting.2 ⟨g, hg, hphase⟩) hwaits

/-! ### From the checks to the grant (R42, R49–R53) -/

/-- A punch that passes its checks at a slot goes to its grant (R53). -/
theorem judgeSlot_of_passes (hpasses : s.passes p a)
    (hwritten : slotWritten s t a ((s.slot a).counted p.head.dir p.intent))
    (ht : t = s.raiseUnrecorded a (classify p.head.dir (s.slot a).record p.intent).raises) :
    s.judgeSlot p a = t.grantPunch (s.handedFor p a) := by
  obtain ⟨hmark, hrepeat, hlane, hpassback, hwindow⟩ := hpasses
  rw [judgeSlot_of_not_inUse fun ⟨m, hm, hne⟩ => hne (hmark m hm), hrepeat, if_neg Bool.false_ne_true, if_pos hlane, ← ht]
  unfold State.judgeClassified
  dsimp only
  rw [presenceOf_counted hwritten, windowFor_counted hwritten, hwritten.lane, if_neg hpassback]
  unfold State.handedFor workerPunch passOf
  cases hanswer : s.windowOf p a with
  | denied => exact absurd hanswer hwindow
  | within => cases p.stamp <;> rfl
  | offWindow => cases p.stamp <;> rfl

theorem mustWait_congr (hsame : sameLevels s t) (hlanes : t.lanes = s.lanes) (htime : t.time = s.time) (l : LaneId) :
    t.mustWait l = s.mustWait l := by
  have hlane : ∀ m, t.lane m = s.lane m := fun m => congrArg (fun x : Vector Lane 8 => x[m]) hlanes
  unfold State.mustWait State.interlockClear State.deadTimeEndOf State.elapsed
  simp only [partnerOf_congr hsame.setup, hsame.driveRelease, hlane, htime]

/-- Between two states a punch has been counted at a slot, the slot marked for its lane, and the punch handed on (R30, R49,
R53). -/
structure workerHanded (s v : State) (p : PunchRead) (a : Nat) : Prop where
  frame : unchangedBut [.punch, .roster] s v
  punch : v.punch = { s.punch with handed := putAt s.punch.handed p.head.lane (some (s.handedFor p a)) }
  slot : v.slot a = { (s.slot a).counted p.head.dir p.intent with mark := some p.head.lane }
  others : ∀ d, d ≠ a → v.slot d = s.slot d
  roster : v.roster = { s.roster with slots := v.roster.slots }

/-- What the grant of a punch stands on, in a mode that is not FREE (R53). -/
theorem grantPunch_of_closed (hmode : (s.lane q.head.lane).mode ≠ .free) : s.grantPunch q =
    ((((s.setMark q.head.lane q.slot).setHanded q.head.lane (some q)).takeGrant q.head.lane (grantFor q)),
      if s.mustWait q.head.lane then .wait else (releaseVerdict q).code) := if_neg hmode

theorem grantPunch_of_free (hmode : (s.lane q.head.lane).mode = .free) : s.grantPunch q =
    ((s.queueVerdict q.head (releaseVerdict q)).commit q.head.lane q, (releaseVerdict q).code) := if_pos hmode

section
variable (hform : s.rosterForm) (hsound : s.soundWords) (hactive : s.statusOf a = .active)
include hform hsound hactive

/-- A punch that passes its checks is handed on for a grant where its lane is not FREE (R49, R53). -/
theorem judgeSlot_handed (hpasses : s.passes p a) (hmode : (s.lane p.head.lane).mode ≠ .free) : ∃ v, workerHanded s v p a ∧
    s.judgeSlot p a = (v.takeGrant p.head.lane (grantFor (s.handedFor p a)),
      if s.mustWait p.head.lane then .wait else .release) := by
  have herrors := errors_of_active hsound hactive
  have hraised := raiseUnrecorded_written hform herrors hactive p.head.dir p.intent
  have hjudge := judgeSlot_of_passes hpasses hraised rfl
  generalize s.raiseUnrecorded a _ = t at hraised hjudge
  have hcounted : (t.slot a).errors = ⟨0, false⟩ ∧ t.statusOf a = .active := by
    obtain ⟨n, hn⟩ := Slot.counted_cases (s.slot a) p.head.dir p.intent
    obtain ⟨hd, hstatus⟩ := statusOf_eq_active.1 hactive
    rw [statusOf_eq_active, hraised.same, hn]
    refine ⟨herrors, ?_, hstatus⟩
    rw [State.isDamaged, hraised.roster]
    exact hd
  have hmarked := hraised.trans
    (writeSlot_written hraised.form hcounted.1 hcounted.2 false fun x => { x with mark := some p.head.lane })
  have hpunch : ((t.setMark p.head.lane (some a)).punch) = s.punch := hmarked.frame.same (b := .punch) (by decide)
  refine ⟨(t.setMark p.head.lane (some a)).setHanded p.head.lane (some (s.handedFor p a)),
    ⟨frame_setPunch _ (hmarked.frame.mono (by decide)) (by decide), ?_, ?_, hmarked.others, hmarked.roster⟩, ?_⟩
  · rw [State.setHanded, State.setPunch_punch, hpunch]
  · refine hmarked.same.trans ?_
    rw [hraised.same]
  · rw [hjudge, grantPunch_of_closed (q := s.handedFor p a) (by rw [hraised.lane]; exact hmode)]
    have hwaits := mustWait_congr (sameLevels_of_frame hraised.frame (by decide)) (hraised.frame.same (b := .lanes) (by decide))
      (hraised.frame.same (b := .time) (by decide)) p.head.lane
    exact congrArg (Prod.mk _) (by rw [← hwaits]; rfl)

/-- In FREE a punch that passes its checks commits at once, its verdict queued first (R53). -/
theorem judgeSlot_free (hpasses : s.passes p a) (hmode : (s.lane p.head.lane).mode = .free) :
    ∃ t, slotWritten s t a ((s.slot a).counted p.head.dir p.intent) ∧
      (s.judgeSlot p a).1 = (t.queueVerdict p.head (releaseVerdict (s.handedFor p a))).commit p.head.lane (s.handedFor p a) := by
  have hraised := raiseUnrecorded_written hform (errors_of_active hsound hactive) hactive p.head.dir p.intent
  refine ⟨_, hraised, ?_⟩
  rw [judgeSlot_of_passes hpasses hraised rfl]
  exact congrArg Prod.fst (grantPunch_of_free (q := s.handedFor p a) (by rw [hraised.lane]; exact hmode))

end

/-- A visitor's punch is handed on for a grant where its lane is not FREE (R45, R53). -/
theorem grantPunch_visitor (hmode : (s.lane p.head.lane).mode ≠ .free) : s.grantPunch (visitorPunch p) =
    ((s.setHanded p.head.lane (some (visitorHanded p))).takeGrant p.head.lane (grantFor (visitorHanded p)),
      if s.mustWait p.head.lane then .wait else .releaseNoted) := grantPunch_of_closed (q := visitorPunch p) hmode

theorem missed_of_referred (honline : s.link.online = true) (hrefers : (s.lane p.head.lane).setup.referral = true) :
    s.missed p = s.startReferral p := if_pos ⟨honline, hrefers⟩

theorem applyMiss_of_noted (h : (s.lane p.head.lane).setup.miss = .admitNoted) :
    s.applyMiss p = s.grantPunch (visitorPunch p) := by simp [State.applyMiss, h]

/-! ### The punch taken by the gate line and the lane (R42, R58) -/

theorem workerHanded.handedOn (h : workerHanded s v p a) : handedOn s v (s.handedFor p a) :=
  ⟨sameLevels_of_frame h.frame (by decide),
    fun m _ => congrArg (fun x : Vector Lane 8 => x[m]) (h.frame.same (b := .lanes) (by decide)),
    by rw [State.lane, h.frame.same (b := .lanes) (by decide)]; rfl, h.frame.same (b := .time) (by decide),
    by rw [h.punch], by rw [h.punch]; rfl⟩

theorem handedOn_visitor (s : State) (p : PunchRead) :
    handedOn s (s.setHanded p.head.lane (some (visitorHanded p))) (visitorHanded p) :=
  ⟨sameLevels_setPunch s _, fun _ _ => rfl, rfl, rfl, rfl, rfl⟩

/-- What a punch's grant leaves of the Punch Unit and the other lanes, once taken. -/
theorem handedOn.taken (h : handedOn s v q) : onlyVerdicts v (v.takeGrant q.head.lane (grantFor q)).settle ∧
    ∀ m, m ≠ q.head.lane → (v.takeGrant q.head.lane (grantFor q)).settle.handedAt m = s.handedAt m := by
  have honly := (onlyVerdicts_takeGrant v q.head.lane (grantFor q)).trans (onlyVerdicts_settle _)
  exact ⟨honly, fun m hm => (honly.handedAt m).trans (h.handedAt_other hm.symm)⟩

theorem startReferral_settled (hlevels : s.levelLaw) (hpolled : s.inPollSet p.head = true)
    (habsent : ∀ y ∈ s.punch.verdicts, y.head ≠ p.head) : ∃ t, (s.startReferral p).1.settle = t ∧
      unchangedBut [.lanes, .punch, .link] s t ∧
      t.lanes = putAt s.lanes p.head.lane { s.lane p.head.lane with activity := .referralWait } ∧
      t.punch = { s.punch with
        waits := putAt s.punch.waits p.head.lane (some
          { head := p.head, badge := p.badge, intent := p.intent, stamp := p.stamp
            expiry := s.time.elapsed + 1000 * s.setup.general.referralTimeout })
        verdicts := s.punch.verdicts ++ [⟨p.head, ⟨.wait, .none, false⟩⟩] } ∧
      t.link = (s.sendReport (.referral p.stamp p.head.lane p.head p.badge p.intent)).link := by
  have hframe : unchangedBut [.lanes, .punch, .link] s (s.startReferral p).1 :=
    frame_startReferral p (.refl _ _) (by decide) (by decide) (by decide)
  let w : State := (s.setPunch { s.punch with waits := putAt s.punch.waits p.head.lane (some
    { head := p.head, badge := p.badge, intent := p.intent, stamp := p.stamp
      expiry := s.inSeconds s.setup.general.referralTimeout }) }).setLane p.head.lane
    { s.lane p.head.lane with activity := .referralWait }
  have hw : sameLevels s w := (sameLevels_setPunch s _).trans (sameLevels_setLane rfl)
  have hqueue := queueVerdict_of_absent (s := w) (plainVerdict .wait) ((inPollSet_congr (hw.setup _)).trans hpolled) habsent
  have htold := queueVerdict_frame w p.head (plainVerdict .wait)
  have hsent : unchangedBut [.link] (w.queueVerdict p.head (plainVerdict .wait)) (s.startReferral p).1 :=
    frame_sendReport _ (.refl _ _) (by decide)
  refine ⟨_, (hw.trans ((sameLevels_of_frame htold (by decide)).trans (sameLevels_of_frame hsent (by decide)))).settle hlevels,
    hframe, ?_, ?_, sendReport_link _ (htold.same (b := .link) (by decide))⟩
  · exact (hsent.same (b := .lanes) (by decide)).trans (htold.same (b := .lanes) (by decide))
  · refine (hsent.same (b := .punch) (by decide)).trans ?_
    rw [hqueue]
    rfl

end

/-- Settles O27: a punch that passes its checks is handed on, and its lane's grant settles with that lane's levels alone. -/
theorem punchReleasesAWorker : Obligations.PunchReleasesAWorker := by
  unfold Obligations.PunchReleasesAWorker
  refine ⟨fun i d t out total => ⟨rfl, rfl, rfl, rfl, rfl, rfl, fun hfew => if_pos hfew, fun hmany => if_neg (Nat.not_lt.2 hmany),
    rfl, rfl⟩, ?_⟩
  intro s h e badge intent hrun hform hsound hbadges hlevels hout hin hactive hpolled hidle habsent hzero htop lane p taken rest
    missed marked held
  have hexec := exec_punch_of_answer hrun hout hin hactive badge intent
  have hbase : sameLevels s (s.answered h) := sameLevels_setPunch s _
  have hlaw : (s.answered h).levelLaw := hbase.levelLaw hlevels
  have hfirst : unchangedBut [.punch] s (s.answered h) := frame_setPunch _ (.refl _ _) (by decide)
  have haccepts : lane.mode = .secure ∨ lane.mode = .free → (s.answered h).accepts p := fun hmode => ⟨hmode, hidle,
    fun hnone => hzero (BitVec.toNat_inj.1 hnone), fun hall => htop (BitVec.toNat_inj.1 hall)⟩
  have hheldjudge : ∀ a, lane.mode = .secure ∨ lane.mode = .free → s.holdsBadge badge.toNat a = true →
      (s.answered h).judge p = (s.answered h).judgeSlot p a := fun a hmode => judge_of_held (haccepts hmode) hsound hbadges
  have hmissjudge : lane.mode = .secure ∨ lane.mode = .free → missed → (s.answered h).judge p = (s.answered h).missed p :=
    fun hmode => judge_of_missing (haccepts hmode) hsound
  have hrest : ∀ {v q}, handedOn (s.answered h) v q → q.head = h → v.punch.outstanding = none → v.punch.waits = s.punch.waits →
      (∀ m, m ≠ q.head.lane → (v.takeGrant q.head.lane (grantFor q)).settle.lane m = s.lane m) →
      rest (v.takeGrant q.head.lane (grantFor q)).settle := by
    rintro v q hv rfl hnone hwaits hothers
    obtain ⟨honly, hhanded⟩ := hv.taken
    exact ⟨(congrArg PunchUnit.outstanding (show _ = _ from honly)).trans hnone, honly.waits.trans hwaits,
      fun l hl => ⟨hothers l hl, hhanded l hl⟩⟩
  have hmarked : ∀ {v t a}, workerHanded (s.answered h) v p a → unchangedBut [.lanes, .punch, .inputs] v t → marked t a :=
    fun {v t a} hv ht => by
      have hroster : t.roster = v.roster := ht.same (b := .roster) (by decide)
      exact ⟨(slot_congr hroster a).trans hv.slot, fun d hd => (slot_congr hroster d).trans (hv.others d hd),
        by rw [hroster]; exact hv.roster⟩
  have hshut : ∀ {mode : LaneMode}, lane.mode = mode → mode ≠ .free → ((s.answered h).lane h.lane).mode ≠ .free :=
    fun hmode hne hfree => hne (hmode.symm.trans hfree)
  have hungranted : s.laneLaw → lane.grant = none := fun hlane =>
    grant_eq_none_of_law hlane (by rw [hidle]; decide) (by rw [hidle]; decide)
  refine ⟨fun a hmode honce hheld hpasses => ?_, fun a hwait hheld hpasses => ?_, fun a hmode hheld hpasses => ?_,
    fun hmissed honline hmiss => ?_, fun hmode hmissed honline hmiss => ?_, fun hmode hmissed honline hrefers => ?_⟩
  · obtain ⟨v, hv, hjudge⟩ := judgeSlot_handed (s := s.answered h) (p := p) hform hsound (holdsBadge_eq_true.1 hheld).1 hpasses
      (hshut hmode (by decide))
    have hon := hv.handedOn
    obtain ⟨hframe, hreleased, hothers⟩ := hon.released hlaw hpolled habsent honce
    refine ⟨_, hexec.trans (by rw [hheldjudge a (.inl hmode) hheld, hjudge]; rfl), ?_, hreleased,
      hrest hon rfl (by rw [hv.punch]; rfl) (by rw [hv.punch]; rfl) hothers, hmarked hv hframe⟩
    exact (hfirst.mono (by decide)).trans ((hv.frame.mono (by decide)).trans (hframe.mono (by decide)))
  · obtain ⟨hmode, honce, hstays, hlane⟩ := hwait
    obtain ⟨v, hv, hjudge⟩ := judgeSlot_handed (s := s.answered h) (p := p) hform hsound (holdsBadge_eq_true.1 hheld).1 hpasses
      (hshut hmode (by decide))
    have hon := hv.handedOn
    obtain ⟨hframe, hwaits, hothers⟩ := hon.held hlaw (hungranted hlane) hpolled habsent honce hstays
    refine ⟨_, hexec.trans (by rw [hheldjudge a (.inl hmode) hheld, hjudge]; rfl), ?_, hwaits,
      hrest hon rfl (by rw [hv.punch]; rfl) (by rw [hv.punch]; rfl) hothers, hmarked hv (hframe.mono (by decide))⟩
    exact (hfirst.mono (by decide)).trans ((hv.frame.mono (by decide)).trans (hframe.mono (by decide)))
  · intro q
    obtain ⟨t, ht, hjudge⟩ := judgeSlot_free (s := s.answered h) (p := p) hform hsound (holdsBadge_eq_true.1 hheld).1 hpasses hmode
    have hpunch : t.punch = (s.answered h).punch := ht.frame.same (b := .punch) (by decide)
    have htold := queueVerdict_frame t h (releaseVerdict q)
    have hroster : (t.queueVerdict h (releaseVerdict q)).roster = t.roster := htold.same (b := .roster) (by decide)
    have hcommit := frame_commit (L := [.roster, .records, .spool, .link]) h.lane q
      (.refl _ (t.queueVerdict h (releaseVerdict q))) (by decide) (by decide) (by decide) (by decide)
    have hsettle := (hbase.trans ((sameLevels_of_frame ht.frame (by decide)).trans ((sameLevels_of_frame htold (by decide)).trans
      (sameLevels_of_frame hcommit (by decide))))).settle hlevels
    refine ⟨t.queueVerdict h (releaseVerdict q), hexec.trans ?_, ?_, ?_, (slot_congr hroster a).trans ht.same,
      fun d hd => (slot_congr hroster d).trans (ht.others d hd), by rw [hroster]; exact ht.roster⟩
    · rw [hheldjudge a (.inr hmode) hheld, hjudge]
      exact congrArg _ hsettle
    · exact (hfirst.mono (by decide)).trans ((ht.frame.mono (by decide)).trans (htold.mono (by decide)))
    · rw [queueVerdict_of_absent (s := t) _ ((inPollSet_congr (by rw [ht.lane]; rfl)).trans hpolled)
        (by rw [hpunch]; exact habsent), State.setPunch_punch, hpunch]
      rfl
  · have hon := handedOn_visitor (s.answered h) p
    have hmissing : ∀ hmode : lane.mode = .secure, (s.answered h).judge p =
        (s.answered h).grantPunch (visitorPunch p) := fun hmode => by
      rw [hmissjudge (.inl hmode) hmissed, missed_of_unreferred (s := s.answered h) (p := p) honline,
        applyMiss_of_noted (s := s.answered h) (p := p) hmiss]
    refine ⟨fun hmode honce => ?_, fun hwait => ?_⟩
    · obtain ⟨hframe, hreleased, hothers⟩ := hon.released hlaw hpolled habsent honce
      refine ⟨_, hexec.trans (by rw [hmissing hmode, grantPunch_visitor (hshut hmode (by decide))]; rfl), ?_, hreleased,
        hrest hon rfl rfl rfl hothers⟩
      exact (hfirst.mono (by decide)).trans
        ((frame_setHanded (L := [.punch]) h.lane _ (.refl _ _) (by decide)).mono (by decide) |>.trans hframe)
    · obtain ⟨hmode, honce, hstays, hlane⟩ := hwait
      obtain ⟨hframe, hwaits, hothers⟩ := hon.held hlaw (hungranted hlane) hpolled habsent honce hstays
      refine ⟨_, hexec.trans (by rw [hmissing hmode, grantPunch_visitor (hshut hmode (by decide))]; rfl), ?_, hwaits,
        hrest hon rfl rfl rfl hothers⟩
      exact (hfirst.mono (by decide)).trans
        ((frame_setHanded (L := [.punch]) h.lane _ (.refl _ _) (by decide)).mono (by decide) |>.trans hframe)
  · have hqueue := queueVerdict_of_absent (s := s.answered h) (releaseVerdict (visitorHanded p)) hpolled habsent
    have htold := queueVerdict_frame (s.answered h) h (releaseVerdict (visitorHanded p))
    have hcommit := frame_commit (L := [.roster, .records, .spool, .link]) h.lane (visitorHanded p)
      (.refl _ ((s.answered h).queueVerdict h (releaseVerdict (visitorHanded p)))) (by decide) (by decide) (by decide) (by decide)
    have hsettle := (hbase.trans ((sameLevels_of_frame htold (by decide)).trans
      (sameLevels_of_frame hcommit (by decide)))).settle hlevels
    rw [hexec, hmissjudge (.inr hmode) hmissed, missed_of_unreferred (s := s.answered h) (p := p) honline,
      applyMiss_of_noted (s := s.answered h) (p := p) hmiss, grantPunch_of_free (s := s.answered h) (q := visitorPunch p) hmode]
    exact congrArg _ (hsettle.trans (by rw [hqueue]; rfl))
  · obtain ⟨t, hsettle, hframe, hlanes, hpunch, hlink⟩ :=
      startReferral_settled (s := s.answered h) (p := p) hlaw hpolled habsent
    refine ⟨t, ?_, (hfirst.mono (by decide)).trans hframe, hlanes, hpunch, hlink.trans ?_⟩
    · rw [hexec, hmissjudge hmode hmissed, missed_of_referred (s := s.answered h) (p := p) honline hrefers]
      exact congrArg _ hsettle
    · unfold State.sendReport
      rw [if_pos (show (s.answered h).link.online = true from honline)]
      exact apply_ite State.link _ _ _

end Sys2Proof.Machine
end

section
/-! ## The ends of a referral wait (R59–R61) -/
namespace Sys2Proof.Machine

section
variable {s t u v : State} {l m : LaneId} {a : Nat} {p : PunchRead} {q : HandedPunch} {w : ReferralWait} {f : EnrolFields}

/-! ### A wait left, with the roster enrolled into at most (R60, R65) -/

/-- Between two states a lane's referral wait is over and the lane IDLE, and nothing else has changed but the roster. -/
structure leftWait (s t : State) (l : LaneId) : Prop where
  frame : unchangedBut [.lanes, .punch, .roster] s t
  punch : t.punch = { s.punch with waits := putAt s.punch.waits l none }
  lane : t.lane l = { s.lane l with activity := .idle }
  others : ∀ m, l ≠ m → t.lane m = s.lane m

theorem leaveWait_frame (s : State) (l : LaneId) : unchangedBut [.lanes, .punch] s (s.leaveWait l) :=
  frame_leaveWait l (.refl _ _) (by decide) (by decide)

theorem leftWait_leaveWait (s : State) (l : LaneId) : leftWait s (s.leaveWait l) l :=
  ⟨(leaveWait_frame s l).mono (by decide), rfl, State.setLane_same _ _ _, fun _ hlm => State.setLane_other _ _ _ _ hlm⟩

theorem leftWait.setRoster (h : leftWait s t l) (r : Roster) : leftWait s (t.setRoster r) l :=
  ⟨frame_setRoster _ h.frame (by decide), h.punch, h.lane, h.others⟩

theorem leftWait.levels (h : leftWait s t l) : sameLevels s t := by
  refine ⟨fun m => ?_, by rw [h.frame.same (b := .inputs) (by decide)], h.frame.same (b := .bells) (by decide),
    h.frame.same (b := .supply) (by decide)⟩
  by_cases hlm : l = m
  · subst hlm
    rw [h.lane]
    rfl
  · rw [h.others m hlm]

/-- What is handed on as a wait ends is handed on from the state before. -/
theorem handedOn.of_leftWait (h : leftWait s t q.head.lane) (k : handedOn t v q) : handedOn s v q :=
  ⟨h.levels.trans k.levels, fun m hm => (k.others m hm).trans (h.others m hm), k.lane.trans (by rw [h.lane]),
    k.time.trans (h.frame.same (b := .time) (by decide)), k.verdicts.trans (by rw [h.punch]), k.handed.trans (by rw [h.punch])⟩

/-- An IDLE lane with no grant and no setup pending has nothing to settle. -/
theorem settleIdle_of_quiet (h : (s.lane l).activity = .idle → (s.lane l).grant = none ∧ (s.lane l).pendingSetup = none) :
    s.settleIdle l = s := by
  unfold State.settleIdle
  split
  · next hidle =>
    obtain ⟨hgrant, hpending⟩ := h hidle
    have hsame : { s.lane l with activity := .idle, grant := none, pendingSetup := none } = s.lane l := by
      rw [← hidle, ← hgrant, ← hpending]
    have hlanes : putAt s.lanes l (s.lane l) = s.lanes := putAt_self rfl
    unfold State.becomeIdle State.setLane
    dsimp only
    rw [hpending]
    dsimp only
    rw [← hpending, ← hgrant, ← hidle]
    exact congrArg s.setLanes hlanes
  · rfl

/-! ### A lane that has taken a grant is not IDLE -/

theorem releaseGrant_not_idle (h : (s.lane l).activity ≠ .idle ∨ l = m) (g : Grant) :
    ((s.releaseGrant m g).lane l).activity ≠ .idle := by
  by_cases hml : m = l
  · subst hml
    rw [releaseGrant_lane_same]
    exact Activity.noConfusion
  · rw [releaseGrant_lane_other g hml]
    exact h.resolve_right fun hlm => hml hlm.symm

theorem lookOnce_not_idle (h : (s.lane l).activity ≠ .idle) (m p : LaneId) : ((s.lookOnce m p).lane l).activity ≠ .idle := by
  unfold State.lookOnce
  split
  · exact h
  · split
    · exact h
    · exact releaseGrant_not_idle (.inl h) _

theorem takeGrant_not_idle (s : State) (l : LaneId) (g : Grant) : ((s.takeGrant l g).lane l).activity ≠ .idle := by
  unfold State.takeGrant
  split
  · have hheld : ((s.holdGrant l g).lane l).activity ≠ .idle := by
      rw [holdGrant_lane_same]
      exact Activity.noConfusion
    unfold State.lookAtEntry State.lookAtPartner
    split
    · exact hheld
    · split
      · exact hheld
      · split
        · exact lookOnce_not_idle (releaseGrant_not_idle (.inl hheld) _) _ _
        · exact hheld
  · exact releaseGrant_not_idle (.inr rfl) g

theorem settleIdle_takeGrant (s : State) (l : LaneId) (g : Grant) : (s.takeGrant l g).settleIdle l = s.takeGrant l g :=
  settleIdle_of_quiet fun hidle => absurd hidle (takeGrant_not_idle s l g)

/-! ### The waiting punch taken up again (R60) -/

/-- Two states give a punch the same checks and classification at a slot. -/
structure judgedAlike (s t : State) (p : PunchRead) (a : Nat) : Prop where
  slot : t.slot a = s.slot a
  epoch : t.roster.epoch = s.roster.epoch
  setup : t.setup = s.setup
  time : t.time = s.time
  banks : t.banks = s.banks
  lane : (t.lane p.head.lane).setup = (s.lane p.head.lane).setup

theorem leftWait.judgedAlike (h : leftWait s t p.head.lane) (hslot : t.slot a = s.slot a)
    (hepoch : t.roster.epoch = s.roster.epoch) : judgedAlike s t p a :=
  ⟨hslot, hepoch, h.frame.same (b := .setup) (by decide), h.frame.same (b := .time) (by decide),
    h.frame.same (b := .banks) (by decide), by rw [h.lane]⟩

theorem judgedAlike.windowOf (h : judgedAlike s t p a) : t.windowOf p a = s.windowOf p a := by
  unfold State.windowOf State.windowFor State.admitWindow State.activeBank
  rw [h.slot, h.time, h.banks]

theorem judgedAlike.presenceOf (h : judgedAlike s t p a) : t.presenceOf (t.slot a) = s.presenceOf (s.slot a) := by
  unfold State.presenceOf
  rw [h.slot, h.epoch]

theorem judgedAlike.passes (h : judgedAlike s t p a) (hpasses : s.passes p a) : t.passes p a := by
  unfold State.passes at hpasses ⊢
  rw [h.windowOf, h.presenceOf, h.slot, h.setup, h.lane]
  exact hpasses

theorem judgedAlike.handedFor (h : judgedAlike s t p a) : t.handedFor p a = s.handedFor p a := by
  unfold State.handedFor
  rw [h.windowOf, h.presenceOf, h.slot, h.lane]

/-- Between two states a wait has ended with the other lanes standing as they did. -/
def waitOver (s : State) (l : LaneId) (t : State) : Prop :=
  t.punch.waits = putAt s.punch.waits l none ∧ ∀ k, k ≠ l → t.lane k = s.lane k ∧ t.handedAt k = s.handedAt k

section
variable (hleft : leftWait s t p.head.lane)
include hleft

theorem leftWait.over (hon : handedOn s v q) (hwaits : v.punch.waits = t.punch.waits) (hhead : q.head = p.head)
    (hothers : ∀ m, m ≠ q.head.lane → (v.takeGrant q.head.lane (grantFor q)).settle.lane m = s.lane m) :
    waitOver s p.head.lane (v.takeGrant q.head.lane (grantFor q)).settle := by
  obtain ⟨honly, hhanded⟩ := hon.taken
  refine ⟨honly.waits.trans (hwaits.trans (by rw [hleft.punch])), fun k hk => ?_⟩
  rw [← hhead] at hk
  exact ⟨hothers k hk, hhanded k hk⟩

theorem leftWait.mustWait : t.mustWait p.head.lane = false ↔ s.takesAtOnce p.head.lane := by
  have hon := handedOn_visitor t p
  rw [State.mustWait_eq_false_iff]
  exact hon.takesAtOnce.symm.trans (hon.of_leftWait (q := visitorHanded p) hleft).takesAtOnce

theorem leftWait.not_free (hmode : (s.lane p.head.lane).mode = .secure) : (t.lane p.head.lane).mode ≠ .free := by
  rw [hleft.lane]
  exact fun hfree => absurd (hmode.symm.trans hfree) (by decide)

variable (hlevels : s.levelLaw) (hpolled : s.inPollSet p.head = true) (habsent : ∀ y ∈ s.punch.verdicts, y.head ≠ p.head)
  (hmode : (s.lane p.head.lane).mode = .secure)
include hlevels hpolled habsent hmode

/-- A visitor is released at a lane that can release at once (R60, R61). -/
theorem leftWait.visitor (honce : s.takesAtOnce p.head.lane) : ∃ u r, t.grantPunch (visitorPunch p) = (u, .releaseNoted) ∧
    (u.settleIdle p.head.lane).settle = r ∧ unchangedBut [.lanes, .punch, .inputs] t r ∧ waitOver s p.head.lane r ∧
      grantReleased (visitorHanded p) s r := by
  have hon : handedOn s _ (visitorHanded p) := (handedOn_visitor t p).of_leftWait hleft
  obtain ⟨hframe, hreleased, hothers⟩ := hon.released hlevels hpolled habsent honce
  have hjudge := grantPunch_visitor (s := t) (p := p) (hleft.not_free hmode)
  rw [hleft.mustWait.2 honce, if_neg Bool.false_ne_true] at hjudge
  have hhanded : unchangedBut [.punch] t (t.setHanded p.head.lane (some (visitorHanded p))) :=
    frame_setHanded _ _ (.refl _ _) (by decide)
  have hover := hleft.over hon rfl rfl hothers
  generalize t.setHanded p.head.lane (some (visitorHanded p)) = v at hframe hreleased hover hjudge hhanded
  generalize hr : (v.takeGrant (visitorHanded p).head.lane (grantFor (visitorHanded p))).settle = r at hframe hreleased hover
  exact ⟨_, r, hjudge, (congrArg State.settle (settleIdle_takeGrant _ _ _)).trans hr,
    (hhanded.mono (by decide)).trans hframe, hover, hreleased⟩

variable (hform : t.rosterForm) (hsound : t.soundWords) (hactive : t.statusOf a = .active) (hpasses : t.passes p a)
include hform hsound hactive hpasses

/-- A worker whose punch passes its checks is released at a lane that can release at once (R60). -/
theorem leftWait.worker (honce : s.takesAtOnce p.head.lane) : ∃ u r, t.judgeSlot p a = (u, .release) ∧
    (u.settleIdle p.head.lane).settle = r ∧ unchangedBut [.lanes, .punch, .inputs, .roster] t r ∧ waitOver s p.head.lane r ∧
      grantReleased (t.handedFor p a) s r ∧
      r.slot a = { (t.slot a).counted p.head.dir p.intent with mark := some p.head.lane } ∧
      (∀ c, c ≠ a → r.slot c = t.slot c) ∧ r.roster = { t.roster with slots := r.roster.slots } := by
  obtain ⟨v, hv, hjudge⟩ := judgeSlot_handed hform hsound hactive hpasses (hleft.not_free hmode)
  have hon := hv.handedOn.of_leftWait (q := t.handedFor p a) hleft
  obtain ⟨hframe, hreleased, hothers⟩ := hon.released hlevels hpolled habsent honce
  rw [hleft.mustWait.2 honce, if_neg Bool.false_ne_true] at hjudge
  have hover := hleft.over hon (by rw [hv.punch]) rfl hothers
  generalize hr : (v.takeGrant (t.handedFor p a).head.lane (grantFor (t.handedFor p a))).settle = r at hframe hreleased hover
  have hroster : r.roster = v.roster := hframe.same (b := .roster) (by decide)
  exact ⟨_, r, hjudge, (congrArg State.settle (settleIdle_takeGrant _ _ _)).trans hr,
    (hv.frame.mono (by decide)).trans (hframe.mono (by decide)), hover, hreleased,
    (slot_congr hroster a).trans hv.slot, fun c hc => (slot_congr hroster c).trans (hv.others c hc),
    by rw [hroster]; exact hv.roster⟩

/-- At a lane that cannot, the worker's grant is held, WAIT being the first verdict, whatever the arbiter then does (R60, R85;
log entry 36). -/
theorem leftWait.waits (hnone : (s.lane p.head.lane).grant = none) (honce : ¬ s.takesAtOnce p.head.lane) :
    ∃ u r, t.judgeSlot p a = (u, .wait) ∧ (u.settleIdle p.head.lane).settle = r ∧
      unchangedBut [.lanes, .punch, .inputs, .roster] t r ∧ r.punch.waits = putAt s.punch.waits p.head.lane none ∧
      r.handedAt p.head.lane = some (t.handedFor p a) ∧
      (s.partnerStays p.head.lane → waitOver s p.head.lane r ∧ grantHeld (t.handedFor p a) s r) := by
  obtain ⟨v, hv, hjudge⟩ := judgeSlot_handed hform hsound hactive hpasses (hleft.not_free hmode)
  have hon := hv.handedOn.of_leftWait (q := t.handedFor p a) hleft
  obtain ⟨honly, -⟩ := hon.taken
  have htaken : unchangedBut [.lanes, .punch, .inputs] v
      (v.takeGrant (t.handedFor p a).head.lane (grantFor (t.handedFor p a))).settle :=
    frame_settle (frame_takeGrant _ _ (.refl _ _) (by decide) (by decide)) (by decide) (by decide) (by decide)
  have hwaits : t.mustWait p.head.lane = true := Bool.not_eq_false _ ▸ fun hno => honce (hleft.mustWait.1 hno)
  rw [if_pos hwaits] at hjudge
  have hhanded := (honly.handedAt _).trans hon.handedAt_same
  have hheld := fun hstays => hon.held hlevels hnone hpolled habsent honce hstays
  have hover := fun hstays => hleft.over hon (by rw [hv.punch]) rfl (hheld hstays).2.2
  generalize hr : (v.takeGrant (t.handedFor p a).head.lane (grantFor (t.handedFor p a))).settle = r at honly htaken hhanded hheld hover
  exact ⟨_, r, hjudge, (congrArg State.settle (settleIdle_takeGrant _ _ _)).trans hr,
    (hv.frame.mono (by decide)).trans (htaken.mono (by decide)), honly.waits.trans (by rw [hv.punch, hleft.punch]), hhanded,
    fun hstays => ⟨hover hstays, (hheld hstays).2.1⟩⟩

end

/-! ### The events (R59, R60, R61) -/

theorem exec_referralTimeout_of_none (hrun : s.supply.state = .run) (hnone : s.punch.waits[l] = none) :
    exec (.referralTimeout l) s = .next s := by
  change execReferralTimeout l s = _
  refine (whileRunning_of_run hrun).trans (congrArg _ ?_)
  simp only [hnone]

theorem exec_referralTimeout_of_reached (hrun : s.supply.state = .run) (hw : s.punch.waits[l] = some w)
    (he : w.expiry ≤ s.time.elapsed) :
    exec (.referralTimeout l) s = .next (((s.leaveWait l).applyMiss w.punch).1.settleIdle l).settle := by
  change execReferralTimeout l s = _
  refine (whileRunning_of_run hrun).trans (congrArg _ ?_)
  simp only [hw, reach_of_reached he]

section
variable {lane badge : Nat} {d : Decision} {fields : Option EnrolFields} (hrun : s.supply.state = .run)
include hrun

theorem exec_ruling_of_out_of_range (h : 7 < lane ∨ validBadge badge = false ∨ fieldsInRange fields = false) :
    exec (.ruling lane badge (.listed d) fields) s = .next (s.refuse (.ruling lane badge (.listed d) fields) .outOfRange) := by
  change execRuling lane badge (.listed d) fields s = _
  exact (whileRunning_of_run hrun).trans (congrArg _ (if_pos h))

theorem exec_ruling_of_bad_order (h : ¬ (7 < lane ∨ validBadge badge = false ∨ fieldsInRange fields = false))
    (hbad : d = .deny ∧ fields.isSome = true) :
    exec (.ruling lane badge (.listed d) fields) s = .next (s.refuse (.ruling lane badge (.listed d) fields) .badOrder) := by
  change execRuling lane badge (.listed d) fields s = _
  exact (whileRunning_of_run hrun).trans (congrArg _ ((if_neg h).trans (if_pos hbad)))

theorem exec_ruling_of_too_late (h : ¬ (7 < lane ∨ validBadge badge = false ∨ fieldsInRange fields = false))
    (hfit : ¬ (d = .deny ∧ fields.isSome = true)) (hnone : s.waitFor lane badge = none) :
    exec (.ruling lane badge (.listed d) fields) s = .next (s.refuse (.ruling lane badge (.listed d) fields) .tooLate) := by
  change execRuling lane badge (.listed d) fields s = _
  refine (whileRunning_of_run hrun).trans (congrArg _ ((if_neg h).trans ((if_neg hfit).trans ?_)))
  rw [hnone]

theorem exec_ruling_of_wait (h : ¬ (7 < lane ∨ validBadge badge = false ∨ fieldsInRange fields = false))
    (hfit : ¬ (d = .deny ∧ fields.isSome = true)) (hwait : s.waitFor lane badge = some (l, w)) :
    exec (.ruling lane badge (.listed d) fields) s =
      .next (s.carryRuling (.ruling lane badge (.listed d) fields) l w d fields) := by
  change execRuling lane badge (.listed d) fields s = _
  refine (whileRunning_of_run hrun).trans (congrArg _ ((if_neg h).trans ((if_neg hfit).trans ?_)))
  rw [hwait]

end

theorem waitFor_of_wait (hw : s.punch.waits[l] = some w) (hwaits : (s.lane l).activity = .referralWait) :
    s.waitFor l.val w.badge = some (l, w) := by
  have hcell : s.punch.waits[l.val]'l.isLt = some w := hw
  unfold State.waitFor
  rw [dif_pos l.isLt, hcell]
  exact if_pos ⟨rfl, hwaits⟩

theorem waitFor_of_none {lane badge : Nat}
    (h : ∀ l : LaneId, l.val = lane → ∀ w, s.punch.waits[l] = some w → w.badge ≠ badge) : s.waitFor lane badge = none := by
  unfold State.waitFor
  split
  · next hlane =>
    split
    · next w hw => exact if_neg fun hheld => h ⟨lane, hlane⟩ rfl w hw hheld.1
    · rfl
  · rfl

/-! ### The roster enrolled into as a ruling's fields say (R60, R21) -/

/-- The state with a badge enrolled at a place. -/
def State.enrolledAt (s : State) (a badge : Nat) (f : EnrolFields) : State :=
  s.setRoster { s.roster with
    slots := s.roster.slots.put Slot.freeSlot a (enrolledSlot badge f)
    occupiedCount := s.roster.occupiedCount + 1 }

theorem enrolledAt_slot_other (badge : Nat) (f : EnrolFields) {c : Nat} (hc : c ≠ a) : (s.enrolledAt a badge f).slot c = s.slot c :=
  Tab.get_put_other _ _ _ _ _ hc.symm

section
variable (hform : s.rosterForm) (a badge : Nat) (f : EnrolFields)
include hform

theorem enrolledAt_slot_same : (s.enrolledAt a badge f).slot a = enrolledSlot badge f := slot_setSlot_same hform a _

theorem enrolledAt_rosterForm : (s.enrolledAt a badge f).rosterForm := rosterForm_setSlot hform a (enrolledSlot badge f)

theorem enrolledAt_soundWords (hsound : s.soundWords) : (s.enrolledAt a badge f).soundWords := by
  intro c hc
  by_cases hca : c = a
  · rw [hca, enrolledAt_slot_same hform]
    rfl
  · rw [enrolledAt_slot_other badge f hca]
    exact hsound c hc

theorem enrolledAt_active (hfree : s.statusOf a = .free) : (s.enrolledAt a badge f).statusOf a = .active :=
  statusOf_eq_active.2 ⟨(statusOf_eq_free.1 hfree).1, by rw [enrolledAt_slot_same hform]; rfl⟩

end

/-- A slot just enrolled has no closed record waiting, so that no punch raises its count (R49). -/
theorem enrolledSlot_counted (badge : Nat) (f : EnrolFields) (d : Dir) (i : Intent) :
    (enrolledSlot badge f).counted d i = enrolledSlot badge f := by cases d <;> rfl

/-! ### What a ruling does with the waiting punch (R60) -/

section
variable {j : Judged} (hsound : s.soundWords)
include hsound

theorem ruleOn_of_held (hbadges : s.badgeLaw) (hheld : s.holdsBadge w.badge a = true) (hj : s.judgeSlot w.punch a = j) :
    s.ruleOn w .allow none = (j, .ok, none) := by
  unfold State.ruleOn
  dsimp only
  rw [lookup_of_held hsound hbadges hheld]
  dsimp only
  rw [hj]

theorem ruleOn_of_missing (hmissing : ∀ a, s.holdsBadge w.badge a = false) (hj : s.grantPunch (visitorPunch w.punch) = j) :
    s.ruleOn w .allow none = (j, .ok, none) := by
  unfold State.ruleOn
  dsimp only
  rw [lookup_of_missing hsound hmissing]
  dsimp only
  rw [hj]

theorem ruleOn_of_duplicate (hbadges : s.badgeLaw) (hheld : s.holdsBadge w.badge a = true) (f : EnrolFields)
    (hj : s.judgeSlot w.punch a = j) : s.ruleOn w .allow (some f) = (j, .duplicate, some a) := by
  have hfind := congrArg Prod.snd ((lookup_of_sound hsound w.badge).symm.trans (lookup_of_held hsound hbadges hheld))
  unfold State.ruleOn
  dsimp only
  rw [enrol_of_duplicate hsound f hfind]
  dsimp only
  rw [hj]

theorem ruleOn_of_full (hmissing : ∀ a, s.holdsBadge w.badge a = false)
    (hfull : ∀ c ∈ bucketSlots (bucketOf w.badge), s.statusOf c ≠ .free) (f : EnrolFields)
    (hj : s.grantPunch (visitorPunch w.punch) = j) : s.ruleOn w .allow (some f) = (j, .full, none) := by
  unfold State.ruleOn
  dsimp only
  rw [enrol_of_full hsound f (fun c _ => hmissing c) hfull]
  dsimp only
  rw [hj]

theorem ruleOn_of_free (hmissing : ∀ a, s.holdsBadge w.badge a = false) (ha : a ∈ bucketSlots (bucketOf w.badge))
    (hfree : s.statusOf a = .free) (hlowest : ∀ c ∈ bucketSlots (bucketOf w.badge), c < a → s.statusOf c ≠ .free)
    (f : EnrolFields) (hj : (s.enrolledAt a w.badge f).judgeSlot w.punch a = j) :
    s.ruleOn w .allow (some f) = (j, .ok, some a) := by
  unfold State.ruleOn
  dsimp only
  rw [enrol_of_free hsound f (fun c _ => hmissing c) ha hfree hlowest]
  dsimp only
  rw [show (s.setRoster _).judgeSlot w.punch a = j from hj]

end

/-- A punch whose wait ends in a denial leaves its lane IDLE, its verdict queued (R59, R60, R61). -/
theorem endPunch_after_wait (hlevels : s.levelLaw) (hnone : (s.lane w.head.lane).grant = none)
    (hpending : (s.lane w.head.lane).pendingSetup = none) (hpolled : s.inPollSet w.head = true)
    (habsent : ∀ q ∈ s.punch.verdicts, q.head ≠ w.head) (code : VerdictCode) :
    ((((s.leaveWait w.head.lane).endPunch w.head (plainVerdict code)).1.settleIdle w.head.lane).settle) =
      (s.setPunch { s.punch with
        waits := putAt s.punch.waits w.head.lane none
        verdicts := s.punch.verdicts ++ [⟨w.head, ⟨code, .none, false⟩⟩] }).setLane w.head.lane
          { s.lane w.head.lane with activity := .idle } := by
  have hleft := leftWait_leaveWait s w.head.lane
  have htold := queueVerdict_frame (s.leaveWait w.head.lane) w.head (plainVerdict code)
  have hlane : ((s.leaveWait w.head.lane).queueVerdict w.head (plainVerdict code)).lane w.head.lane =
      { s.lane w.head.lane with activity := .idle } :=
    (congrArg (fun x : Vector Lane 8 => x[w.head.lane]) (htold.same (b := .lanes) (by decide))).trans hleft.lane
  have hidle := settleIdle_of_quiet (s := (s.leaveWait w.head.lane).queueVerdict w.head (plainVerdict code))
    (l := w.head.lane) fun _ => by
      rw [hlane]
      exact ⟨hnone, hpending⟩
  have hpolled' := (inPollSet_congr (hleft.levels.setup w.head.lane)).trans hpolled
  change (State.settleIdle (State.queueVerdict _ _ _) _).settle = _
  rw [hidle, (hleft.levels.trans (sameLevels_of_frame htold (by decide))).settle hlevels,
    queueVerdict_of_absent (plainVerdict code) hpolled' habsent]
  rfl

/-- The ruling of a wait that its lane holds ends as the punch it took up does, and its reply names what became of it (R60). -/
theorem exec_ruling_of_ruled {d : Decision} {fields : Option EnrolFields} {code : VerdictCode} {reply : ReplyCode}
    {slot : Option Nat} (hrun : s.supply.state = .run) (hw : s.punch.waits[l] = some w)
    (hwaits : (s.lane l).activity = .referralWait) (hbadge : validBadge w.badge = true) (hfields : fieldsInRange fields = true)
    (hfit : ¬ (d = .deny ∧ fields.isSome = true))
    (hrule : (s.leaveWait l).ruleOn w d fields = ((u, code), reply, slot)) (hr : (u.settleIdle l).settle = t) :
    exec (.ruling l.val w.badge (.listed d) fields) s =
      .next (t.answer (.ruling l.val w.badge (.listed d) fields) reply (.ruling slot (some code))) := by
  rw [exec_ruling_of_wait hrun ?_ hfit (waitFor_of_wait hw hwaits), State.carryRuling, hrule, ← hr]
  rintro (hlane | hno | hno)
  · exact absurd l.isLt (by omega)
  · exact absurd (hbadge.symm.trans hno) (by decide)
  · exact absurd (hfields.symm.trans hno) (by decide)

/-- A wait ended in a release leaves the parts of the state that the release leaves. -/
theorem leaveWait_then {L : List Block} (h : unchangedBut L (s.leaveWait l) t) (hL : ∀ b ∈ [Block.lanes, Block.punch], b ∈ L) :
    unchangedBut L s t := ((leaveWait_frame s l).mono hL).trans h

/-- A ruling ADMIT with enrol fields at a free place enrols the badge there and releases the worker it has become (R60). -/
theorem ruling_enrols (hrun : s.supply.state = .run) (hlevels : s.levelLaw) (hw : s.punch.waits[w.head.lane] = some w)
    (hwaits : (s.lane w.head.lane).activity = .referralWait) (hpolled : s.inPollSet w.head = true)
    (habsent : ∀ y ∈ s.punch.verdicts, y.head ≠ w.head) (hform : s.rosterForm) (hsound : s.soundWords)
    (hbadge : validBadge w.badge = true) (hindices : validIndices f.payClass f.pattern = true)
    (hgranting : (s.lane w.head.lane).mode = .secure ∧ s.takesAtOnce w.head.lane)
    (hmissing : ∀ a, s.holdsBadge w.badge a = false) (ha : a ∈ bucketSlots (bucketOf w.badge)) (hfree : s.statusOf a = .free)
    (hlowest : ∀ c ∈ bucketSlots (bucketOf w.badge), c < a → s.statusOf c ≠ .free)
    (hpasses : (s.enrolledAt a w.badge f).passes w.punch a) :
    ∃ r, exec (.ruling w.head.lane.val w.badge (.listed .allow) (some f)) s =
        .next (r.answer (.ruling w.head.lane.val w.badge (.listed .allow) (some f)) .ok (.ruling (some a) (some .release))) ∧
      unchangedBut [.lanes, .punch, .inputs, .roster] s r ∧ waitOver s w.head.lane r ∧
      grantReleased ((s.enrolledAt a w.badge f).handedFor w.punch a) s r ∧
      r.slot a = { enrolledSlot w.badge f with mark := some w.head.lane } ∧ (∀ c, c ≠ a → r.slot c = s.slot c) ∧
      r.roster.occupiedCount = s.roster.occupiedCount + 1 := by
  have hleft := leftWait_leaveWait s w.head.lane
  have ht : leftWait s ((s.leaveWait w.head.lane).enrolledAt a w.badge f) w.punch.head.lane := hleft.setRoster _
  have hsame : judgedAlike (s.enrolledAt a w.badge f) ((s.leaveWait w.head.lane).enrolledAt a w.badge f) w.punch a :=
    ⟨rfl, rfl, rfl, rfl, rfl, hleft.levels.setup w.head.lane⟩
  have hslot := enrolledAt_slot_same (s := s.leaveWait w.head.lane) hform a w.badge f
  have hothers : ∀ c, c ≠ a → ((s.leaveWait w.head.lane).enrolledAt a w.badge f).slot c = s.slot c := fun c hc =>
    enrolledAt_slot_other (s := s.leaveWait w.head.lane) w.badge f hc
  have hrule := fun {j} => ruleOn_of_free (s := s.leaveWait w.head.lane) (w := w) (j := j) hsound hmissing ha hfree hlowest f
  have hcount : ((s.leaveWait w.head.lane).enrolledAt a w.badge f).roster.occupiedCount = s.roster.occupiedCount + 1 := rfl
  obtain ⟨u, r, hjudge, hr, hframe, hover, hreleased, hmarked, hkept, hroster⟩ := ht.worker hlevels hpolled habsent hgranting.1
    (enrolledAt_rosterForm (s := s.leaveWait w.head.lane) hform a w.badge f)
    (enrolledAt_soundWords (s := s.leaveWait w.head.lane) hform a w.badge f hsound)
    (enrolledAt_active (s := s.leaveWait w.head.lane) hform a w.badge f hfree) (hsame.passes hpasses) hgranting.2
  rw [hsame.handedFor] at hreleased
  refine ⟨r, exec_ruling_of_ruled hrun hw hwaits hbadge hindices (by simp) (hrule hjudge) hr,
    (ht.frame.mono (by decide)).trans hframe, hover, hreleased, ?_, fun c hc => (hkept c hc).trans (hothers c hc), ?_⟩
  · rw [hmarked, hslot, enrolledSlot_counted]
    rfl
  · rw [hroster]
    exact hcount

end

/-- Settles O28: a wait left, the punch is judged or released as at a lookup, and the lane's own levels settle. -/
theorem referralWaitEnds : Obligations.ReferralWaitEnds := by
  unfold Obligations.ReferralWaitEnds
  refine ⟨?_, ?_, fun s l hrun hnone => exec_referralTimeout_of_none hrun hnone⟩
  · rintro s l w hrun hlevels hlanes hw rfl hpolled habsent hpending ended p others ruled visitor worker granting sound
    have hleft : leftWait s (s.leaveWait w.head.lane) p.head.lane := leftWait_leaveWait s w.head.lane
    obtain ⟨-, -, hwaiting, -⟩ := hlanes w.head.lane
    have hwaits : (s.lane w.head.lane).activity = .referralWait := hwaiting.2 (by rw [hw]; rfl)
    have hnone : (s.lane w.head.lane).grant = none :=
      grant_eq_none_of_law hlanes (by rw [hwaits]; decide) (by rw [hwaits]; decide)
    have hended : ∀ code, _ = ended code := endPunch_after_wait hlevels hnone hpending hpolled habsent
    have halike : ∀ a, judgedAlike s (s.leaveWait w.head.lane) p a := fun a => hleft.judgedAlike rfl rfl
    have hmissed : ((s.leaveWait w.head.lane).lane w.head.lane).setup.miss = (s.lane w.head.lane).setup.miss :=
      congrArg LaneSetup.miss (hleft.levels.setup w.head.lane)
    clear_value ended
    refine ⟨fun he hmiss => ?_, fun he hmiss hgrant => ?_, fun hbadge => ?_, fun a hsound hgrant hheld hpasses => ?_,
      fun a hsound hmode honce hheld hpasses => ?_, fun hsound hgrant hmissing => ?_⟩
    · rw [exec_referralTimeout_of_reached hrun hw he, applyMiss_of_deny (p := w.punch) (hmissed.trans hmiss)]
      exact congrArg _ (hended .denyUnknown)
    · obtain ⟨u, r, hgranted, hr, hframe, hover, hreleased⟩ := hleft.visitor hlevels hpolled habsent hgrant.1 hgrant.2
      refine ⟨r, ?_, leaveWait_then hframe (by decide), hover, hreleased⟩
      rw [exec_referralTimeout_of_reached hrun hw he, applyMiss_of_noted (p := w.punch) (hmissed.trans hmiss),
        show (s.leaveWait w.head.lane).grantPunch (visitorPunch w.punch) = _ from hgranted]
      exact congrArg _ hr
    · exact exec_ruling_of_ruled hrun hw hwaits hbadge rfl (by simp) rfl (hended .denyRefused)
    · obtain ⟨hform, hwords, hbadges, hbadge⟩ := hsound
      obtain ⟨u, r, hjudge, hr, hframe, hover, hreleased, hslot, hothers, hroster⟩ := hleft.worker hlevels hpolled habsent
        hgrant.1 hform hwords (holdsBadge_eq_true.1 hheld).1 ((halike a).passes hpasses) hgrant.2
      rw [(halike a).handedFor] at hreleased
      have hall : unchangedBut [.lanes, .punch, .inputs, .roster] s r := leaveWait_then hframe (by decide)
      have hafter : worker a r := ⟨hreleased, hslot, hothers, hroster⟩
      have hheldrule := ruleOn_of_held (s := s.leaveWait w.head.lane) (w := w) hwords hbadges hheld hjudge
      refine ⟨⟨r, exec_ruling_of_ruled hrun hw hwaits hbadge rfl (by simp) hheldrule hr, hall, hover, hafter⟩, fun f hindices => ?_⟩
      have htwice := ruleOn_of_duplicate (s := s.leaveWait w.head.lane) (w := w) hwords hbadges hheld f hjudge
      exact ⟨r, exec_ruling_of_ruled hrun hw hwaits hbadge hindices (by simp) htwice hr, hall, hover, hafter⟩
    · obtain ⟨hform, hwords, hbadges, hbadge⟩ := hsound
      obtain ⟨u, r, hjudge, hr, hframe, hgone, hhanded, hstays⟩ := hleft.waits hlevels hpolled habsent hmode hform hwords
        (holdsBadge_eq_true.1 hheld).1 ((halike a).passes hpasses) hnone honce
      rw [(halike a).handedFor] at hhanded hstays
      have hheldrule := ruleOn_of_held (s := s.leaveWait w.head.lane) (w := w) hwords hbadges hheld hjudge
      exact ⟨r, exec_ruling_of_ruled hrun hw hwaits hbadge rfl (by simp) hheldrule hr, leaveWait_then hframe (by decide),
        hgone, hhanded, hstays⟩
    · obtain ⟨hform, hwords, hbadges, hbadge⟩ := hsound
      obtain ⟨u, r, hgranted, hr, hframe, hover, hreleased⟩ := hleft.visitor hlevels hpolled habsent hgrant.1 hgrant.2
      have hall : unchangedBut [.lanes, .punch, .inputs] s r := leaveWait_then hframe (by decide)
      have hrule := ruleOn_of_missing (s := s.leaveWait w.head.lane) (w := w) hwords hmissing hgranted
      refine ⟨⟨r, exec_ruling_of_ruled hrun hw hwaits hbadge rfl (by simp) hrule hr, hall, hover, hreleased⟩,
        fun f hindices => ⟨fun hfull => ?_, fun a ha hfree hlowest => ?_⟩⟩
      · have hfullrule := ruleOn_of_full (s := s.leaveWait w.head.lane) (w := w) hwords hmissing hfull f hgranted
        exact ⟨r, exec_ruling_of_ruled hrun hw hwaits hbadge hindices (by simp) hfullrule hr, hall, hover, hreleased⟩
      · intro x v hpasses
        exact ruling_enrols hrun hlevels hw hwaits hpolled habsent hform hwords hbadge hindices hgrant hmissing ha hfree hlowest
          hpasses
  · intro s lane badge d f hrun order
    have hpass : lane ≤ 7 → validBadge badge = true → fieldsInRange f = true →
        ¬ (7 < lane ∨ validBadge badge = false ∨ fieldsInRange f = false) := by
      rintro hlane hbadge hfields (hout | hno | hno)
      · omega
      · exact absurd (hbadge.symm.trans hno) (by decide)
      · exact absurd (hfields.symm.trans hno) (by decide)
    exact ⟨fun hout => exec_ruling_of_out_of_range hrun hout,
      fun hlane hbadge hfields hdeny hsome => exec_ruling_of_bad_order hrun (hpass hlane hbadge hfields) ⟨hdeny, hsome⟩,
      fun hlane hbadge hfields hfit hnone =>
        exec_ruling_of_too_late hrun (hpass hlane hbadge hfields) hfit (waitFor_of_none hnone)⟩

end Sys2Proof.Machine
end

section
/-! ## Grants voided, waits cancelled and setups applied, whatever the cause (R57, R62, R65, R66, R73) -/
namespace Sys2Proof.Machine

section
variable {s t u : State} {l m : LaneId}

/-! ### What a report or an entry leaves of the plant link (R180, R189) -/

/-- What of the plant link no report and no entry changes. -/
def Link.standing (x : Link) : RestartPhase × Nat × Bool × Option Elapsed × List Frame :=
  (x.restart, x.again, x.online, x.silence, x.received)

theorem sendReport_standing (s : State) (r : Report) : (s.sendReport r).link.standing = s.link.standing := by
  unfold State.sendReport
  split
  · split <;> rfl
  · rfl

theorem requestEntry_standing (s : State) (e : Entry) : (s.requestEntry e).link.standing = s.link.standing := by
  have hcopy : ∀ (v : State) seq, (v.copyAlarm e seq).link.standing = v.link.standing := fun v seq => by
    cases e with
    | laneAlarm => exact sendReport_standing _ _
    | system => exact sendReport_standing _ _
    | punchNote => rfl
    | shiftTotal => rfl
  unfold State.requestEntry
  split
  · exact hcopy _ _
  · exact hcopy _ _

theorem checkedRead_standing (s : State) (a : Nat) : (s.checkedRead a).link.standing = s.link.standing := by
  have hcorrected : (s.correctedAt a).link = s.link := (correctedAt_frame s a).same (b := .link) (by decide)
  rw [checkedRead_eq]
  split
  · rfl
  · split
    · obtain ⟨-, hlink⟩ := damageSlot_entered (s.correctedAt a) a
      rw [hlink, requestEntry_standing, hcorrected]
    · rw [hcorrected]

theorem dropHanded_standing (s : State) (l : LaneId) : (s.dropHanded l).link.standing = s.link.standing := by
  cases hp : s.handedAt l with
  | none => rw [dropHanded_of_none hp]
  | some p =>
    rw [dropHanded_of_some hp]
    unfold State.clearMark
    split
    · rfl
    · next a _ =>
      have hread := checkedRead_standing (s.setHanded l none) a
      unfold State.writeSlot
      dsimp only
      split <;> exact hread

/-! ### A void notice (R57) -/

/-- What a void notice says, before the handed punch is dropped: END to the head where it is due, and the report. -/
def State.voidTold (s : State) (l : LaneId) (cause : VoidCause) : State :=
  match s.handedAt l with
  | none => s
  | some p =>
    let t := match cause with
      | .expiry | .reverse | .evacuation => s.queueVerdict p.head (plainVerdict .finish)
      | .warmRestart | .supplyHold => s
    if cause = .supplyHold then t else t.sendReport (.void p.stamp l p.head p.badge p.slot p.shown cause)

theorem voidTold_of_none (h : s.handedAt l = none) (cause : VoidCause) : s.voidTold l cause = s := by
  unfold State.voidTold
  rw [h]

theorem voidPunch_eq (s : State) (l : LaneId) (cause : VoidCause) : s.voidPunch l cause = (s.voidTold l cause).dropHanded l := by
  cases hp : s.handedAt l with
  | none =>
    rw [voidTold_of_none hp, dropHanded_of_none hp]
    unfold State.voidPunch
    rw [hp]
  | some p =>
    cases cause <;> simp only [State.voidPunch, State.voidTold, hp]

theorem voidTold_frame (s : State) (l : LaneId) (cause : VoidCause) : unchangedBut [.punch, .link] s (s.voidTold l cause) := by
  unfold State.voidTold
  split
  · exact .refl _ _
  · cases cause with
    | supplyHold => exact .refl _ _
    | warmRestart => exact frame_sendReport _ (.refl _ _) (by decide)
    | expiry | reverse | evacuation =>
      exact frame_sendReport _ ((queueVerdict_frame s _ _).mono (by decide)) (by decide)

theorem voidTold_sameCourse (s : State) (l : LaneId) (cause : VoidCause) : sameCourse s (s.voidTold l cause) := by
  have hsend : ∀ (v : State) r, sameCourse v (v.sendReport r) := fun v r => by
    have hf : unchangedBut [.link] v (v.sendReport r) := frame_sendReport _ (.refl _ _) (by decide)
    refine ⟨fun n => course_congr ?_ ?_ ?_, ?_, ?_⟩
    · rw [State.lane, hf.same (b := .lanes) (by decide)]
      exact ⟨rfl, rfl, rfl⟩
    · rw [hf.same (b := .punch) (by decide)]
    · rw [hf.same (b := .punch) (by decide)]
    · rw [hf.same (b := .inputs) (by decide)]
    · rw [hf.same (b := .inputs) (by decide)]
  unfold State.voidTold
  split
  · exact .refl _
  · cases cause with
    | supplyHold => exact .refl _
    | warmRestart => exact hsend _ _
    | expiry | reverse | evacuation => exact (queueVerdict_sameCourse s _ _).trans (hsend _ _)

theorem voidTold_standing (s : State) (l : LaneId) (cause : VoidCause) :
    (s.voidTold l cause).link.standing = s.link.standing := by
  unfold State.voidTold
  split
  · rfl
  · next p _ =>
    have hqueued : (s.queueVerdict p.head (plainVerdict .finish)).link = s.link :=
      (queueVerdict_frame s _ _).same (b := .link) (by decide)
    cases cause with
    | supplyHold => rfl
    | warmRestart => exact sendReport_standing _ _
    | expiry | reverse | evacuation => exact (sendReport_standing _ _).trans (by rw [hqueued])

/-! ### A grant voided, whatever the cause (R57, R73) -/

theorem voidGrant_ungranted (h : (s.lane l).grant = none) (cause : VoidCause) : State.voidGrant cause s l = s := by
  unfold State.voidGrant
  rw [h]

theorem voidGrant_granted {g : Grant} (h : (s.lane l).grant = some g) (cause : VoidCause) :
    State.voidGrant cause s l = ((s.voidTold l cause).dropHanded l).becomeIdle l := by
  unfold State.voidGrant
  rw [h, ← voidPunch_eq]
  rfl

/-- A grant voided leaves its lane's course as it does whatever the cause. -/
theorem voidGrant_voided (cause : VoidCause) (s : State) (l : LaneId) :
    (State.voidGrant cause s l).course l = (s.course l).voided := by
  cases hgrant : (s.lane l).grant with
  | none => rw [voidGrant_ungranted hgrant, LaneCourse.voided, show (s.course l).grant = none from hgrant]
  | some g =>
    rw [voidGrant_granted hgrant, becomeIdle_course_same, dropHanded_course_same, (voidTold_sameCourse s l cause).1,
      LaneCourse.voided, show (s.course l).grant = some g from hgrant]
    rfl

theorem voidGrant_other (cause : VoidCause) (s : State) (l m : LaneId) (hlm : l ≠ m) :
    (State.voidGrant cause s l).course m = s.course m := by
  cases hgrant : (s.lane l).grant with
  | none => rw [voidGrant_ungranted hgrant]
  | some g =>
    rw [voidGrant_granted hgrant, becomeIdle_course_other _ _ hlm, dropHanded_course_other _ _ hlm,
      (voidTold_sameCourse s l cause).1]

/-- A property of states that a void notice, a dropped punch and a lane left IDLE keep is kept as a grant is voided. -/
theorem voidGrant_induction {P : State → Prop} (cause : VoidCause) (l : LaneId)
    (htold : ∀ v, P v → P (v.voidTold l cause)) (hdrop : ∀ v, P v → P (v.dropHanded l)) (hidle : ∀ v, P v → P (v.becomeIdle l))
    (h : P s) : P (State.voidGrant cause s l) := by
  cases hgrant : (s.lane l).grant with
  | none => rwa [voidGrant_ungranted hgrant]
  | some g =>
    rw [voidGrant_granted hgrant]
    exact hidle _ (hdrop _ (htold _ h))

/-! ### What a setup applied leaves of the lanes and the lines (R66) -/

/-- What of a lane no rule but a setup of its own or a closing of its door changes. -/
def Lane.standing (x : Lane) : LaneSetup × Option Elapsed × Option LaneSetup := (x.setup, x.lastClosing, x.pendingSetup)

theorem Lane.standing_eq_iff {x y : Lane} : x.standing = y.standing ↔
    x.setup = y.setup ∧ x.lastClosing = y.lastClosing ∧ x.pendingSetup = y.pendingSetup := by
  simp only [Lane.standing, Prod.mk.injEq]

/-- What of the Input Sampler no setup applied to a lane changes. -/
def InputSampler.standing (x : InputSampler) : Vector Line 8 × Bool × Option WatchId × Vector (Option Capture) 4 :=
  (x.doors, x.evacuating, x.startingWatch, x.captures)

theorem InputSampler.standing_eq_iff {x y : InputSampler} : x.standing = y.standing ↔ x.doors = y.doors ∧
    x.evacuating = y.evacuating ∧ x.startingWatch = y.startingWatch ∧ x.captures = y.captures := by
  simp only [InputSampler.standing, Prod.mk.injEq]

/-- Between two states the lanes stand as they did, and the Input Sampler. -/
def sameStanding (s t : State) : Prop :=
  (∀ l, (t.lane l).standing = (s.lane l).standing) ∧ t.inputs.standing = s.inputs.standing

theorem sameStanding.refl (s : State) : sameStanding s s := ⟨fun _ => rfl, rfl⟩

theorem sameStanding.trans (h : sameStanding s t) (k : sameStanding t u) : sameStanding s u :=
  ⟨fun l => (k.1 l).trans (h.1 l), k.2.trans h.2⟩

theorem sameStanding_setLane {x : Lane} (h : x.standing = (s.lane l).standing) : sameStanding s (s.setLane l x) := by
  refine ⟨fun m => ?_, rfl⟩
  by_cases hlm : l = m
  · subst hlm
    rw [State.setLane_same, h]
  · rw [State.setLane_other _ _ _ _ hlm]

theorem sameStanding_ite {c : Prop} [Decidable c] (ht : sameStanding s t) (hu : sameStanding s u) :
    sameStanding s (if c then t else u) := by
  split
  · exact ht
  · exact hu

theorem sameStanding_of_frame {L : List Block} (hf : unchangedBut L s t) (hL : Block.lanes ∉ L ∧ Block.inputs ∉ L) :
    sameStanding s t :=
  ⟨fun m => by rw [State.lane, hf.same (b := .lanes) hL.1]; rfl, by rw [hf.same (b := .inputs) hL.2]⟩

theorem sameStanding_setMode (s : State) (l : LaneId) (m : LaneMode) : sameStanding s (s.setMode l m) :=
  sameStanding_ite (.refl s) (sameStanding_setLane rfl)

theorem sameStanding_restoreMode (s : State) (l : LaneId) : sameStanding s (s.restoreMode l) := by
  unfold State.restoreMode
  split
  · exact .refl s
  · exact (sameStanding_setMode s l _).trans (sameStanding_setLane rfl)

theorem sameStanding_kindInEvacuation (s : State) (l : LaneId) (was now : LaneKind) :
    sameStanding s (s.kindInEvacuation l was now) :=
  sameStanding_ite (sameStanding_ite (sameStanding_setLane rfl) (sameStanding_ite (sameStanding_restoreMode s l) (.refl s)))
    (.refl s)

theorem sameStanding_fitPairMember (s : State) (l : LaneId) : sameStanding s (s.fitPairMember l) := by
  have hmode : sameStanding s (if (s.lane l).mode = .free then s.setMode l .secure else s) :=
    sameStanding_ite (sameStanding_setMode s l _) (.refl s)
  have hremembered := fun v => sameStanding_ite (c := (v.lane l).remembered = some .free)
    (sameStanding_setLane (s := v) (l := l) (x := { v.lane l with remembered := some .secure }) rfl) (.refl v)
  have hheld : ∀ v : State, sameStanding s v → sameStanding s (if v.inputs.releaseHolds[l] = some true then
      v.setInputs { v.inputs with releaseHolds := putAt v.inputs.releaseHolds l (some false) } else v) := fun v hv =>
    sameStanding_ite (hv.trans ⟨fun _ => rfl, rfl⟩) hv
  exact hheld _ (hmode.trans (hremembered _))

theorem sameStanding_fitPair (s : State) (l : LaneId) : sameStanding s (s.fitPair l) := by
  unfold State.fitPair
  split
  · exact .refl s
  · exact (sameStanding_fitPairMember s _).trans (sameStanding_fitPairMember _ _)

theorem sameStanding_dropIfLeft (s : State) (before : Bool) (i : Head) : sameStanding s (s.dropIfLeft before i) :=
  sameStanding_ite ⟨fun _ => rfl, rfl⟩ (.refl s)

theorem sameStanding_foldl_keepDead (was : State) (l : List LaneId) (s : State) :
    sameStanding s (l.foldl (State.keepDead was) s) :=
  List.foldlRecOn (motive := sameStanding s) l _ (.refl s) fun _ hv _ _ => hv.trans (sameStanding_setLane rfl)

/-- What follows a setup placed in its lane leaves every lane standing as it does then (R66). -/
theorem applySetup_from_placed (s : State) (l : LaneId) (x : LaneSetup) :
    sameStanding (s.placeSetup l x) (s.applySetup l x) :=
  ((sameStanding_kindInEvacuation _ l _ _).trans ((sameStanding_fitPair _ l).trans (sameStanding_foldl_keepDead s _ _))).trans
    ((sameStanding_dropIfLeft _ _ _).trans (sameStanding_dropIfLeft _ _ _))

theorem placeSetup_lane_other (x : LaneSetup) (hlm : l ≠ m) : (s.placeSetup l x).lane m = s.lane m := by
  unfold State.placeSetup
  rw [State.setLane_other _ _ _ _ hlm]
  split <;> rfl

theorem placeSetup_inputs (s : State) (l : LaneId) (x : LaneSetup) :
    (s.placeSetup l x).inputs.standing = s.inputs.standing := by
  unfold State.placeSetup
  split <;> rfl

theorem applySetup_standing_other (x : LaneSetup) (hlm : l ≠ m) :
    ((s.applySetup l x).lane m).standing = (s.lane m).standing := by
  rw [(applySetup_from_placed s l x).1 m, placeSetup_lane_other x hlm]

/-- A lane left IDLE, its own pending setup or another's applied: a lane with none stands as it did. -/
theorem becomeIdle_standing (hpending : (s.lane m).pendingSetup = none) (l : LaneId) :
    ((s.becomeIdle l).lane m).standing = (s.lane m).standing := by
  by_cases hlm : l = m
  · subst hlm
    rw [becomeIdle_of_no_pending hpending, State.idled, State.setLane_same, Lane.standing, Lane.standing, hpending]
  · have hidled : (s.idled l).lane m = s.lane m := State.setLane_other _ _ _ _ hlm
    unfold State.becomeIdle
    dsimp only
    split
    · exact congrArg Lane.standing hidled
    · exact (applySetup_standing_other (s := s.idled l) _ hlm).trans (congrArg Lane.standing hidled)

theorem becomeIdle_inputs (s : State) (l : LaneId) : (s.becomeIdle l).inputs.standing = s.inputs.standing := by
  unfold State.becomeIdle
  dsimp only
  split
  · rfl
  · exact (applySetup_from_placed _ l _).2.trans (placeSetup_inputs _ l _)

theorem becomeIdle_frame (s : State) (l : LaneId) : unchangedBut [.punch, .lanes, .inputs] s (s.becomeIdle l) :=
  frame_becomeIdle l (.refl _ _) (by decide) (by decide) (by decide)

theorem dropHanded_frame (s : State) (l : LaneId) :
    unchangedBut [.roster, .records, .punch, .spool, .link] s (s.dropHanded l) :=
  frame_dropHanded l (.refl _ _) (by decide) (by decide) (by decide) (by decide) (by decide)

/-- A wait cancelled leaves its lane IDLE. -/
theorem cancelWait_induction {P : State → Prop} (l : LaneId) (hwait : ∀ v, P v → P (v.dropWait l))
    (hidle : ∀ v, P v → P (v.becomeIdle l)) (h : P s) : P (State.cancelWait false s l) := by
  cases hw : s.punch.waits[l] with
  | none => rwa [cancelWait_of_none s l hw]
  | some w =>
    rw [cancelWait_of_some s l hw]
    exact hidle _ (hwait _ h)

end

end Sys2Proof.Machine
end

section
/-! ## RESTART and the warm restart (R41, R92, R147, R163, R193) -/
namespace Sys2Proof.Machine

section
variable {s t u : State} {l m : LaneId}

/-! ### The order (R193) -/

theorem answer_of_handed {ref : OrderRef} {order : Instr} (h : s.link.handed = some ⟨ref, order⟩) (code : ReplyCode)
    (body : ReplyBody) : s.answer order code body = s.setLink { s.link with
      handed := none, transmit := s.link.transmit ++ [.reply ref ⟨code, body⟩], lastReply := some ⟨code, body⟩ } := by
  unfold State.answer
  rw [h]
  exact if_pos rfl

theorem answer_of_unhanded (h : s.link.handed = none) (order : Instr) (code : ReplyCode) (body : ReplyBody) :
    s.answer order code body = s.setLink { s.link with lastReply := some ⟨code, body⟩ } := by
  unfold State.answer
  rw [h]

theorem exec_restart (hrun : s.supply.state = .run) : exec .restart s = .next ((s.answer .restart .ok .none).setLink
    { (s.answer .restart .ok .none).link with
      restart := if s.link.handed.map HandedOrder.order = some .restart ∨ s.link.restart = .replying then .replying else .due
      again := s.link.again + (if s.link.restart = .none then 0 else 1) }) := by
  change execRestart s = _
  exact whileRunning_of_run hrun

theorem again_eq (n : Nat) (x : RestartPhase) : n + (if x = .none then 0 else 1) = if x = .none then n else n + 1 := by
  split <;> rfl

theorem exec_warmRestart (hrun : s.supply.state = .run) :
    exec .warmRestart s = .next (if s.link.restart = .replying then s else s.warmRestart) := by
  change execWarmRestart s = _
  exact whileRunning_of_run hrun

/-! ### Every grant voided and every wait cancelled, with no verdict (R57, R62, R92) -/

/-- The state with every grant voided and every wait cancelled as a warm restart begins. -/
def State.restVoided (s : State) : State :=
  allLanes.foldl (State.cancelWait false) (allLanes.foldl (State.voidGrant .warmRestart) s)

theorem restVoided_course (s : State) (l : LaneId) : s.restVoided.course l = (s.course l).voided.cancelled := by
  rw [State.restVoided, allLanes_foldl (P := State.course) (F := fun _ x => x.cancelled) cancelWait_course_same
    fun u m n => cancelWait_course_other u m, allLanes_foldl (P := State.course) (F := fun _ x => x.voided)
    (voidGrant_voided .warmRestart) (voidGrant_other .warmRestart)]

theorem restVoided_frame (s : State) : unchangedBut grantBlocks s s.restVoided :=
  frame_foldl (fun _ l h => frame_cancelWait false l h (by decide) (by decide) (by decide))
    (frame_foldl (fun _ l h => frame_voidGrant .warmRestart l h (by decide) (by decide) (by decide) (by decide) (by decide)
      (by decide) (by decide)) (.refl _ _))

/-- What the voiding of each grant and the cancelling of each wait keep. -/
theorem restVoided_induction {P : State → Prop} (htold : ∀ v l, P v → P (v.voidTold l .warmRestart))
    (hdrop : ∀ v l, P v → P (v.dropHanded l)) (hidle : ∀ v l, P v → P (v.becomeIdle l))
    (hwait : ∀ v l, P v → P (v.dropWait l)) (h : P s) : P s.restVoided :=
  List.foldlRecOn (motive := P) allLanes _
    (List.foldlRecOn (motive := P) allLanes _ h fun _ hv l _ =>
      voidGrant_induction .warmRestart l (fun v => htold v l) (fun v => hdrop v l) (fun v => hidle v l) hv)
    fun _ hv l _ => cancelWait_induction l (fun v => hwait v l) (fun v => hidle v l) hv

theorem restVoided_link (s : State) : s.restVoided.link.standing = s.link.standing :=
  restVoided_induction (P := fun v => v.link.standing = s.link.standing)
    (fun v l h => (voidTold_standing v l .warmRestart).trans h) (fun v l h => (dropHanded_standing v l).trans h)
    (fun v l h => (congrArg Link.standing ((becomeIdle_frame v l).same (b := .link) (by decide))).trans h) (fun _ _ h => h) rfl

theorem restVoided_inputs (s : State) : s.restVoided.inputs.standing = s.inputs.standing :=
  restVoided_induction (P := fun v => v.inputs.standing = s.inputs.standing)
    (fun v l h => by rwa [(voidTold_frame v l .warmRestart).same (b := .inputs) (by decide)])
    (fun v l h => by rwa [dropHanded_inputs]) (fun v l h => (becomeIdle_inputs v l).trans h) (fun _ _ h => h) rfl

/-- A lane with no pending setup stands as it did. -/
theorem restVoided_standing (hpending : (s.lane l).pendingSetup = none) :
    (s.restVoided.lane l).standing = (s.lane l).standing := by
  have hnone : ∀ v : State, (v.lane l).standing = (s.lane l).standing → (v.lane l).pendingSetup = none := fun v hv =>
    (congrArg (fun x : LaneSetup × Option Elapsed × Option LaneSetup => x.2.2) hv).trans hpending
  refine restVoided_induction (P := fun v => (v.lane l).standing = (s.lane l).standing) (fun v m h => ?_)
    (fun v m h => by rwa [dropHanded_lane]) (fun v m h => (becomeIdle_standing (hnone v h) m).trans h) (fun _ _ h => h) rfl
  rwa [State.lane, (voidTold_frame v m .warmRestart).same (b := .lanes) (by decide)]

/-- With no setup pending the ends of grants and waits leave the inputs alone. -/
theorem restVoided_inputs_of_settled (hpending : ∀ l, (s.lane l).pendingSetup = none) : s.restVoided.inputs = s.inputs := by
  refine (restVoided_induction (P := fun v => (∀ l, (v.lane l).pendingSetup = none) ∧ v.inputs = s.inputs)
    (fun v m h => ?_) (fun v m h => ?_) (fun v m h => ?_) (fun _ _ h => h) ⟨hpending, rfl⟩).2
  · have hframe := voidTold_frame v m .warmRestart
    refine ⟨fun l => ?_, (hframe.same (b := .inputs) (by decide)).trans h.2⟩
    rw [State.lane, hframe.same (b := .lanes) (by decide)]
    exact h.1 l
  · exact ⟨fun l => by rw [dropHanded_lane, h.1 l], (dropHanded_inputs v m).trans h.2⟩
  · rw [becomeIdle_of_no_pending (h.1 m)]
    refine ⟨fun l => ?_, h.2⟩
    by_cases hml : m = l
    · subst hml
      rw [State.idled, State.setLane_same]
    · rw [State.idled, State.setLane_other _ _ _ _ hml, h.1 l]

/-! ### Lanes, gate line and rings started again (R41, R92, R147) -/

/-- A lane as it starts again, with the lines and at the time given (R92). -/
def Lane.restarted (l : LaneId) (x : Lane) (i : InputSampler) (now : Elapsed) : Lane :=
  let isOpen := decide (x.setup.kind = .door) && (i.doors[l]).level.getD x.doorOpen
  { x with
    encoder := 0, held := false, exitAllowance := none, doorOpen := isOpen
    heldTimer := if isOpen then some (now + 1000 * x.setup.heldLimit) else none
    decoderA := (i.encodersA[l]).level.getD x.decoderA
    decoderB := (i.encodersB[l]).level.getD x.decoderB }

theorem Lane.restarted_course (l : LaneId) (x : Lane) (i : InputSampler) (now : Elapsed) :
    (x.restarted l i now).activity = x.activity ∧ (x.restarted l i now).grant = x.grant ∧
      (x.restarted l i now).pendingSetup = x.pendingSetup := ⟨rfl, rfl, rfl⟩

/-- A DOOR lane starting again takes its door status from the contact's debounced level, an open door its timer (R92). -/
theorem Lane.restarted_door {x : Lane} {i : InputSampler} {now : Elapsed} {v : Bool} (hkind : x.setup.kind = .door)
    (hlevel : i.doors[l].level = some v) : (x.restarted l i now).doorOpen = v ∧
      (x.restarted l i now).heldTimer = if v = true then some (now + 1000 * x.setup.heldLimit) else none := by
  have hcell : i.doors[l.val].level = some v := hlevel
  simp [Lane.restarted, hkind, hcell]

theorem restartGateLine_punch (s : State) : s.restartGateLine.punch = { s.punch with
    position := none, outstanding := none, verdicts := [], heads := Vector.replicate 16 ⟨false, 0⟩ } := rfl

theorem restartLanes_lane (s : State) (l : LaneId) :
    (allLanes.foldl State.restartLane s).lane l = (s.lane l).restarted l s.inputs s.time.elapsed := by
  have h := allLanes_foldl (P := fun (u : State) m => (u.lane m, u.inputs, u.time.elapsed))
    (F := fun m x => (x.1.restarted m x.2.1 x.2.2, x.2)) (op := State.restartLane)
    (fun u m => by
      rw [State.restartLane, State.setLane_same]
      rfl)
    (fun u m n hmn => by
      rw [State.restartLane, State.setLane_other _ _ _ _ hmn]
      rfl) s l
  exact congrArg Prod.fst h

theorem restartLanes_after_gateLine (s : State) (l : LaneId) : (allLanes.foldl State.restartLane s.restartGateLine).lane l =
    (s.lane l).restarted l s.inputs s.time.elapsed := restartLanes_lane s.restartGateLine l

theorem retakeLevels_deliveries (s : State) : s.retakeLevels.inputs.deliveries = s.inputs.deliveries := by
  have hundriven := congrArg InputSampler.deliveries (retakeLevels_undriven s)
  exact hundriven

theorem restartLanes_frame (s : State) : unchangedBut [.lanes] s (allLanes.foldl State.restartLane s) :=
  frame_foldl (fun _ l h => frame_restartLane l h (by decide)) (.refl _ _)

theorem endAllRings_frame (s : State) : unchangedBut [.bells] s s.endAllRings := frame_endAllRings (.refl _ _) (by decide)

theorem endAllRings_evacSet (s : State) : s.endAllRings.bells.evacSet = s.bells.evacSet :=
  foldl_keeps (P := fun u : State => u.bells.evacSet) (op := State.endRing) (fun _ _ => rfl) allBells s

/-- The EVACUATION ring started on a set's outputs rings there, and no other ring changes (R146). -/
theorem startEvacRings_rings (s : State) (e : EvacSet) (b : BellId) : (s.startEvacRings e).bells.rings[b] =
    if inSet e.outputs b.val = true then some (evacRingOf (s.activeBank.tone e.tone) s.time.elapsed) else s.bells.rings[b] := by
  have h := allBells_foldl (P := fun (u : State) (b : BellId) => (u.bells.rings[b], u.time.elapsed))
    (F := fun b x => (if inSet e.outputs b.val = true then some (evacRingOf (s.activeBank.tone e.tone) x.2) else x.1, x.2))
    (op := State.startEvacRing e.outputs (s.activeBank.tone e.tone))
    (fun u b => by
      unfold State.startEvacRing
      split
      · exact Prod.ext (putAt_same _ _ _) rfl
      · rfl)
    (fun u b c hbc => by
      unfold State.startEvacRing
      split
      · exact Prod.ext (putAt_other _ _ _ _ hbc) rfl
      · rfl) s b
  exact congrArg Prod.fst h

theorem startEvacRings_evacSet (s : State) (e : EvacSet) : (s.startEvacRings e).bells.evacSet = s.bells.evacSet :=
  foldl_keeps (P := fun u : State => u.bells.evacSet)
    (op := State.startEvacRing e.outputs (s.activeBank.tone e.tone))
    (fun u b => by unfold State.startEvacRing; split <;> rfl) allBells s

theorem resumeEvacRing_frame (s : State) : unchangedBut [.bells] s s.resumeEvacRing :=
  frame_resumeEvacRing (.refl _ _) (by decide)

theorem resumeEvacRing_of_normal (h : s.inputs.evacuating = false) : s.resumeEvacRing = s := by
  unfold State.resumeEvacRing
  rw [h]

theorem resumeEvacRing_of_evacuating {e : EvacSet} (h : s.inputs.evacuating = true) (he : s.bells.evacSet = some e) :
    s.resumeEvacRing = s.startEvacRings e := by
  unfold State.resumeEvacRing
  rw [h, he]

theorem resumeEvacRing_evacSet (s : State) : s.resumeEvacRing.bells.evacSet = s.bells.evacSet := by
  unfold State.resumeEvacRing
  split
  · exact startEvacRings_evacSet _ _
  · rfl

/-! ### The whole restart (R193) -/

/-- The state as the warm restart begins: its cause noted and its phase over. -/
def State.restartBegun (s : State) : State :=
  (s.setSupply { s.supply with resetCause := .warm }).setLink { s.link with
    restart := if s.link.again = 0 then .none else .due
    again := s.link.again - 1 }

/-- The state with its lanes and its gate line started again. -/
def State.linesRestarted (s : State) : State := allLanes.foldl State.restartLane s.restartBegun.restVoided.restartGateLine

/-- The state as a warm restart leaves it, before the levels are taken again. -/
def State.restarted (s : State) : State := s.linesRestarted.endAllRings.resumeEvacRing

theorem warmRestart_settled (s : State) : s.warmRestart = s.restarted.settle := rfl

theorem linesRestarted_from_voided (s : State) :
    unchangedBut [.lanes, .punch] s.restartBegun.restVoided s.linesRestarted :=
  (frame_restartGateLine (.refl _ _) (by decide)).trans ((restartLanes_frame _).mono (by decide))

theorem restarted_from_lines (s : State) : unchangedBut [.bells] s.linesRestarted s.restarted :=
  (endAllRings_frame _).trans (resumeEvacRing_frame _)

theorem restarted_frame (s : State) : unchangedBut ([.bells] ++ grantBlocks) s.restartBegun s.restarted :=
  ((restVoided_frame _).mono (by decide)).trans (((linesRestarted_from_voided s).mono (by decide)).trans
    ((restarted_from_lines s).mono (by decide)))

theorem restarted_lane (s : State) (l : LaneId) : s.restarted.lane l =
    (s.restartBegun.restVoided.lane l).restarted l s.restartBegun.restVoided.inputs s.time.elapsed := by
  have htime : s.restartBegun.restVoided.time = s.time := (restVoided_frame _).same (b := .time) (by decide)
  have hlanes : s.restarted.lane l = s.linesRestarted.lane l :=
    congrArg (fun v : Vector Lane 8 => v[l]) ((restarted_from_lines s).same (b := .lanes) (by decide))
  rw [hlanes, State.linesRestarted, restartLanes_after_gateLine, htime]

theorem restarted_punch (s : State) : s.restarted.punch = { s.restartBegun.restVoided.punch with
    position := none, outstanding := none, verdicts := [], heads := Vector.replicate 16 ⟨false, 0⟩ } := by
  rw [(restarted_from_lines s).same (b := .punch) (by decide), State.linesRestarted,
    (restartLanes_frame _).same (b := .punch) (by decide), restartGateLine_punch]

theorem restarted_inputs (s : State) : s.restarted.inputs = s.restartBegun.restVoided.inputs :=
  ((restarted_from_lines s).same (b := .inputs) (by decide)).trans
    ((linesRestarted_from_voided s).same (b := .inputs) (by decide))

theorem restarted_course (hlanes : s.laneLaw) (l : LaneId) : s.restarted.course l = .rest := by
  refine (course_congr ?_ ?_ ?_).trans ((restVoided_course s.restartBegun l).trans (voided_cancelled_rest hlanes l))
  · rw [restarted_lane]
    exact Lane.restarted_course _ _ _ _
  · rw [restarted_punch]
  · rw [restarted_punch]

theorem warmRestart_eq (hlanes : s.laneLaw) : s.warmRestart = s.restarted.retakeLevels := by
  rw [warmRestart_settled, settle_of_no_grants fun l => ?_]
  obtain ⟨-, hgrant, -⟩ := course_eq_rest (restarted_course hlanes l)
  exact hgrant

/-- What a lane holds as it has started again (R92). -/
theorem warmRestart_lane (s : State) (l : LaneId) : (s.restarted.retakeLevels.lane l).encoder = 0 ∧
    (s.restarted.retakeLevels.lane l).held = false ∧ (s.restarted.retakeLevels.lane l).exitAllowance = none ∧
    ((s.lane l).pendingSetup = none → (s.restarted.retakeLevels.lane l).setup = (s.lane l).setup ∧
      (s.restarted.retakeLevels.lane l).lastClosing = (s.lane l).lastClosing) ∧
    ∀ v, (s.restarted.retakeLevels.lane l).setup.kind = .door → s.inputs.doors[l].level = some v →
      (s.restarted.retakeLevels.lane l).doorOpen = v ∧ (s.restarted.retakeLevels.lane l).heldTimer =
        if v = true then some (s.time.elapsed + 1000 * (s.restarted.retakeLevels.lane l).setup.heldLimit) else none := by
  obtain ⟨hdoors, -⟩ := InputSampler.standing_eq_iff.1 (restVoided_inputs s.restartBegun)
  have hkept : (s.lane l).pendingSetup = none → (s.restartBegun.restVoided.lane l).setup = (s.lane l).setup ∧
      (s.restartBegun.restVoided.lane l).lastClosing = (s.lane l).lastClosing := fun hnone => by
    obtain ⟨hsetup, hclosing, -⟩ := Lane.standing_eq_iff.1 (restVoided_standing (s := s.restartBegun) (l := l) hnone)
    exact ⟨hsetup, hclosing⟩
  rw [retakeLevels_lane, restarted_lane]
  generalize s.restartBegun.restVoided.lane l = x at hkept ⊢
  generalize s.restartBegun.restVoided.inputs = i at hdoors ⊢
  refine ⟨rfl, rfl, rfl, hkept, fun v hkind hlevel => ?_⟩
  have hcell : i.doors[l].level = some v := by
    rw [hdoors]
    exact hlevel
  exact Lane.restarted_door (now := s.time.elapsed) hkind hcell

theorem linesRestarted_bells (s : State) : s.linesRestarted.bells = s.bells :=
  ((linesRestarted_from_voided s).same (b := .bells) (by decide)).trans ((restVoided_frame _).same (b := .bells) (by decide))

theorem restarted_evacSet (s : State) : s.restarted.bells.evacSet = s.bells.evacSet := by
  rw [State.restarted, resumeEvacRing_evacSet, endAllRings_evacSet, linesRestarted_bells]

theorem linesRestarted_evacuating (s : State) : s.linesRestarted.inputs.evacuating = s.inputs.evacuating := by
  rw [(linesRestarted_from_voided s).same (b := .inputs) (by decide)]
  obtain ⟨-, hevacuating, -⟩ := InputSampler.standing_eq_iff.1 (restVoided_inputs s.restartBegun)
  exact hevacuating

theorem endAllRings_evacuating (s : State) : s.linesRestarted.endAllRings.inputs.evacuating = s.inputs.evacuating := by
  rw [(endAllRings_frame _).same (b := .inputs) (by decide), linesRestarted_evacuating]

/-- Outside an evacuation every ring has ended (R147). -/
theorem restarted_bell_of_normal (h : s.inputs.evacuating = false) (b : BellId) :
    s.restarted.bells.rings[b] = none ∧ s.restarted.bells.requested[b] = .off := by
  rw [State.restarted, resumeEvacRing_of_normal ((endAllRings_evacuating s).trans h)]
  exact endAllRings_bells _ b

/-- During one the EVACUATION ring alone rings, on the kept set with its tone copied afresh (R147, R163). -/
theorem restarted_ring_of_evacuating {e : EvacSet} (h : s.inputs.evacuating = true) (he : s.bells.evacSet = some e)
    (b : BellId) : s.restarted.bells.rings[b] = if inSet e.outputs b.val = true
      then some (evacRingOf (s.activeBank.tone e.tone) s.time.elapsed) else none := by
  have hset : s.linesRestarted.endAllRings.bells.evacSet = some e := by rw [endAllRings_evacSet, linesRestarted_bells, he]
  have hframe : unchangedBut ([.bells] ++ grantBlocks) s.restartBegun s.linesRestarted.endAllRings :=
    ((restVoided_frame _).mono (by decide)).trans (((linesRestarted_from_voided s).mono (by decide)).trans
      ((endAllRings_frame _).mono (by decide)))
  have hbank : s.linesRestarted.endAllRings.activeBank = s.activeBank := by
    unfold State.activeBank
    rw [hframe.same (b := .banks) (by decide)]
    rfl
  rw [State.restarted, resumeEvacRing_of_evacuating ((endAllRings_evacuating s).trans h) hset, startEvacRings_rings, hbank,
    (endAllRings_bells s.linesRestarted b).1, hframe.same (b := .time) (by decide)]
  rfl

end

/-- Settles O55: the stages of a warm restart one after the other, no level turning on a grant once every one is voided. -/
theorem restartsAreTaken : Obligations.RestartsAreTaken := by
  unfold Obligations.RestartsAreTaken
  refine ⟨fun s ref hrun hhanded => ?_, fun s hrun hnone => ?_, fun s hrun hreplying => ?_, fun s hrun hphase hlanes => ?_⟩
  · rw [exec_restart hrun, again_eq, hhanded, if_pos (.inl rfl), answer_of_handed hhanded]
    rfl
  · have hphase : (none.map HandedOrder.order = some Instr.restart ∨ s.link.restart = .replying) ↔
        s.link.restart = .replying := or_iff_right (by simp)
    rw [exec_restart hrun, again_eq, hnone, if_congr hphase rfl rfl, answer_of_unhanded hnone]
    rfl
  · rw [exec_warmRestart hrun, if_pos hreplying]
  · have hrest : ∀ l, s.restarted.retakeLevels.course l = .rest := fun l =>
      (retakeLevels_course _ l).trans (restarted_course hlanes l)
    have hretaken := retakeLevels_frame s.restarted
    have hpunch : s.restarted.retakeLevels.punch = _ :=
      (hretaken.same (b := .punch) (by decide)).trans (restarted_punch s)
    have hbells : s.restarted.retakeLevels.bells = s.restarted.bells := hretaken.same (b := .bells) (by decide)
    have hbegun : unchangedBut ([.supply, .bells] ++ grantBlocks) s s.restartBegun :=
      frame_setLink _ (frame_setSupply _ (.refl _ _) (by decide)) (by decide)
    have hlink : s.restarted.retakeLevels.link.standing = s.restartBegun.link.standing := by
      rw [hretaken.same (b := .link) (by decide), (restarted_from_lines s).same (b := .link) (by decide),
        (linesRestarted_from_voided s).same (b := .link) (by decide), restVoided_link]
    obtain ⟨hrestart, hagain, honline, hsilence, hreceived⟩ : _ ∧ _ ∧ _ ∧ _ ∧ _ := by
      simpa only [Link.standing, Prod.mk.injEq] using hlink
    obtain ⟨-, hevacuating, -⟩ := InputSampler.standing_eq_iff.1 (restVoided_inputs s.restartBegun)
    refine ⟨_, ?_, hbegun.trans (((restarted_frame s).mono (by decide)).trans (hretaken.mono (by decide))), ?_, hrestart, hagain,
      honline, hsilence, hreceived, fun l => ?_, fun h => ?_, ?_, ?_, ?_, ?_, ?_, ?_, fun h b => ?_, fun e h he b => ?_⟩
    · rw [exec_warmRestart hrun, if_neg hphase, warmRestart_eq hlanes]
    · rw [hretaken.same (b := .supply) (by decide), (restarted_frame s).same (b := .supply) (by decide)]
      rfl
    · obtain ⟨hactivity, hgrant, hpending, hwait, hhanded⟩ := course_eq_rest (hrest l)
      obtain ⟨hcount, hheld, hallowance, hkept⟩ := warmRestart_lane s l
      exact ⟨hactivity, hgrant, hpending, hcount, hheld, hallowance, hwait, hhanded, hkept⟩
    · unfold State.headAt
      rw [hpunch]
      exact Vector.getElem_replicate _
    · rw [hpunch]
    · rw [hpunch]
    · rw [hpunch]
    · rw [retakeLevels_evacuating, restarted_inputs, hevacuating]
      rfl
    · rw [hbells, restarted_evacSet]
    · intro hpending
      rw [retakeLevels_deliveries, restarted_inputs, restVoided_inputs_of_settled (s := s.restartBegun) hpending]
      rfl
    · rw [hbells]
      exact restarted_bell_of_normal h b
    · rw [hbells]
      exact restarted_ring_of_evacuating h he b

end Sys2Proof.Machine
end

section
/-! ## A watch fires (R142, R156–R159) -/
namespace Sys2Proof.Machine

section
variable {s t u : State} {k : WatchId} {l m : LaneId}

/-! ### The firing taken (R156, R158) -/

theorem takeChange_of_watch (h : s.inputs.deliveries = [.watch k]) : s.takeChange (.watch k) = s.undelivered := by
  unfold State.takeChange State.dropDelivery
  simp [h, State.undelivered]

theorem exec_watchFire (hrun : s.supply.state = .run) (hd : s.inputs.deliveries = [.watch k]) : exec (.watchFire k) s =
    .next (if s.watchLive k then (s.undelivered.fireWatch k).settle else s.undelivered) := by
  change execWatchFire k s = _
  refine (whileRunning_of_run hrun).trans ?_
  rw [takeChange_of_watch hd]
  rfl

/-- The state with the firing taken and its capture written (R158). -/
def State.captured (s : State) (k : WatchId) : State :=
  s.setInputs { s.inputs with
    deliveries := [], captures := putAt s.inputs.captures k (some ⟨s.generalLevels, s.now⟩) }

/-- The state with the WATCH entry requested (R158). -/
def State.watchEntered (s : State) (k : WatchId) : State :=
  (s.captured k).requestEntry (.system s.now (.watch k s.generalLevels (s.watch k).action))

/-- A capture turns no level. -/
theorem captured_levelLaw (hlevels : s.levelLaw) (k : WatchId) : (s.captured k).levelLaw := hlevels

theorem captured_frame (s : State) (k : WatchId) : unchangedBut [.inputs] s (s.captured k) :=
  frame_setInputs _ (.refl _ _) (by decide)

theorem watchEntered_from_captured (s : State) (k : WatchId) : unchangedBut entryBlocks (s.captured k) (s.watchEntered k) :=
  requestEntry_frame _ _

theorem watchEntered_entered (s : State) (k : WatchId) :
    entered (.system s.now (.watch k s.generalLevels (s.watch k).action)) s (s.watchEntered k) :=
  entered_requestEntry _ rfl rfl

theorem watchEntered_inputs (s : State) (k : WatchId) : (s.watchEntered k).inputs = (s.captured k).inputs :=
  (watchEntered_from_captured s k).same (b := .inputs) (by decide)

theorem watchEntered_lane (s : State) (k : WatchId) (l : LaneId) : (s.watchEntered k).lane l = s.lane l :=
  congrArg (fun v : Vector Lane 8 => v[l]) ((watchEntered_from_captured s k).same (b := .lanes) (by decide))

theorem fireWatch_of_refresh (haction : (s.watch k).action = .evacuate) (hevacuating : s.inputs.evacuating = true) :
    s.undelivered.fireWatch k = s.captured k := if_pos ⟨haction, hevacuating⟩

/-- A watch that fires requests its entry and performs its action, an EVACUATE watch during an evacuation apart (R158). -/
theorem fireWatch_of_acts (h : ¬ ((s.watch k).action = .evacuate ∧ s.inputs.evacuating = true)) :
    s.undelivered.fireWatch k = (s.watchEntered k).performAction k s.generalLevels (s.watch k).action := if_neg h

/-! ### What a settling keeps (R86) -/

/-- What a grant's release keeps, and the levels taken again, a settling keeps. -/
theorem settle_induction {P : State → Prop} (hrelease : ∀ v l g, P v → P (v.releaseGrant l g))
    (hretake : ∀ v, P v → P v.retakeLevels) (h : P s) : P s.settle := by
  have honce : ∀ v l m, P v → P (v.lookOnce l m) := fun v l m hv => by
    unfold State.lookOnce
    split
    · exact hv
    · split
      · exact hv
      · exact hrelease _ _ _ hv
  have hlook : ∀ v l, P v → P (v.lookIfChanged l) := fun v l hv => by
    unfold State.lookIfChanged State.look
    split
    · exact hv
    · split
      · exact hv
      · split
        · exact hv
        · exact honce _ _ _ (honce _ _ _ hv)
  exact hretake _ (List.foldlRecOn (motive := P) allLanes _ h fun v hv l _ => hlook v l hv)

/-- A lane's modes stand as its grant is released and its levels settle. -/
theorem settle_modes (s : State) (l : LaneId) :
    (s.settle.lane l).mode = (s.lane l).mode ∧ (s.settle.lane l).remembered = (s.lane l).remembered := by
  refine settle_induction (P := fun v => (v.lane l).mode = (s.lane l).mode ∧ (v.lane l).remembered = (s.lane l).remembered)
    (fun v m g hv => ?_) (fun v hv => ?_) ⟨rfl, rfl⟩
  · by_cases hml : m = l
    · subst hml
      rw [releaseGrant_lane_same]
      exact hv
    · rwa [releaseGrant_lane_other g hml]
  · rw [retakeLevels_lane]
    exact hv

theorem settle_undriven (s : State) : s.settle.inputs.undriven = s.inputs.undriven :=
  settle_induction (P := fun v => v.inputs.undriven = s.inputs.undriven)
    (fun v m g hv => by rwa [(releaseGrant_frame v m g).same (b := .inputs) (by decide)])
    (fun v hv => (retakeLevels_undriven v).trans hv) rfl

theorem settle_frame (s : State) : unchangedBut [.lanes, .punch, .inputs] s s.settle :=
  frame_settle (.refl _ _) (by decide) (by decide) (by decide)

/-! ### A LANES watch (R69) -/

/-- What of a lane and its surroundings a mode request turns on and writes. -/
structure LaneAsking where
  mode : LaneMode
  remembered : Option AskMode
  paired : Bool
  remembers : Bool

/-- A lane's modes, whether it is in a pair, and whether it remembers what is asked (R69). -/
def State.asking (s : State) (l : LaneId) : LaneAsking :=
  ⟨(s.lane l).mode, (s.lane l).remembered, s.inPair l, s.inputs.evacuating && decide ((s.lane l).setup.kind ≠ .unused)⟩

/-- The mode a lane is asked for: FREE is SECURE at a member of a pair (R69). -/
def LaneAsking.barred (x : LaneAsking) (m : AskMode) : AskMode := if m = .free ∧ x.paired = true then .secure else m

/-- The modes after a request (R69). -/
def LaneAsking.asked (x : LaneAsking) (m : AskMode) : LaneAsking :=
  if x.remembers then { x with remembered := some (x.barred m) } else { x with mode := (x.barred m).toLaneMode }

theorem inPair_setLane {x : Lane} (h : x.setup = (s.lane l).setup) (n : LaneId) : (s.setLane l x).inPair n = s.inPair n := by
  unfold State.inPair
  rw [partnerOf_congr (setLane_setup h)]

/-- A lane whose modes alone are written asks as it did but for them. -/
theorem asking_setLane_same {x : Lane} (h : x.setup = (s.lane l).setup) :
    (s.setLane l x).asking l = { s.asking l with mode := x.mode, remembered := x.remembered } := by
  unfold State.asking
  rw [inPair_setLane h, State.setLane_same, h]
  rfl

theorem asking_setLane_other {x : Lane} (h : x.setup = (s.lane l).setup) (hlm : l ≠ m) :
    (s.setLane l x).asking m = s.asking m := by
  unfold State.asking
  rw [inPair_setLane h, State.setLane_other _ _ _ _ hlm]
  rfl

theorem setMode_asking_same (s : State) (l : LaneId) (m : LaneMode) :
    (s.setMode l m).asking l = { s.asking l with mode := m } := by
  unfold State.setMode
  dsimp only
  split
  · next hmode => rw [← hmode]; rfl
  · exact asking_setLane_same rfl

theorem setMode_asking_other (s : State) (v : LaneMode) (hlm : l ≠ m) : (s.setMode l v).asking m = s.asking m := by
  unfold State.setMode
  dsimp only
  split
  · rfl
  · exact asking_setLane_other rfl hlm

theorem asking_remembers (s : State) (l : LaneId) : (s.asking l).remembers = true ↔
    s.inputs.evacuating = true ∧ (s.lane l).setup.kind ≠ .unused := by simp [State.asking]

theorem askMode_asking_same (s : State) (m : AskMode) (l : LaneId) : (s.askMode m l).asking l = (s.asking l).asked m := by
  unfold State.askMode LaneAsking.asked
  by_cases hremembers : s.inputs.evacuating = true ∧ (s.lane l).setup.kind ≠ .unused
  · rw [if_pos hremembers, if_pos ((asking_remembers s l).2 hremembers)]
    exact asking_setLane_same (x := { s.lane l with remembered := some (s.barFree l m) }) rfl
  · rw [if_neg hremembers, if_neg (mt (asking_remembers s l).1 hremembers), setMode_asking_same]
    rfl

theorem askMode_asking_other (s : State) (v : AskMode) (hlm : l ≠ m) : (s.askMode v l).asking m = s.asking m := by
  unfold State.askMode
  split
  · exact asking_setLane_other rfl hlm
  · exact setMode_asking_other s _ hlm

/-- A mode asked of a set of lanes is asked of each lane of it, and of no other (R69). -/
theorem askModes_asking (s : State) (set : LaneSet) (m : AskMode) (l : LaneId) :
    (s.askModes set m).asking l = if inSet set l.val = true then (s.asking l).asked m else s.asking l := by
  refine allLanes_foldl (P := State.asking) (F := fun n x => if inSet set n.val = true then x.asked m else x)
    (op := State.askModeIn set m) (fun v n => ?_) (fun v n i hni => ?_) s l
  · unfold State.askModeIn
    split
    · exact askMode_asking_same v m n
    · rfl
  · unfold State.askModeIn
    split
    · exact askMode_asking_other v m hni
    · rfl

/-! ### A BELL watch (R142) -/

/-- Two states ring alike: the bells, the clock and the bell setup are the same. -/
def ringsAlike (s t : State) : Prop := t.bells = s.bells ∧ t.time = s.time ∧ t.setup = s.setup

theorem requestRing_alike (h : ringsAlike s t) (p : TonePattern) (duration : Nat) (b : BellId) :
    ringsAlike (s.requestRing p duration b).1 (t.requestRing p duration b).1 := by
  obtain ⟨hbells, htime, hsetup⟩ := h
  have hring : ∀ r, ringsAlike (s.startRing b r) (t.startRing b r) := fun r => by
    refine ⟨?_, htime, hsetup⟩
    simp only [State.startRing, State.setBell, State.setBells_bells, State.bellIsTone, hbells, hsetup]
  have hnew : ∀ kind finish, t.newRing kind p finish = s.newRing kind p finish := fun kind finish => by
    simp only [State.newRing, State.elapsed, State.inTenths, htime]
  have hend : ∀ n, t.inSeconds n = s.inSeconds n := fun n => by simp only [State.inSeconds, State.elapsed, htime]
  unfold State.requestRing
  rw [hbells]
  split
  · rw [hnew, hend]
    exact hring _
  · split
    · rw [hnew, hend]
      exact hring _
    · exact ⟨hbells, htime, hsetup⟩

theorem requestRings_alike (h : ringsAlike s t) (set : BellSet) (p : TonePattern) (duration : Nat) :
    ringsAlike (s.requestRings set p duration).1 (t.requestRings set p duration).1 := by
  have hfold : ∀ (l : List BellId) (v w : State × List (BellId × RingAnswer)), ringsAlike v.1 w.1 →
      ringsAlike (l.foldl (ringStep set p duration) v).1 (l.foldl (ringStep set p duration) w).1 := fun l => by
    induction l with
    | nil => exact fun _ _ hvw => hvw
    | cons b rest ih =>
      intro v w hvw
      refine ih _ _ ?_
      unfold ringStep
      split
      · exact requestRing_alike hvw p duration b
      · exact hvw
  exact hfold allBells _ _ h

/-- Bells that ring otherwise turn the bell outputs alone. -/
theorem settle_of_bells (hlevels : s.levelLaw) (h : unchangedBut [.bells, .spool, .link] s t) :
    t.settle = t.retakeLevels ∧ unchangedBut [.inputs] t t.settle := by
  have hlanes : ∀ m, t.lane m = s.lane m := fun m =>
    congrArg (fun v : Vector Lane 8 => v[m]) (h.same (b := .lanes) (by decide))
  have hinputs : t.inputs = s.inputs := h.same (b := .inputs) (by decide)
  obtain ⟨hrequested, hdriven, -⟩ := hlevels
  have hdrive : ∀ m, t.driveRelease m = s.driveRelease m := fun m =>
    driveRelease_congr (by rw [hlanes]) (by rw [hlanes]) (h.same (b := .supply) (by decide)) (by rw [hinputs]) (by rw [hinputs])
  have hsettle : t.settle = t.retakeLevels := settle_of_quiet fun m => lookIfChanged_of_driven (by rw [hinputs, hdrive, hdriven])
  refine ⟨hsettle, ?_⟩
  have hkept : t.retakeLevels.lanes = t.lanes := lanes_eq fun m => by rw [retakeLevels_lane, hlanes, ← hrequested]
  have hframe := retakeLevels_frame t
  rw [hsettle]
  refine ⟨hframe.1, fun b => ?_⟩
  by_cases hb : b = .lanes
  · subst hb
    exact .inr hkept
  · exact (hframe.2 b).imp_left fun hmem => by simpa [hb] using hmem

theorem settle_drivenBell (hsettle : s.settle = s.retakeLevels) (b : BellId) :
    s.settle.inputs.drivenBell[b] = s.settle.driveBell b := by
  have hframe := retakeLevels_frame s
  have hholds := congrArg InputSampler.bellHolds (retakeLevels_undriven s)
  rw [hsettle]
  refine (retakeLevels_drivenBell s b).trans ((releasesAgain_driveBell s b).trans ?_)
  unfold State.driveBell State.ringsEvacuation
  rw [hframe.same (b := .bells) (by decide), hframe.same (b := .supply) (by decide),
    show s.retakeLevels.inputs.bellHolds = s.inputs.bellHolds from hholds]

end

end Sys2Proof.Machine
end

section
/-! ## The actions of a watch but EVACUATE (R142, R158, R159) -/
namespace Sys2Proof.Machine

section
variable {s t u : State} {k : WatchId} {l m : LaneId}

/-- What of the Input Sampler a settling keeps, as the capture left it. -/
theorem settle_captured (h : u.inputs = (s.captured k).inputs) : u.settle.inputs.captures = (s.captured k).inputs.captures ∧
    u.settle.inputs.deliveries = [] ∧ u.settle.inputs.evacuating = s.inputs.evacuating := by
  have hkept := settle_undriven u
  rw [h] at hkept
  have hcaptures := congrArg InputSampler.captures hkept
  have hdeliveries := congrArg InputSampler.deliveries hkept
  have hevacuating := congrArg InputSampler.evacuating hkept
  exact ⟨hcaptures, hdeliveries, hevacuating⟩

theorem watchEntered_frame (s : State) (k : WatchId) : unchangedBut [.inputs, .spool, .link] s (s.watchEntered k) :=
  ((captured_frame s k).mono (by decide)).trans ((watchEntered_from_captured s k).mono (by decide))

theorem watchEntered_settle (hlevels : s.levelLaw) (k : WatchId) : (s.watchEntered k).settle = s.watchEntered k :=
  (sameLevels_of_frame (watchEntered_from_captured s k) (by decide)).settle (captured_levelLaw hlevels k)

/-- A live watch's firing, an EVACUATE watch's during an evacuation apart: its action, with what its levels then turn. -/
theorem exec_watchFire_of_acts (hrun : s.supply.state = .run) (hd : s.inputs.deliveries = [.watch k])
    (hlive : s.watchLive k = true) {a : WatchAction} (haction : (s.watch k).action = a)
    (hacts : a = .evacuate → s.inputs.evacuating = false) :
    exec (.watchFire k) s = .next ((s.watchEntered k).performAction k s.generalLevels a).settle := by
  have hnot : ¬ ((s.watch k).action = .evacuate ∧ s.inputs.evacuating = true) := by
    rintro ⟨hevacuate, hevacuating⟩
    rw [hacts (haction.symm.trans hevacuate)] at hevacuating
    cases hevacuating
  rw [exec_watchFire hrun hd, if_pos hlive, fireWatch_of_acts hnot, haction]

/-! ### LANES -/

theorem askModes_frame (s : State) (set : LaneSet) (m : AskMode) : unchangedBut [.lanes] s (s.askModes set m) :=
  frame_askModes set m (.refl _ _) (by decide)

theorem watchEntered_asking (s : State) (k : WatchId) (l : LaneId) : (s.watchEntered k).asking l = s.asking l := by
  unfold State.asking State.inPair
  rw [partnerOf_congr (s := s) (t := s.watchEntered k) fun n => by rw [watchEntered_lane], watchEntered_lane,
    watchEntered_inputs]
  rfl

/-- The modes a LANES watch leaves (R69). -/
theorem lanesAsked_modes (s : State) (k : WatchId) (set : LaneSet) (m : AskMode) (l : LaneId) :
    let t := ((s.watchEntered k).askModes set m).settle
    let asked : AskMode := if m = .free ∧ s.inPair l = true then .secure else m
    let remembering := s.inputs.evacuating = true ∧ (s.lane l).setup.kind ≠ .unused
    (inSet set l.val = false → (t.lane l).mode = (s.lane l).mode ∧ (t.lane l).remembered = (s.lane l).remembered) ∧
    (inSet set l.val = true → ¬ remembering →
      (t.lane l).mode = asked.toLaneMode ∧ (t.lane l).remembered = (s.lane l).remembered) ∧
    (inSet set l.val = true → remembering → (t.lane l).mode = (s.lane l).mode ∧ (t.lane l).remembered = some asked) := by
  intro t asked remembering
  obtain ⟨hmode, hremembered⟩ := settle_modes ((s.watchEntered k).askModes set m) l
  have hasking := askModes_asking (s.watchEntered k) set m l
  rw [watchEntered_asking] at hasking
  have hmodes : ∀ x : LaneAsking, ((s.watchEntered k).askModes set m).asking l = x →
      (t.lane l).mode = x.mode ∧ (t.lane l).remembered = x.remembered := by
    rintro _ rfl
    exact ⟨hmode, hremembered⟩
  refine ⟨fun hset => ?_, fun hset hnot => ?_, fun hset hremembering => ?_⟩
  · rw [hset, if_neg (by decide)] at hasking
    exact hmodes _ hasking
  · rw [hset, if_pos rfl, LaneAsking.asked, if_neg (mt (asking_remembers s l).1 hnot)] at hasking
    exact hmodes _ hasking
  · rw [hset, if_pos rfl, LaneAsking.asked, if_pos ((asking_remembers s l).2 hremembering)] at hasking
    exact hmodes _ hasking

/-! ### BELL -/

theorem watchEntered_alike (s : State) (k : WatchId) : ringsAlike s (s.watchEntered k) := by
  have hframe := watchEntered_frame s k
  exact ⟨hframe.same (b := .bells) (by decide), hframe.same (b := .time) (by decide), hframe.same (b := .setup) (by decide)⟩

theorem watchEntered_activeBank (s : State) (k : WatchId) : (s.watchEntered k).activeBank = s.activeBank := by
  unfold State.activeBank
  rw [(watchEntered_frame s k).same (b := .banks) (by decide)]

theorem watchBell_frame (s : State) (i : Nat) : unchangedBut [.bells] s (s.watchBell i) :=
  frame_watchBell i (.refl _ _) (by decide)

/-- The bells a BELL watch leaves: those of the RING entry it names ring, and none where the entry is none (R142). -/
theorem watchEntered_watchBell_bells (s : State) (k : WatchId) (i : Nat) :
    ((s.activeBank.entry i).kind ≠ .listed .ring → (s.watchEntered k).watchBell i = s.watchEntered k) ∧
    ((s.activeBank.entry i).kind = .listed .ring → ((s.watchEntered k).watchBell i).bells =
      (s.requestRings (s.activeBank.entry i).bells (s.activeBank.tone (s.activeBank.entry i).tone)
        (s.activeBank.entry i).duration).1.bells) := by
  unfold State.watchBell
  rw [watchEntered_activeBank]
  refine ⟨fun hkind => if_neg hkind, fun hkind => ?_⟩
  dsimp only
  rw [if_pos hkind]
  obtain ⟨hbells, -⟩ := requestRings_alike (watchEntered_alike s k) (s.activeBank.entry i).bells
    (s.activeBank.tone (s.activeBank.entry i).tone) (s.activeBank.entry i).duration
  exact hbells

/-- A BELL watch's settling turns the bell outputs alone. -/
theorem watchBell_settle (hlevels : s.levelLaw) (k : WatchId) (i : Nat) :
    let u := (s.watchEntered k).watchBell i
    u.settle = u.retakeLevels ∧ unchangedBut [.inputs] u u.settle :=
  settle_of_bells (captured_levelLaw hlevels k)
    (((watchEntered_from_captured s k).mono (by decide)).trans ((watchBell_frame _ i).mono (by decide)))

end

end Sys2Proof.Machine
end

section
/-! ## What a setup applied leaves of the modes (R66, R91) -/
namespace Sys2Proof.Machine

section
variable {s t u : State} {l m : LaneId}

/-- Between two states a lane's mode, unless FREE, stands as it did, and its remembered mode likewise. -/
def modesKept (l : LaneId) (s t : State) : Prop :=
  ((s.lane l).mode ≠ .free → (t.lane l).mode = (s.lane l).mode) ∧
    ((s.lane l).remembered ≠ some .free → (t.lane l).remembered = (s.lane l).remembered)

theorem modesKept_of_lane (h : t.lane l = s.lane l) : modesKept l s t := by
  unfold modesKept
  rw [h]
  exact ⟨fun _ => rfl, fun _ => rfl⟩

theorem modesKept.refl (l : LaneId) (s : State) : modesKept l s s := modesKept_of_lane rfl

theorem modesKept.trans (h : modesKept l s t) (g : modesKept l t u) : modesKept l s u := by
  refine ⟨fun hmode => ?_, fun hremembered => ?_⟩
  · have hst := h.1 hmode
    exact (g.1 (hst ▸ hmode)).trans hst
  · have hst := h.2 hremembered
    exact (g.2 (hst ▸ hremembered)).trans hst

theorem modesKept_setLane {x : Lane} (hmode : (s.lane m).mode ≠ .free → x.mode = (s.lane m).mode)
    (hremembered : (s.lane m).remembered ≠ some .free → x.remembered = (s.lane m).remembered) :
    modesKept l s (s.setLane m x) := by
  by_cases hml : m = l
  · subst hml
    unfold modesKept
    rw [State.setLane_same]
    exact ⟨hmode, hremembered⟩
  · exact modesKept_of_lane (State.setLane_other _ _ _ _ hml)

theorem modesKept_ite {c : Prop} [Decidable c] (ht : c → modesKept l s t) (hu : modesKept l s u) :
    modesKept l s (if c then t else u) := by
  split
  · next hc => exact ht hc
  · exact hu

theorem modesKept_setMode_of_free (hfree : (s.lane m).mode = .free) (v : LaneMode) : modesKept l s (s.setMode m v) :=
  modesKept_ite (fun _ => .refl l s) (modesKept_setLane (fun hnot => absurd hfree hnot) fun _ => rfl)

theorem modesKept_fitPairMember (l : LaneId) (s : State) (m : LaneId) : modesKept l s (s.fitPairMember m) := by
  have hmode : modesKept l s (if (s.lane m).mode = .free then s.setMode m .secure else s) :=
    modesKept_ite (fun hfree => modesKept_setMode_of_free hfree _) (.refl l s)
  have hremembered := fun v => modesKept_ite (c := (v.lane m).remembered = some .free) (fun hfree =>
    modesKept_setLane (s := v) (l := l) (m := m) (x := { v.lane m with remembered := some .secure })
      (fun _ => rfl) fun hnot => absurd hfree hnot) (.refl l v)
  have hheld : ∀ v : State, modesKept l s v → modesKept l s (if v.inputs.releaseHolds[m] = some true then
      v.setInputs { v.inputs with releaseHolds := putAt v.inputs.releaseHolds m (some false) } else v) := fun v hv =>
    modesKept_ite (fun _ => hv.trans (modesKept_of_lane rfl)) hv
  exact hheld _ (hmode.trans (hremembered _))

theorem modesKept_fitPair (l : LaneId) (s : State) (m : LaneId) : modesKept l s (s.fitPair m) := by
  unfold State.fitPair
  split
  · exact .refl l s
  · exact (modesKept_fitPairMember l s _).trans (modesKept_fitPairMember l _ _)

theorem modesKept_foldl_keepDead (l : LaneId) (was : State) (ns : List LaneId) (s : State) :
    modesKept l s (ns.foldl (State.keepDead was) s) :=
  List.foldlRecOn (motive := modesKept l s) ns _ (.refl l s) fun _ hv _ _ =>
    hv.trans (modesKept_setLane (fun _ => rfl) fun _ => rfl)

theorem modesKept_dropIfLeft (l : LaneId) (s : State) (before : Bool) (i : Head) : modesKept l s (s.dropIfLeft before i) :=
  modesKept_ite (fun _ => modesKept_of_lane rfl) (.refl l s)

/-- The state with a setup placed in its lane, and what the evacuation says of its kind (R66, R91). -/
def State.kindPlaced (s : State) (m : LaneId) (x : LaneSetup) : State :=
  (s.placeSetup m x).kindInEvacuation m (s.lane m).setup.kind x.kind

/-- What follows for a pair, its dead times and its heads keeps the modes but FREE (R66). -/
theorem modesKept_from_kindPlaced (l : LaneId) (s : State) (m : LaneId) (x : LaneSetup) :
    modesKept l (s.kindPlaced m x) (s.applySetup m x) :=
  ((modesKept_fitPair l _ m).trans (modesKept_foldl_keepDead l s _ _)).trans
    ((modesKept_dropIfLeft l _ _ _).trans (modesKept_dropIfLeft l _ _ _))

theorem restoreMode_lane_other (hml : m ≠ l) : (s.restoreMode m).lane l = s.lane l := by
  unfold State.restoreMode
  split
  · rfl
  · exact (State.setLane_other _ _ _ _ hml).trans (setMode_other _ _ hml)

theorem kindPlaced_lane_other (x : LaneSetup) (hml : m ≠ l) : (s.kindPlaced m x).lane l = s.lane l := by
  have hplaced := placeSetup_lane_other (s := s) x hml
  unfold State.kindPlaced State.kindInEvacuation
  split_ifs
  · exact (State.setLane_other _ _ _ _ hml).trans hplaced
  · exact (restoreMode_lane_other hml).trans hplaced
  · exact hplaced
  · exact hplaced

theorem modesKept_applySetup_other (x : LaneSetup) (hml : m ≠ l) : modesKept l s (s.applySetup m x) :=
  (modesKept_of_lane (kindPlaced_lane_other x hml)).trans (modesKept_from_kindPlaced l s m x)

theorem placeSetup_lane_same (s : State) (l : LaneId) (x : LaneSetup) :
    ((s.placeSetup l x).lane l).setup = x ∧ ((s.placeSetup l x).lane l).mode = (s.lane l).mode ∧
      ((s.placeSetup l x).lane l).remembered = (s.lane l).remembered := by
  unfold State.placeSetup
  rw [State.setLane_same]
  unfold State.takenSetup
  split_ifs <;> exact ⟨rfl, rfl, rfl⟩

theorem applySetup_setup (s : State) (l : LaneId) (x : LaneSetup) : ((s.applySetup l x).lane l).setup = x := by
  obtain ⟨hsetup, -⟩ := Lane.standing_eq_iff.1 ((applySetup_from_placed s l x).1 l)
  obtain ⟨hplaced, -⟩ := placeSetup_lane_same s l x
  exact hsetup.trans hplaced

/-- An evacuation with a lane in EGRESS, where it is a DOOR or TURNSTILE lane (R91). -/
def State.inEgress (l : LaneId) (s : State) : Prop :=
  s.inputs.evacuating = true ∧ ((s.lane l).setup.kind ≠ .unused → (s.lane l).mode = .egress)

theorem State.inEgress.of_lane (h : s.inEgress l) (hinputs : t.inputs.evacuating = s.inputs.evacuating)
    (hsetup : (t.lane l).setup = (s.lane l).setup) (hmode : (t.lane l).mode = (s.lane l).mode) : t.inEgress l := by
  unfold State.inEgress
  rw [hinputs, hsetup, hmode]
  exact h

theorem applySetup_inputs (s : State) (l : LaneId) (x : LaneSetup) :
    (s.applySetup l x).inputs.standing = s.inputs.standing :=
  (applySetup_from_placed s l x).2.trans (placeSetup_inputs s l x)

/-- During an evacuation a setup of its own puts a lane that becomes used into EGRESS (R91). -/
theorem applySetup_inEgress (h : s.inEgress l) (m : LaneId) (x : LaneSetup) : (s.applySetup m x).inEgress l := by
  obtain ⟨hevacuating, hegress⟩ := h
  obtain ⟨-, hkept, -⟩ := InputSampler.standing_eq_iff.1 (applySetup_inputs s m x)
  refine ⟨hkept.trans hevacuating, fun hkind => ?_⟩
  by_cases hml : m = l
  · subst hml
    rw [applySetup_setup] at hkind
    obtain ⟨-, hmode, -⟩ := placeSetup_lane_same s m x
    obtain ⟨-, hplacedEvacuating, -⟩ := InputSampler.standing_eq_iff.1 (placeSetup_inputs s m x)
    have hplaced : ((s.kindPlaced m x).lane m).mode = .egress := by
      unfold State.kindPlaced State.kindInEvacuation
      rw [if_pos (hplacedEvacuating.trans hevacuating)]
      by_cases hwas : (s.lane m).setup.kind = .unused
      · rw [if_pos ⟨hwas, hkind⟩, State.enterEgress, State.setLane_same]
      · rw [if_neg fun hc => hwas hc.1, if_neg fun hc => hkind hc.2, hmode, hegress hwas]
    exact ((modesKept_from_kindPlaced m s m x).1 (by rw [hplaced]; decide)).trans hplaced
  · obtain ⟨hsetup, -⟩ := Lane.standing_eq_iff.1 (applySetup_standing_other (s := s) x hml)
    rw [hsetup] at hkind
    have hmode := hegress hkind
    exact ((modesKept_applySetup_other x hml).1 (by rw [hmode]; decide)).trans hmode

/-! ### A lane left IDLE during an evacuation (R65, R91) -/

theorem idled_lane (s : State) (m l : LaneId) : ((s.idled m).lane l).setup = (s.lane l).setup ∧
    ((s.idled m).lane l).mode = (s.lane l).mode ∧ ((s.idled m).lane l).remembered = (s.lane l).remembered := by
  by_cases hml : m = l
  · subst hml
    rw [State.idled, State.setLane_same]
    exact ⟨rfl, rfl, rfl⟩
  · rw [State.idled, State.setLane_other _ _ _ _ hml]
    exact ⟨rfl, rfl, rfl⟩

theorem becomeIdle_of_pending {x : LaneSetup} (h : (s.lane l).pendingSetup = some x) :
    s.becomeIdle l = (s.idled l).applySetup l x := by
  unfold State.becomeIdle
  dsimp only
  rw [h]
  rfl

theorem becomeIdle_inEgress (h : s.inEgress l) (m : LaneId) : (s.becomeIdle m).inEgress l := by
  obtain ⟨hsetup, hmode, -⟩ := idled_lane s m l
  have hidled : (s.idled m).inEgress l := h.of_lane rfl hsetup hmode
  cases hpending : (s.lane m).pendingSetup with
  | none => rwa [becomeIdle_of_no_pending hpending]
  | some x =>
    rw [becomeIdle_of_pending hpending]
    exact applySetup_inEgress hidled m x

/-- A lane left IDLE has the setup that was pending, where one was (R65). -/
theorem becomeIdle_setup (s : State) (l : LaneId) :
    ((s.becomeIdle l).lane l).setup = (s.lane l).pendingSetup.getD (s.lane l).setup := by
  cases hpending : (s.lane l).pendingSetup with
  | none =>
    obtain ⟨hsetup, -⟩ := idled_lane s l l
    rw [becomeIdle_of_no_pending hpending, hsetup]
    rfl
  | some x =>
    rw [becomeIdle_of_pending hpending, applySetup_setup]
    rfl

theorem becomeIdle_setup_other (s : State) (hml : m ≠ l) : ((s.becomeIdle m).lane l).setup = (s.lane l).setup := by
  have hidled : (s.idled m).lane l = s.lane l := State.setLane_other _ _ _ _ hml
  cases hpending : (s.lane m).pendingSetup with
  | none => rw [becomeIdle_of_no_pending hpending, hidled]
  | some x =>
    obtain ⟨hsetup, -⟩ := Lane.standing_eq_iff.1 (applySetup_standing_other (s := s.idled m) x hml)
    rw [becomeIdle_of_pending hpending, hsetup, hidled]

/-! ### A mode no setup changes (R91) -/

/-- No setup waits to be applied to a lane, nor, where its mode is FREE, to any. -/
def State.settledFor (l : LaneId) (mode : LaneMode) (s : State) : Prop :=
  (s.lane l).pendingSetup = none ∧ (mode = .free → ∀ p, (s.lane p).pendingSetup = none)

theorem State.settledFor.of_lanes {mode : LaneMode} (h : s.settledFor l mode)
    (hpending : ∀ p, (s.lane p).pendingSetup = none → (t.lane p).pendingSetup = none) : t.settledFor l mode :=
  ⟨hpending l h.1, fun hfree p => hpending p (h.2 hfree p)⟩

theorem becomeIdle_settledFor {mode : LaneMode} (h : s.settledFor l mode) (m : LaneId) : (s.becomeIdle m).settledFor l mode :=
  h.of_lanes fun p hp => by
    obtain ⟨-, -, hpending⟩ := Lane.standing_eq_iff.1 (becomeIdle_standing hp m)
    exact hpending.trans hp

/-- Another lane's setup applied turns no mode but FREE, and with none to be applied none is turned. -/
theorem becomeIdle_modes {mode : LaneMode} (h : s.settledFor l mode) (m : LaneId) :
    ((s.lane l).mode = mode → ((s.becomeIdle m).lane l).mode = mode) ∧
    (∀ v, (v = .free → mode = .free) → (s.lane l).remembered = some v → ((s.becomeIdle m).lane l).remembered = some v) := by
  obtain ⟨hown, hfree⟩ := h
  obtain ⟨-, hmode, hremembered⟩ := idled_lane s m l
  cases hpending : (s.lane m).pendingSetup with
  | none =>
    rw [becomeIdle_of_no_pending hpending, hmode, hremembered]
    exact ⟨id, fun _ _ => id⟩
  | some x =>
    have hml : m ≠ l := by
      rintro rfl
      rw [hown] at hpending
      cases hpending
    have hnot : mode ≠ .free := fun h => by
      rw [hfree h m] at hpending
      cases hpending
    obtain ⟨hmodes, hremembers⟩ := modesKept_applySetup_other (s := s.idled m) x hml
    rw [hmode] at hmodes
    rw [hremembered] at hremembers
    rw [becomeIdle_of_pending hpending]
    refine ⟨fun heq => (hmodes (heq ▸ hnot)).trans heq, fun v hv heq => (hremembers fun hc => hnot (hv ?_)).trans heq⟩
    exact Option.some.inj (heq.symm.trans hc)

end

end Sys2Proof.Machine
end

section
/-! ## The start of an evacuation (R57, R62, R91, R146, R162) -/
namespace Sys2Proof.Machine

section
variable {s t u : State} {l m : LaneId} {k : WatchId} {levels : InputSet}

/-- The state as the evacuation is called, before any lane goes to EGRESS (R162). -/
def State.called (s : State) (k : WatchId) : State :=
  s.setInputs { s.inputs with evacuating := true, startingWatch := some k }

/-- The state with every DOOR and TURNSTILE lane in EGRESS, its grant voided (R91). -/
def State.egressed (s : State) : State := allLanes.foldl State.egressLane s

/-- The state with the referral waits cancelled, each with END (R62). -/
def State.waitsEnded (s : State) : State := allLanes.foldl (State.cancelWait true) s

theorem startEvacuation_eq (s : State) (k : WatchId) (levels : InputSet) : s.startEvacuation k levels =
    (s.called k).egressed.beginEvacRings.waitsEnded.requestEntry
      (.system (s.called k).egressed.beginEvacRings.waitsEnded.now (.evacBegin k levels)) := rfl

theorem called_frame (s : State) (k : WatchId) : unchangedBut [.inputs] s (s.called k) :=
  frame_setInputs _ (.refl _ _) (by decide)

theorem egressed_frame (s : State) : unchangedBut grantBlocks s s.egressed :=
  frame_foldl (fun _ l h => frame_egressLane l h (by decide) (by decide) (by decide) (by decide) (by decide) (by decide)
    (by decide)) (.refl _ _)

theorem beginEvacRings_frame (s : State) : unchangedBut [.bells] s s.beginEvacRings := frame_beginEvacRings (.refl _ _) (by decide)

theorem waitsEnded_frame (s : State) : unchangedBut [.lanes, .punch, .inputs] s s.waitsEnded :=
  frame_foldl (fun _ l h => frame_cancelWait true l h (by decide) (by decide) (by decide)) (.refl _ _)

theorem waitsEnded_from_called (s : State) (k : WatchId) :
    unchangedBut ([.bells] ++ grantBlocks) (s.called k) (s.called k).egressed.beginEvacRings.waitsEnded :=
  ((egressed_frame _).mono (by decide)).trans
    (((beginEvacRings_frame _).mono (by decide)).trans ((waitsEnded_frame _).mono (by decide)))

theorem startEvacuation_from_waitsEnded (s : State) (k : WatchId) (levels : InputSet) :
    unchangedBut entryBlocks (s.called k).egressed.beginEvacRings.waitsEnded (s.startEvacuation k levels) := by
  rw [startEvacuation_eq]
  exact requestEntry_frame _ _

/-! ### What every step of it keeps -/

/-- The blocks that a notice, a dropped punch, a ring and an entry write. -/
def noticeBlocks : List Block := [.roster, .records, .punch, .bells, .spool, .link]

theorem egressLane_unused (h : (s.lane l).setup.kind = .unused) : s.egressLane l = s := if_neg (not_not_intro h)

theorem egressLane_used (h : (s.lane l).setup.kind ≠ .unused) : s.egressLane l = State.voidGrant .evacuation (s.enterEgress l) l :=
  if_pos h

theorem cancelWait_waiting {w : ReferralWait} (h : s.punch.waits[l] = some w) :
    State.cancelWait true s l = ((s.queueVerdict w.head (plainVerdict .finish)).dropWait l).becomeIdle l := by
  unfold State.cancelWait
  rw [h]
  rfl

theorem cancelWait_not_waiting (h : s.punch.waits[l] = none) : State.cancelWait true s l = s := by
  unfold State.cancelWait
  rw [h]

theorem voidGrant_keeps {P : State → Prop} (hnotice : ∀ v w, unchangedBut noticeBlocks v w → P v → P w)
    (hidle : ∀ v m, P v → P (v.becomeIdle m)) (h : P s) (cause : VoidCause) (l : LaneId) : P (State.voidGrant cause s l) :=
  voidGrant_induction cause l (fun v => hnotice _ _ ((voidTold_frame v l cause).mono (by decide)))
    (fun v => hnotice _ _ ((dropHanded_frame v l).mono (by decide))) (fun v => hidle v l) h

theorem cancelWait_keeps {P : State → Prop} (hnotice : ∀ v w, unchangedBut noticeBlocks v w → P v → P w)
    (hidle : ∀ v m, P v → P (v.becomeIdle m)) (h : P s) (l : LaneId) : P (State.cancelWait true s l) := by
  cases hw : s.punch.waits[l] with
  | none => rwa [cancelWait_not_waiting hw]
  | some w =>
    rw [cancelWait_waiting hw]
    refine hidle _ _ (hnotice _ _ ?_ h)
    exact frame_setPunch _ ((queueVerdict_frame s _ _).mono (by decide)) (by decide)

/-- What a lane left IDLE and every notice keep, the rest of the start keeps once the lanes are in EGRESS. -/
theorem startEvacuation_keeps {P : State → Prop} (hnotice : ∀ v w, unchangedBut noticeBlocks v w → P v → P w)
    (hidle : ∀ v m, P v → P (v.becomeIdle m)) (h : P (s.called k).egressed) : P (s.startEvacuation k levels) := by
  refine hnotice _ _ ((startEvacuation_from_waitsEnded s k levels).mono (by decide)) ?_
  exact List.foldlRecOn (motive := P) allLanes _ (hnotice _ _ ((beginEvacRings_frame _).mono (by decide)) h)
    fun _ hv l _ => cancelWait_keeps hnotice hidle hv l

theorem egressLane_keeps {P : State → Prop} (hnotice : ∀ v w, unchangedBut noticeBlocks v w → P v → P w)
    (hidle : ∀ v m, P v → P (v.becomeIdle m)) (henter : (s.lane l).setup.kind ≠ .unused → P (s.enterEgress l)) (h : P s) :
    P (s.egressLane l) := by
  by_cases hkind : (s.lane l).setup.kind = .unused
  · rwa [egressLane_unused hkind]
  · rw [egressLane_used hkind]
    exact voidGrant_keeps hnotice hidle (henter hkind) _ _

theorem noticed_lane (h : unchangedBut noticeBlocks s t) (l : LaneId) : t.lane l = s.lane l :=
  congrArg (fun v : Vector Lane 8 => v[l]) (h.same (b := .lanes) (by decide))

/-! ### The Input Sampler and the modes (R91, R162) -/

theorem startEvacuation_inputs (s : State) (k : WatchId) (levels : InputSet) :
    (s.startEvacuation k levels).inputs.standing = (s.called k).inputs.standing := by
  have hnotice : ∀ v w : State, unchangedBut noticeBlocks v w → v.inputs.standing = (s.called k).inputs.standing →
      w.inputs.standing = (s.called k).inputs.standing := fun v w hf hv => by
    rwa [hf.same (b := .inputs) (by decide)]
  have hidle : ∀ (v : State) (m : LaneId), v.inputs.standing = (s.called k).inputs.standing →
      (v.becomeIdle m).inputs.standing = (s.called k).inputs.standing := fun v m hv => (becomeIdle_inputs v m).trans hv
  exact startEvacuation_keeps (P := fun v => v.inputs.standing = (s.called k).inputs.standing) hnotice hidle
    (List.foldlRecOn (motive := fun v : State => v.inputs.standing = (s.called k).inputs.standing) allLanes _ rfl
      fun _ hv l _ => egressLane_keeps hnotice hidle (fun _ => hv) hv)

theorem mem_allLanes : ∀ l : LaneId, l ∈ allLanes := by decide

/-- The steps of a fold over distinct elements: what holds before an element's step, and what after it. -/
theorem foldl_at {σ ι : Type} {op : σ → ι → σ} {P Q : σ → Prop} {i : ι} (hbefore : ∀ u j, j ≠ i → P u → P (op u j))
    (hturn : ∀ u, P u → Q (op u i)) (hafter : ∀ u j, j ≠ i → Q u → Q (op u j)) {js : List ι} (hjs : js.Nodup) (hi : i ∈ js)
    (u : σ) (h : P u) : Q (js.foldl op u) := by
  induction js generalizing u with
  | nil => cases hi
  | cons j rest ih =>
    obtain ⟨hj, hrest⟩ := List.nodup_cons.1 hjs
    rw [List.foldl_cons]
    by_cases hji : j = i
    · subst hji
      exact List.foldlRecOn (motive := Q) rest _ (hturn u h) fun v hv n hn => hafter v n (fun hnj => hj (hnj ▸ hn)) hv
    · exact ih hrest ((List.mem_cons.1 hi).resolve_left (Ne.symm hji)) _ (hbefore u j hji h)

theorem enterEgress_lane (s : State) (l : LaneId) :
    (s.enterEgress l).lane l = { s.lane l with remembered := some (s.lane l).mode.toAsk, mode := .egress } :=
  State.setLane_same _ _ _

theorem enterEgress_other (s : State) (hml : m ≠ l) : (s.enterEgress m).lane l = s.lane l := State.setLane_other _ _ _ _ hml

theorem inEgress_of_notice (l : LaneId) (v w : State) (hf : unchangedBut noticeBlocks v w) (h : v.inEgress l) : w.inEgress l :=
  h.of_lane (by rw [hf.same (b := .inputs) (by decide)]) (by rw [noticed_lane hf]) (by rw [noticed_lane hf])

theorem enterEgress_inEgress_same (h : s.inputs.evacuating = true) (l : LaneId) : (s.enterEgress l).inEgress l :=
  ⟨h, fun _ => by rw [enterEgress_lane]⟩

/-- After the start every DOOR and TURNSTILE lane stands in EGRESS (R91). -/
theorem startEvacuation_inEgress (s : State) (k : WatchId) (levels : InputSet) (l : LaneId) :
    (s.startEvacuation k levels).inEgress l := by
  have hnotice := inEgress_of_notice l
  have hidle : ∀ (v : State) (m : LaneId), v.inEgress l → (v.becomeIdle m).inEgress l := fun v m hv => becomeIdle_inEgress hv m
  have hkeeps : ∀ (v : State) (m : LaneId), v.inputs.evacuating = true → (v.egressLane m).inputs.evacuating = true := fun v m hv => by
    refine egressLane_keeps (P := fun w : State => w.inputs.evacuating = true) (fun v w hf hv => ?_) (fun v m hv => ?_)
      (fun _ => hv) hv
    · rwa [hf.same (b := .inputs) (by decide)]
    · obtain ⟨-, hkept, -⟩ := InputSampler.standing_eq_iff.1 (becomeIdle_inputs v m)
      exact hkept.trans hv
  refine startEvacuation_keeps hnotice hidle (foldl_at (i := l) (P := fun v : State => v.inputs.evacuating = true)
    (Q := State.inEgress l) (fun v m _ hv => hkeeps v m hv) (fun v hv => ?_) (fun v m hml hv => ?_) (by decide)
    (mem_allLanes l) _ rfl)
  · by_cases hkind : (v.lane l).setup.kind = .unused
    · rw [egressLane_unused hkind]
      exact ⟨hv, fun hc => absurd hkind hc⟩
    · rw [egressLane_used hkind]
      exact voidGrant_keeps hnotice hidle (enterEgress_inEgress_same hv l) _ _
  · refine egressLane_keeps hnotice hidle (fun _ => hv.of_lane rfl ?_ ?_) hv <;> rw [enterEgress_other v hml]

/-! ### The modes remembered (R91) -/

/-- A lane no setup waits for, in a mode it has not left yet. -/
structure State.standsIn (l : LaneId) (x : LaneSetup) (mode : LaneMode) (s : State) : Prop where
  settled : s.settledFor l mode
  setup : (s.lane l).setup = x
  mode : (s.lane l).mode = mode

/-- A lane no setup waits for, with the mode it remembers. -/
structure State.remembersMode (l : LaneId) (mode : LaneMode) (s : State) : Prop where
  settled : s.settledFor l mode
  remembered : (s.lane l).remembered = some mode.toAsk

theorem LaneMode.toAsk_free {mode : LaneMode} (h : mode.toAsk = .free) : mode = .free := by cases mode <;> cases h; rfl

theorem settledFor_of_notice {mode : LaneMode} (h : s.settledFor l mode) (hf : unchangedBut noticeBlocks s t) :
    t.settledFor l mode := h.of_lanes fun p hp => by rwa [noticed_lane hf]

theorem enterEgress_settledFor {mode : LaneMode} (h : s.settledFor l mode) (m : LaneId) : (s.enterEgress m).settledFor l mode :=
  h.of_lanes fun p hp => by
    by_cases hmp : m = p
    · subst hmp
      rw [enterEgress_lane]
      exact hp
    · rwa [enterEgress_other s hmp]

theorem becomeIdle_remembersMode {mode : LaneMode} (h : s.remembersMode l mode) (m : LaneId) :
    (s.becomeIdle m).remembersMode l mode :=
  ⟨becomeIdle_settledFor h.settled m, (becomeIdle_modes h.settled m).2 _ LaneMode.toAsk_free h.remembered⟩

theorem becomeIdle_standsIn {mode : LaneMode} {x : LaneSetup} (h : s.standsIn l x mode) (m : LaneId) :
    (s.becomeIdle m).standsIn l x mode := by
  obtain ⟨hsetup, -⟩ := Lane.standing_eq_iff.1 (becomeIdle_standing h.settled.1 m)
  exact ⟨becomeIdle_settledFor h.settled m, hsetup.trans h.setup, (becomeIdle_modes h.settled m).1 h.mode⟩

theorem remembersMode_of_notice {mode : LaneMode} (v w : State) (hf : unchangedBut noticeBlocks v w)
    (h : v.remembersMode l mode) : w.remembersMode l mode :=
  ⟨settledFor_of_notice h.settled hf, by rw [noticed_lane hf, h.remembered]⟩

theorem standsIn_of_notice {mode : LaneMode} {x : LaneSetup} (v w : State) (hf : unchangedBut noticeBlocks v w)
    (h : v.standsIn l x mode) : w.standsIn l x mode :=
  ⟨settledFor_of_notice h.settled hf, by rw [noticed_lane hf, h.setup], by rw [noticed_lane hf, h.mode]⟩

/-- A used lane no setup waits for remembers, once the evacuation has started, the mode it had (R91). -/
theorem startEvacuation_remembers (hkind : (s.lane l).setup.kind ≠ .unused)
    (hsettled : s.settledFor l (s.lane l).mode) (k : WatchId) (levels : InputSet) :
    ((s.startEvacuation k levels).lane l).remembered = some (s.lane l).mode.toAsk := by
  generalize hmode : (s.lane l).mode = mode at hsettled ⊢
  have hidle : ∀ (v : State) (m : LaneId), v.remembersMode l mode → (v.becomeIdle m).remembersMode l mode :=
    fun v m hv => becomeIdle_remembersMode hv m
  refine (startEvacuation_keeps (P := State.remembersMode l mode) remembersMode_of_notice hidle ?_).remembered
  refine foldl_at (i := l) (P := State.standsIn l (s.lane l).setup mode) (Q := State.remembersMode l mode)
    (fun v m hml hv => ?_) (fun v hv => ?_) (fun v m hml hv => ?_) (by decide) (mem_allLanes l) _
    ⟨hsettled, rfl, hmode⟩
  · refine egressLane_keeps standsIn_of_notice (fun v m hv => becomeIdle_standsIn hv m)
      (fun _ => ⟨enterEgress_settledFor hv.settled m, ?_, ?_⟩) hv
    · rw [enterEgress_other v hml, hv.setup]
    · rw [enterEgress_other v hml, hv.mode]
  · rw [egressLane_used (by rwa [hv.setup])]
    refine voidGrant_keeps remembersMode_of_notice hidle ⟨enterEgress_settledFor hv.settled l, ?_⟩ _ _
    rw [enterEgress_lane, ← hv.mode]
  · refine egressLane_keeps remembersMode_of_notice hidle (fun _ => ⟨enterEgress_settledFor hv.settled m, ?_⟩) hv
    rw [enterEgress_other v hml, hv.remembered]

end

end Sys2Proof.Machine
end

section
/-! ## Grants, waits, reports and rings as an evacuation starts (R57, R62, R91, R146, R162) -/
namespace Sys2Proof.Machine

section
variable {s t u : State} {l m : LaneId} {k : WatchId} {levels : InputSet}

/-! ### Every grant of a used lane voided, every wait cancelled (R57, R62) -/

/-- A lane's course with its setup in force, which a setup pending becomes as the lane is left IDLE (R65). -/
structure LanePost where
  course : LaneCourse
  setup : LaneSetup

def State.post (s : State) (l : LaneId) : LanePost := ⟨s.course l, (s.lane l).setup⟩

/-- The setup in force once the lane has been left IDLE (R65). -/
def LanePost.next (x : LanePost) : LaneSetup := x.course.pendingSetup.getD x.setup

/-- A DOOR or TURNSTILE lane's grant voided (R91). -/
def LanePost.voided (x : LanePost) : LanePost :=
  if x.setup.kind = .unused then x else ⟨x.course.voided, if x.course.grant = none then x.setup else x.next⟩

/-- A lane's wait cancelled (R62). -/
def LanePost.cancelled (x : LanePost) : LanePost :=
  ⟨x.course.cancelled, if x.course.wait = none then x.setup else x.next⟩

theorem post_congr (hcourse : t.course l = s.course l) (hsetup : (t.lane l).setup = (s.lane l).setup) :
    t.post l = s.post l := by
  unfold State.post
  rw [hcourse, hsetup]

theorem noticed_post (hf : unchangedBut [.roster, .records, .spool, .link, .bells] s t) (l : LaneId) : t.post l = s.post l := by
  have hlane : t.lane l = s.lane l := noticed_lane (hf.mono (by decide)) l
  have hpunch : t.punch = s.punch := hf.same (b := .punch) (by decide)
  exact post_congr (course_congr (by rw [hlane]; exact ⟨rfl, rfl, rfl⟩) (by rw [hpunch]) (by rw [hpunch])) (by rw [hlane])

theorem enterEgress_post (s : State) (l m : LaneId) : (s.enterEgress l).post m = s.post m := by
  by_cases hlm : l = m
  · subst hlm
    exact post_congr (course_congr (by rw [enterEgress_lane]; exact ⟨rfl, rfl, rfl⟩) rfl rfl) (by rw [enterEgress_lane])
  · exact post_congr (course_congr (by rw [enterEgress_other s hlm]; exact ⟨rfl, rfl, rfl⟩) rfl rfl)
      (by rw [enterEgress_other s hlm])

/-- The state of a granted lane as the void notice has been given. -/
theorem voidNoticed_lane (s : State) (l : LaneId) (cause : VoidCause) (m : LaneId) :
    ((s.voidTold l cause).dropHanded l).lane m = s.lane m := by
  rw [dropHanded_lane, noticed_lane ((voidTold_frame s l cause).mono (by decide))]

theorem voidGrant_setup (cause : VoidCause) (s : State) (l : LaneId) : ((State.voidGrant cause s l).lane l).setup =
    if (s.lane l).grant = none then (s.lane l).setup else (s.post l).next := by
  cases hgrant : (s.lane l).grant with
  | none => rw [voidGrant_ungranted hgrant, if_pos rfl]
  | some g =>
    rw [voidGrant_granted hgrant, becomeIdle_setup, voidNoticed_lane, if_neg (by simp)]
    rfl

theorem voidGrant_setup_other (cause : VoidCause) (s : State) (hlm : l ≠ m) :
    ((State.voidGrant cause s l).lane m).setup = (s.lane m).setup := by
  cases hgrant : (s.lane l).grant with
  | none => rw [voidGrant_ungranted hgrant]
  | some g => rw [voidGrant_granted hgrant, becomeIdle_setup_other _ hlm, voidNoticed_lane]

theorem egressLane_post_same (s : State) (l : LaneId) : (s.egressLane l).post l = (s.post l).voided := by
  unfold LanePost.voided
  by_cases hkind : (s.lane l).setup.kind = .unused
  · rw [egressLane_unused hkind]
    exact (if_pos hkind).symm
  · have hentered := enterEgress_post s l l
    have hcourse : (s.enterEgress l).course l = s.course l := congrArg LanePost.course hentered
    have hsetup : ((s.enterEgress l).lane l).setup = (s.lane l).setup := congrArg LanePost.setup hentered
    have hgrant : ((s.enterEgress l).lane l).grant = (s.course l).grant := congrArg LaneCourse.grant hcourse
    rw [egressLane_used hkind]
    refine Eq.trans ?_ (if_neg hkind).symm
    unfold State.post
    rw [voidGrant_voided, hcourse, voidGrant_setup, hgrant, hsetup, hentered]
    rfl

theorem egressLane_post_other (s : State) (l m : LaneId) (hlm : l ≠ m) : (s.egressLane l).post m = s.post m := by
  by_cases hkind : (s.lane l).setup.kind = .unused
  · rw [egressLane_unused hkind]
  · rw [egressLane_used hkind]
    exact (post_congr (voidGrant_other _ _ l m hlm) (voidGrant_setup_other _ _ hlm)).trans (enterEgress_post s l m)

/-- A verdict queued turns no lane. -/
theorem queueVerdict_post (s : State) (i : Head) (v : Verdict) (l : LaneId) : (s.queueVerdict i v).post l = s.post l :=
  post_congr ((queueVerdict_sameCourse s i v).1 l) (by rw [noticed_lane ((queueVerdict_frame s i v).mono (by decide))])

theorem cancelWait_post_same (s : State) (l : LaneId) : (State.cancelWait true s l).post l = (s.post l).cancelled := by
  unfold LanePost.cancelled
  cases hw : s.punch.waits[l] with
  | none =>
    have hcourse : (s.course l).wait = none := hw
    rw [cancelWait_not_waiting hw, State.post, LaneCourse.cancelled, hcourse, if_pos rfl]
  | some w =>
    have hcourse : (s.course l).wait = some w := hw
    have hqueued := queueVerdict_post s w.head (plainVerdict .finish) l
    have hqueuedCourse : (s.queueVerdict w.head (plainVerdict .finish)).course l = s.course l :=
      congrArg LanePost.course hqueued
    rw [cancelWait_waiting hw, State.post, becomeIdle_course_same, becomeIdle_setup, dropWait_course_same, hqueuedCourse]
    rw [State.post, LaneCourse.cancelled, hcourse, if_neg (by simp)]
    have hnext := congrArg LanePost.next hqueued
    exact congrArg (LanePost.mk _) hnext

theorem cancelWait_post_other (s : State) (l m : LaneId) (hlm : l ≠ m) : (State.cancelWait true s l).post m = s.post m := by
  cases hw : s.punch.waits[l] with
  | none => rw [cancelWait_not_waiting hw]
  | some w =>
    rw [cancelWait_waiting hw]
    refine (post_congr ?_ ?_).trans (queueVerdict_post s w.head (plainVerdict .finish) m)
    · rw [becomeIdle_course_other _ _ hlm, dropWait_course_other _ l hlm]
    · exact becomeIdle_setup_other _ hlm

theorem startEvacuation_post (s : State) (k : WatchId) (levels : InputSet) (l : LaneId) :
    (s.startEvacuation k levels).post l = (s.post l).voided.cancelled := by
  have hended : (s.called k).egressed.beginEvacRings.waitsEnded.post l = ((s.called k).egressed.beginEvacRings.post l).cancelled :=
    allLanes_foldl (P := State.post) (F := fun _ x => x.cancelled) cancelWait_post_same cancelWait_post_other _ l
  have hegressed : (s.called k).egressed.post l = (s.post l).voided :=
    allLanes_foldl (P := State.post) (F := fun _ x => x.voided) egressLane_post_same egressLane_post_other (s.called k) l
  rw [noticed_post ((startEvacuation_from_waitsEnded s k levels).mono (by decide)), hended,
    noticed_post ((beginEvacRings_frame _).mono (by decide)), hegressed]

theorem laneLaw_no_grant (h : s.laneLaw) {w : ReferralWait} (hw : s.punch.waits[l] = some w) : (s.lane l).grant = none := by
  obtain ⟨hreleased, hwaiting, hreferral, -⟩ := h l
  have hactivity : (s.lane l).activity = .referralWait := hreferral.2 (by rw [hw]; rfl)
  refine Option.eq_none_iff_forall_ne_some.2 fun g hg => ?_
  cases hphase : g.phase with
  | released => exact absurd (hactivity.symm.trans (hreleased.2 ⟨g, hg, hphase⟩)) (by decide)
  | waiting => exact absurd (hactivity.symm.trans (hwaiting.2 ⟨g, hg, hphase⟩)) (by decide)

theorem LaneCourse.cancelled_wait (x : LaneCourse) : x.cancelled.wait = none := by
  unfold LaneCourse.cancelled
  cases hw : x.wait with
  | none => exact hw
  | some w => rfl

/-- Voided and cancelled, a lane waits for no ruling, and where it is used is at rest (R70, R73). -/
theorem post_voided_cancelled (h : s.laneLaw) (l : LaneId) : (s.post l).voided.cancelled.course.wait = none ∧
    ((s.post l).voided.cancelled.setup.kind ≠ .unused → (s.post l).voided.cancelled.course = .rest) := by
  refine ⟨LaneCourse.cancelled_wait _, fun hkind => ?_⟩
  have hrest := voided_cancelled_rest h l
  by_cases hunused : (s.lane l).setup.kind = .unused
  · have hvoided : (s.post l).voided = s.post l := if_pos hunused
    rw [hvoided] at hkind ⊢
    cases hw : s.punch.waits[l] with
    | none =>
      have hsetup : (s.post l).cancelled.setup = (s.lane l).setup := if_pos hw
      rw [hsetup] at hkind
      exact absurd hunused hkind
    | some w =>
      have hcourse : (s.course l).voided = s.course l := by
        rw [LaneCourse.voided, show (s.course l).grant = none from laneLaw_no_grant h hw]
      rw [hcourse] at hrest
      exact hrest
  · have hvoided : (s.post l).voided.course = (s.course l).voided := congrArg LanePost.course (if_neg hunused)
    exact (congrArg LaneCourse.cancelled hvoided).trans hrest

/-! ### The entries and the reports (R57, R162) -/

/-- The VOID report of a lane's handed punch, where the lane is used (R57). -/
def State.reportVoid (s : State) (v : State) (l : LaneId) : State := match s.handedAt l with
  | some p => if (s.lane l).setup.kind = .unused then v
    else v.sendReport (.void p.stamp l p.head p.badge p.slot p.shown .evacuation)
  | none => v

theorem sendReport_sent (r : Report) (h : t.sent = s.sent) : (t.sendReport r).sent = (s.sendReport r).sent := by
  obtain ⟨hspool, hlink⟩ := State.sent_eq_iff.1 h
  have hframe : ∀ v : State, (v.sendReport r).spool = v.spool := fun v =>
    (frame_sendReport (L := [.link]) r (.refl _ v) (by decide)).same (b := .spool) (by decide)
  exact State.sent_eq_iff.2 ⟨by rw [hframe, hframe, hspool], sendReport_link r hlink⟩

theorem reportVoid_sent (l : LaneId) (h : t.sent = u.sent) : (s.reportVoid t l).sent = (s.reportVoid u l).sent := by
  unfold State.reportVoid
  split
  · split
    · exact h
    · exact sendReport_sent _ h
  · exact h

/-- What a used lane's voided grant sends: its VOID report. -/
theorem voidGrant_sent (hsound : s.soundWords)
    (hhanded : (s.lane l).grant = none → s.handedAt l = none) (hkind : (s.lane l).setup.kind ≠ .unused) :
    (State.voidGrant .evacuation s l).sent = (s.reportVoid s l).sent ∧ (State.voidGrant .evacuation s l).soundWords := by
  cases hgrant : (s.lane l).grant with
  | none =>
    rw [voidGrant_ungranted hgrant, State.reportVoid, hhanded hgrant]
    exact ⟨rfl, hsound⟩
  | some g =>
    have htold : (s.voidTold l .evacuation).soundWords :=
      soundWords_congr hsound ((voidTold_frame s l _).same (b := .roster) (by decide))
    obtain ⟨hdropped, hframe⟩ := dropHanded_of_sound htold l
    have hidle := becomeIdle_frame ((s.voidTold l .evacuation).dropHanded l) l
    rw [voidGrant_granted hgrant]
    refine ⟨?_, soundWords_congr hdropped (hidle.same (b := .roster) (by decide))⟩
    rw [hidle.sent (by decide) (by decide), hframe.sent (by decide) (by decide)]
    cases hp : s.handedAt l with
    | none => rw [voidTold_of_none hp, State.reportVoid, hp]
    | some p =>
      have hreport : s.reportVoid s l = s.sendReport (.void p.stamp l p.head p.badge p.slot p.shown .evacuation) := by
        unfold State.reportVoid
        rw [hp]
        exact if_neg hkind
      have hvoid : s.voidTold l .evacuation = (s.queueVerdict p.head (plainVerdict .finish)).sendReport
          (.void p.stamp l p.head p.badge p.slot p.shown .evacuation) := by
        unfold State.voidTold
        rw [hp]
        exact if_neg (by decide)
      rw [hreport, hvoid]
      exact sendReport_sent _ ((queueVerdict_frame s _ _).sent (by decide) (by decide))

theorem post_handedAt (h : t.post l = s.post l) : t.handedAt l = s.handedAt l :=
  congrArg (fun x : LanePost => x.course.handed) h

theorem reportVoid_congr (h : t.post l = s.post l) (v : State) : t.reportVoid v l = s.reportVoid v l := by
  have hsetup : (t.lane l).setup = (s.lane l).setup := congrArg LanePost.setup h
  unfold State.reportVoid
  rw [post_handedAt h, hsetup]

theorem egressLane_sent (hsound : s.soundWords) (hhanded : (s.lane l).grant = none → s.handedAt l = none) :
    (s.egressLane l).sent = (s.reportVoid s l).sent ∧ (s.egressLane l).soundWords := by
  by_cases hkind : (s.lane l).setup.kind = .unused
  · rw [egressLane_unused hkind]
    refine ⟨?_, hsound⟩
    unfold State.reportVoid
    split
    · rw [if_pos hkind]
    · rfl
  · have hpost := enterEgress_post s l l
    have hgrant : ((s.enterEgress l).lane l).grant = (s.lane l).grant :=
      congrArg (fun x : LanePost => x.course.grant) hpost
    obtain ⟨hsent, hsoundly⟩ := voidGrant_sent (s := s.enterEgress l) (l := l) (soundWords_congr hsound rfl)
      (by rw [hgrant, post_handedAt hpost]; exact hhanded) (by rw [enterEgress_lane]; exact hkind)
    rw [egressLane_used hkind]
    refine ⟨hsent.trans ?_, hsoundly⟩
    rw [reportVoid_congr hpost]
    exact reportVoid_sent l rfl

/-- The lanes going to EGRESS one after the other send their VOID reports in that order, and request no entry. -/
theorem egressLanes_sent (hhanded : ∀ l, (s.lane l).grant = none → s.handedAt l = none) {ls : List LaneId} (hls : ls.Nodup)
    {v w : State} (hsound : v.soundWords) (hposts : ∀ l ∈ ls, v.post l = s.post l) (h : v.sent = w.sent) :
    (ls.foldl State.egressLane v).sent = (ls.foldl s.reportVoid w).sent := by
  induction ls generalizing v w with
  | nil => exact h
  | cons l rest ih =>
    obtain ⟨hl, hrest⟩ := List.nodup_cons.1 hls
    have hpost := hposts l List.mem_cons_self
    have hgrant : (v.lane l).grant = (s.lane l).grant := congrArg (fun x : LanePost => x.course.grant) hpost
    obtain ⟨hsent, hsoundly⟩ := egressLane_sent hsound (l := l) (by rw [hgrant, post_handedAt hpost]; exact hhanded l)
    rw [List.foldl_cons, List.foldl_cons]
    refine ih hrest hsoundly (fun m hm => ?_) ?_
    · exact (egressLane_post_other v l m fun hlm => hl (hlm ▸ hm)).trans (hposts m (List.mem_cons_of_mem l hm))
    · rw [hsent, reportVoid_congr hpost]
      exact reportVoid_sent l h

/-- What the start of an evacuation sends: a VOID report for each grant voided, then EVAC_BEGIN (R57, R162). -/
theorem startEvacuation_sent (hlanes : s.laneLaw) (hsound : s.soundWords) (k : WatchId) (levels : InputSet) :
    (s.startEvacuation k levels).sent =
      ((allLanes.foldl s.reportVoid s).requestEntry (.system s.now (.evacBegin k levels))).sent := by
  have hhanded : ∀ l, (s.lane l).grant = none → s.handedAt l = none := fun l hgrant =>
    Option.not_isSome_iff_eq_none.1 fun hp => by
      obtain ⟨-, -, -, hworker, -⟩ := hlanes l
      obtain ⟨g, hg, -⟩ := hworker.1 hp
      rw [hgrant] at hg
      cases hg
  have htime : (s.called k).egressed.beginEvacRings.waitsEnded.time = s.time :=
    (waitsEnded_from_called s k).same (b := .time) (by decide)
  have hegressed : (s.called k).egressed.sent = (allLanes.foldl s.reportVoid s).sent :=
    egressLanes_sent hhanded (by decide) (soundWords_congr hsound rfl) (fun _ _ => rfl) rfl
  rw [startEvacuation_eq, now_congr htime]
  refine requestEntry_sent _ (Eq.trans ?_ hegressed)
  exact ((waitsEnded_frame _).sent (by decide) (by decide)).trans ((beginEvacRings_frame _).sent (by decide) (by decide))

/-! ### The rings (R146) -/

/-- The EVACUATION ring of the setup record's set and tone as an evacuation starts (R146). -/
theorem startEvacuation_bells (s : State) (k : WatchId) (levels : InputSet) :
    (s.startEvacuation k levels).bells.evacSet = some ⟨s.setup.bells.evacOutputs, s.setup.bells.evacTone⟩ ∧
    ∀ b : BellId, (s.startEvacuation k levels).bells.rings[b] = if inSet s.setup.bells.evacOutputs b.val = true
      then some (evacRingOf (s.activeBank.tone s.setup.bells.evacTone) s.time.elapsed) else s.bells.rings[b] := by
  have hframe : unchangedBut grantBlocks s (s.called k).egressed :=
    ((called_frame s k).mono (by decide)).trans (egressed_frame _)
  have hlater : (s.startEvacuation k levels).bells = (s.called k).egressed.beginEvacRings.bells :=
    ((startEvacuation_from_waitsEnded s k levels).same (b := .bells) (by decide)).trans
      ((waitsEnded_frame _).same (b := .bells) (by decide))
  have hbells : (s.called k).egressed.bells = s.bells := hframe.same (b := .bells) (by decide)
  have hsetup : (s.called k).egressed.setup = s.setup := hframe.same (b := .setup) (by decide)
  have htime : (s.called k).egressed.time = s.time := hframe.same (b := .time) (by decide)
  have hbank : (s.called k).egressed.activeBank = s.activeBank := by
    unfold State.activeBank
    rw [hframe.same (b := .banks) (by decide)]
  rw [hlater]
  generalize (s.called k).egressed = v at hbells hsetup htime hbank ⊢
  unfold State.beginEvacRings
  rw [← hsetup, ← htime, ← hbank, ← hbells]
  exact ⟨startEvacRings_evacSet _ _, fun b => startEvacRings_rings _ _ b⟩

/-! ### The levels (R160) -/

/-- With every used lane at rest no grant waits in a pair, and every level is taken as it stands (R86). -/
theorem startEvacuation_settle (hlanes : s.laneLaw) (k : WatchId) (levels : InputSet) :
    (s.startEvacuation k levels).settle = (s.startEvacuation k levels).retakeLevels := by
  generalize ht : s.startEvacuation k levels = t
  have hgrant : ∀ l, (t.lane l).setup.kind ≠ .unused → (t.lane l).grant = none := fun l hkind => by
    obtain ⟨-, hrest⟩ := post_voided_cancelled hlanes l
    have hpost : t.post l = (s.post l).voided.cancelled := by rw [← ht, startEvacuation_post]
    rw [← hpost] at hrest
    obtain ⟨-, hnone, -⟩ := course_eq_rest (hrest hkind)
    exact hnone
  have hdoor : ∀ l, (t.lane l).setup.kind = .door → ∀ m, t.goesFirst l m = false := fun l hkind m =>
    goesFirst_of_not_waiting (waitingGrant_of_no_grant (hgrant l (by rw [hkind]; decide))) m
  have hlook : ∀ l, t.look l = t := fun l => look_of_no_choice fun m hpartner => by
    obtain ⟨hm, hback, -⟩ := partnerOf_eq_some hpartner
    obtain ⟨hl, -⟩ := partnerOf_eq_some hback
    exact arbiterChoice_eq_none (hdoor l hl m) (hdoor m hm l)
  refine settle_of_quiet fun l => ?_
  unfold State.lookIfChanged
  split
  · rfl
  · exact hlook l

end

end Sys2Proof.Machine
end

section
/-! ## A watch that fires performs its action (R142, R156–R159, R162) -/
namespace Sys2Proof.Machine

section
variable {s t u : State} {l m : LaneId} {k : WatchId}

theorem watchEntered_laneLaw (h : s.laneLaw) (k : WatchId) : (s.watchEntered k).laneLaw := by
  have hpunch : (s.watchEntered k).punch = s.punch := (watchEntered_frame s k).same (b := .punch) (by decide)
  intro l
  unfold State.handedAt
  rw [watchEntered_lane, hpunch]
  exact h l

theorem watchEntered_post (s : State) (k : WatchId) (l : LaneId) : (s.watchEntered k).post l = s.post l := by
  have hpunch : (s.watchEntered k).punch = s.punch := (watchEntered_frame s k).same (b := .punch) (by decide)
  exact post_congr (course_congr (by rw [watchEntered_lane]; exact ⟨rfl, rfl, rfl⟩) (by rw [hpunch]) (by rw [hpunch]))
    (by rw [watchEntered_lane])

theorem LaneMode.toLaneMode_toAsk {mode : LaneMode} (h : mode ≠ .egress) : mode.toAsk.toLaneMode = mode := by
  cases mode with
  | egress => exact absurd rfl h
  | secure | free | locked => rfl

theorem retakeLevels_kept (s : State) : s.retakeLevels.inputs.evacuating = s.inputs.evacuating ∧
    s.retakeLevels.inputs.startingWatch = s.inputs.startingWatch ∧ s.retakeLevels.inputs.captures = s.inputs.captures := by
  have hundriven := retakeLevels_undriven s
  have hevacuating := congrArg InputSampler.evacuating hundriven
  have hstarting := congrArg InputSampler.startingWatch hundriven
  have hcaptures := congrArg InputSampler.captures hundriven
  exact ⟨hevacuating, hstarting, hcaptures⟩

theorem retakeLevels_lane_kept (s : State) (l : LaneId) : (s.retakeLevels.lane l).setup = (s.lane l).setup ∧
    (s.retakeLevels.lane l).mode = (s.lane l).mode ∧ (s.retakeLevels.lane l).remembered = (s.lane l).remembered ∧
    (s.retakeLevels.lane l).grant = (s.lane l).grant ∧ (s.retakeLevels.lane l).activity = (s.lane l).activity := by
  rw [retakeLevels_lane]
  exact ⟨rfl, rfl, rfl, rfl, rfl⟩

/-- A used lane at rest during an evacuation: in EGRESS with no grant, its output driven on (R91, R160). -/
theorem inEgress_at_rest (hrun : s.supply.state = .run) (hegress : s.inEgress l)
    (hrest : (s.post l).setup.kind ≠ .unused → (s.post l).course = .rest) (hkind : (s.lane l).setup.kind ≠ .unused) :
    (s.lane l).mode = .egress ∧ (s.lane l).grant = none ∧ (s.lane l).activity = .idle ∧ s.driveRelease l = true := by
  obtain ⟨hidle, hgrant, -⟩ := course_eq_rest (hrest hkind)
  refine ⟨hegress.2 hkind, hgrant, hidle, ?_⟩
  unfold State.driveRelease
  rw [hrun]
  exact if_pos ⟨hegress.1, hkind⟩

/-- The state an EVACUATE watch leaves that fires in NORMAL, before the levels are settled. -/
def State.evacuatedBy (s : State) (k : WatchId) : State := (s.watchEntered k).startEvacuation k s.generalLevels

theorem evacuatedBy_frame (s : State) (k : WatchId) : unchangedBut ([.bells] ++ grantBlocks) s (s.evacuatedBy k) :=
  ((watchEntered_frame s k).mono (by decide)).trans (frame_startEvacuation k _ (.refl _ _) (by decide) (by decide) (by decide)
    (by decide) (by decide) (by decide) (by decide) (by decide))

theorem evacuatedBy_settle (hlanes : s.laneLaw) (k : WatchId) : (s.evacuatedBy k).settle = (s.evacuatedBy k).retakeLevels :=
  startEvacuation_settle (watchEntered_laneLaw hlanes k) k _

theorem evacuatedBy_inputs (s : State) (k : WatchId) : (s.evacuatedBy k).inputs.evacuating = true ∧
    (s.evacuatedBy k).inputs.startingWatch = some k ∧ (s.evacuatedBy k).inputs.captures = (s.captured k).inputs.captures := by
  obtain ⟨-, hevacuating, hstarting, hcaptures⟩ :=
    InputSampler.standing_eq_iff.1 (startEvacuation_inputs (s.watchEntered k) k s.generalLevels)
  have hinputs := congrArg InputSampler.captures (watchEntered_inputs s k)
  unfold State.evacuatedBy
  exact ⟨hevacuating, hstarting, hcaptures.trans hinputs⟩

/-- What the start sends after the WATCH entry (R57, R162). -/
theorem evacuatedBy_sent (haction : (s.watch k).action = .evacuate) (hlanes : s.laneLaw) (hsound : s.soundWords) :
    (s.evacuatedBy k).sent = ((allLanes.foldl s.reportVoid (s.requestEntry
      (.system s.now (.watch k s.generalLevels .evacuate)))).requestEntry (.system s.now (.evacBegin k s.generalLevels))).sent := by
  have hframe := watchEntered_frame s k
  have hnow : (s.watchEntered k).now = s.now := now_congr (hframe.same (b := .time) (by decide))
  have hreport : (s.watchEntered k).reportVoid = s.reportVoid := by
    funext v l
    exact reportVoid_congr (watchEntered_post s k l) v
  have hvoids : ∀ (ls : List LaneId) (v w : State), v.sent = w.sent →
      (ls.foldl s.reportVoid v).sent = (ls.foldl s.reportVoid w).sent := fun ls => by
    induction ls with
    | nil => exact fun _ _ h => h
    | cons l rest ih => exact fun v w h => ih _ _ (reportVoid_sent l h)
  have hentered : (s.watchEntered k).sent =
      (s.requestEntry (.system s.now (.watch k s.generalLevels .evacuate))).sent := by
    have htold := watchEntered_entered s k
    rw [haction] at htold
    exact State.sent_eq_iff.2 htold
  unfold State.evacuatedBy
  rw [startEvacuation_sent (watchEntered_laneLaw hlanes k)
    (soundWords_congr hsound (hframe.same (b := .roster) (by decide))), hnow, hreport]
  exact requestEntry_sent _ (hvoids _ _ _ hentered)

theorem evacuatedBy_remembers (hmode : (s.lane l).mode ≠ .egress) (hkind : (s.lane l).setup.kind ≠ .unused)
    (hsettled : s.settledFor l (s.lane l).mode) (k : WatchId) :
    ∃ m, ((s.evacuatedBy k).lane l).remembered = some m ∧ m.toLaneMode = (s.lane l).mode := by
  refine ⟨(s.lane l).mode.toAsk, ?_, LaneMode.toLaneMode_toAsk hmode⟩
  have hentered : (s.watchEntered k).settledFor l (s.lane l).mode := hsettled.of_lanes fun p hp => by rwa [watchEntered_lane]
  rw [← watchEntered_lane s k l] at hkind hentered ⊢
  exact startEvacuation_remembers hkind hentered k _

theorem evacuatedBy_post (s : State) (k : WatchId) (l : LaneId) :
    (s.evacuatedBy k).post l = ((s.watchEntered k).post l).voided.cancelled := by
  unfold State.evacuatedBy
  rw [startEvacuation_post]

theorem evacuatedBy_inEgress (s : State) (k : WatchId) (l : LaneId) : (s.evacuatedBy k).inEgress l := by
  unfold State.evacuatedBy
  exact startEvacuation_inEgress _ k _ l

/-- Every used lane stands in EGRESS with no grant, its output driven on (R91, R160). -/
theorem evacuatedBy_lane (hrun : s.supply.state = .run) (hlanes : s.laneLaw) (k : WatchId) (l : LaneId)
    (hkind : ((s.evacuatedBy k).lane l).setup.kind ≠ .unused) : ((s.evacuatedBy k).lane l).mode = .egress ∧
      ((s.evacuatedBy k).lane l).grant = none ∧ ((s.evacuatedBy k).lane l).activity = .idle ∧
      (s.evacuatedBy k).driveRelease l = true := by
  obtain ⟨-, hrest⟩ := post_voided_cancelled (watchEntered_laneLaw hlanes k) l
  rw [← evacuatedBy_post] at hrest
  refine inEgress_at_rest ?_ (evacuatedBy_inEgress s k l) hrest hkind
  rw [(evacuatedBy_frame s k).same (b := .supply) (by decide), hrun]

theorem evacuatedBy_waits (hlanes : s.laneLaw) (k : WatchId) (l : LaneId) : (s.evacuatedBy k).punch.waits[l] = none := by
  obtain ⟨hwait, -⟩ := post_voided_cancelled (watchEntered_laneLaw hlanes k) l
  rw [← evacuatedBy_post] at hwait
  exact hwait

theorem evacuatedBy_bells (s : State) (k : WatchId) :
    (s.evacuatedBy k).bells.evacSet = some ⟨s.setup.bells.evacOutputs, s.setup.bells.evacTone⟩ ∧
    ∀ b : BellId, (s.evacuatedBy k).bells.rings[b] = if inSet s.setup.bells.evacOutputs b.val = true
      then some (evacRingOf (s.activeBank.tone s.setup.bells.evacTone) s.time.elapsed) else s.bells.rings[b] := by
  obtain ⟨hbells, htime, hsetup⟩ := watchEntered_alike s k
  have hstart := startEvacuation_bells (s.watchEntered k) k s.generalLevels
  unfold State.evacuatedBy
  rwa [hbells, htime, hsetup, watchEntered_activeBank] at hstart

end

/-- Settles O40: the firing captures and enters, and then each action is performed on the state so entered, the levels settling
as the action leaves them; in an evacuation's start no used lane is left with a grant for the arbiter to release. -/
theorem watchFiresAndPerformsItsAction : Obligations.WatchFiresAndPerformsItsAction := by
  unfold Obligations.WatchFiresAndPerformsItsAction
  intro s k hrun hlevels hd captured told
  have htold : told (s.watchEntered k) := watchEntered_entered s k
  refine ⟨fun hlive => ?_, fun hlive haction => ?_, fun set m hlive haction => ?_, fun i hlive haction => ?_,
    fun hlive haction hevacuating => ?_, fun hlive haction hnormal hlanes hmodes _ hsound => ?_⟩
  · rw [exec_watchFire hrun hd, if_neg (by simp [hlive])]
    rfl
  · have hsettle : ((s.watchEntered k).performAction k s.generalLevels .alarm).settle = s.watchEntered k :=
      watchEntered_settle hlevels k
    rw [exec_watchFire_of_acts hrun hd hlive haction (by simp), hsettle]
    exact ⟨_, rfl, watchEntered_frame s k, watchEntered_inputs s k, htold⟩
  · have hasked := askModes_frame (s.watchEntered k) set m
    have hsettled := settle_frame ((s.watchEntered k).askModes set m)
    obtain ⟨hcaptures, hdeliveries, hevacuating⟩ := settle_captured (s := s) (k := k)
      ((hasked.same (b := .inputs) (by decide)).trans (watchEntered_inputs s k))
    refine ⟨_, exec_watchFire_of_acts hrun hd hlive haction (by simp), ?_, ?_, hcaptures, hdeliveries, hevacuating,
      fun l => lanesAsked_modes s k set m l⟩
    · exact ((watchEntered_frame s k).mono (by decide)).trans ((hasked.mono (by decide)).trans (hsettled.mono (by decide)))
    · exact htold.of_same
        ((hsettled.same (b := .spool) (by decide)).trans (hasked.same (b := .spool) (by decide)))
        ((hsettled.same (b := .link) (by decide)).trans (hasked.same (b := .link) (by decide)))
  · intro e
    have hrung := watchBell_frame (s.watchEntered k) i
    obtain ⟨hretaken, hturned⟩ := watchBell_settle hlevels k i
    obtain ⟨hnone, hring⟩ := watchEntered_watchBell_bells s k i
    obtain ⟨hcaptures, hdeliveries, -⟩ := settle_captured (s := s) (k := k)
      ((hrung.same (b := .inputs) (by decide)).trans (watchEntered_inputs s k))
    refine ⟨_, exec_watchFire_of_acts hrun hd hlive haction (by simp), ?_, ?_, hcaptures, hdeliveries, fun hkind => ?_,
      fun hkind => ⟨?_, settle_drivenBell hretaken⟩⟩
    · exact ((watchEntered_frame s k).mono (by decide)).trans ((hrung.mono (by decide)).trans (hturned.mono (by decide)))
    · exact htold.of_same
        ((hturned.same (b := .spool) (by decide)).trans (hrung.same (b := .spool) (by decide)))
        ((hturned.same (b := .link) (by decide)).trans (hrung.same (b := .link) (by decide)))
    · have hsettle : ((s.watchEntered k).performAction k s.generalLevels (.bell i)).settle = s.watchEntered k :=
        (congrArg State.settle (hnone hkind)).trans (watchEntered_settle hlevels k)
      rw [hsettle]
      exact ⟨(watchEntered_frame s k).same (b := .bells) (by decide), watchEntered_inputs s k⟩
    · exact (hturned.same (b := .bells) (by decide)).trans (hring hkind)
  · rw [exec_watchFire hrun hd, if_pos hlive, fireWatch_of_refresh haction hevacuating]
    exact congrArg Host.Outcome.next (settle_of_levelLaw (captured_levelLaw hlevels k))
  · intro voided last
    have hframe := retakeLevels_frame (s.evacuatedBy k)
    obtain ⟨hspool, hlink⟩ := State.sent_eq_iff.1 (evacuatedBy_sent haction hlanes hsound)
    obtain ⟨hevacuating, hstarting, hcaptures⟩ := evacuatedBy_inputs s k
    obtain ⟨hset, hrings⟩ := evacuatedBy_bells s k
    obtain ⟨hevacuatingKept, hstartingKept, hcapturesKept⟩ := retakeLevels_kept (s.evacuatedBy k)
    have hbells : (s.evacuatedBy k).retakeLevels.bells = (s.evacuatedBy k).bells := hframe.same (b := .bells) (by decide)
    have hpunch : (s.evacuatedBy k).retakeLevels.punch = (s.evacuatedBy k).punch := hframe.same (b := .punch) (by decide)
    refine ⟨(s.evacuatedBy k).retakeLevels, ?_, ?_, ?_, ?_, fun l hkind hpending hfree => ?_,
      hevacuatingKept.trans hevacuating, hstartingKept.trans hstarting, hcapturesKept.trans hcaptures, ?_, fun l hkind => ?_,
      fun l => ?_, fun b => ?_⟩
    · rw [exec_watchFire_of_acts hrun hd hlive haction fun _ => hnormal, ← evacuatedBy_settle hlanes k]
      rfl
    · exact (evacuatedBy_frame s k).trans (hframe.mono (by decide))
    · exact (hframe.same (b := .spool) (by decide)).trans hspool
    · exact (hframe.same (b := .link) (by decide)).trans hlink
    · obtain ⟨hegress, -⟩ := hmodes l
      obtain ⟨-, -, hremembered, -⟩ := retakeLevels_lane_kept (s.evacuatedBy k) l
      rw [hremembered]
      refine evacuatedBy_remembers (fun hmode => ?_) hkind ⟨hpending, hfree⟩ k
      obtain ⟨hevac, -⟩ := hegress.1 hmode
      rw [hnormal] at hevac
      cases hevac
    · rw [hbells, hset]
    · obtain ⟨hsetup, hmodeKept, -, hgrantKept, hactivity⟩ := retakeLevels_lane_kept (s.evacuatedBy k) l
      rw [hsetup] at hkind
      rw [hmodeKept, hgrantKept, hactivity, retakeLevels_drivenRelease]
      obtain ⟨hmode, hgrant, hidle, hdriven⟩ := evacuatedBy_lane hrun hlanes k l hkind
      exact ⟨hmode, hgrant, hidle, hdriven⟩
    · rw [hpunch]
      exact evacuatedBy_waits hlanes k l
    · rw [hbells]
      exact hrings b

end Sys2Proof.Machine
end

section
/-! ## What the law of the modes speaks of, and a setup applied (R66, R69, R91, R161) -/
namespace Sys2Proof.Machine

/-- What of a lane the law of the modes speaks of. -/
structure LaneStance where
  setup : LaneSetup
  mode : LaneMode
  remembered : Option AskMode
  hold : Option Bool

/-- A lane's setup in force, its modes, and the hold of its release output. -/
def State.stance (s : State) (l : LaneId) : LaneStance :=
  ⟨(s.lane l).setup, (s.lane l).mode, (s.lane l).remembered, s.inputs.releaseHolds[l]⟩

/-- EGRESS is the mode of a used lane that an evacuation has called, and such a lane alone remembers a mode (R69, R91). -/
def LaneStance.answers (x : LaneStance) (called : Prop) : Prop :=
  (x.mode = .egress ↔ called ∧ x.setup.kind ≠ .unused) ∧ (x.remembered.isSome = true ↔ called ∧ x.setup.kind ≠ .unused)

/-- A lane stands as a member of an interlock pair may: not FREE, not remembering FREE, not held on (R66, R69, R161). -/
def LaneStance.fits (x : LaneStance) : Prop := x.mode ≠ .free ∧ x.remembered ≠ some .free ∧ x.hold ≠ some true

/-- The law of the modes where an evacuation has called the lanes `called` so far. -/
def State.modesFor (called : LaneId → Prop) (s : State) : Prop :=
  ∀ l, (s.stance l).answers (called l) ∧ (s.inPair l = true → (s.stance l).fits)

theorem modeLaw_iff (s : State) : s.modeLaw ↔ s.modesFor fun _ => s.inputs.evacuating = true :=
  forall_congr' fun _ => and_assoc.symm

/-- Between two states nothing has changed that the law of the modes speaks of. -/
structure sameStance (s t : State) : Prop where
  stance : ∀ l, t.stance l = s.stance l
  evacuating : t.inputs.evacuating = s.inputs.evacuating

section
variable {s t u : State} {l m : LaneId} {called : LaneId → Prop}

theorem stance_congr (hlane : t.lane l = s.lane l) (hholds : t.inputs.releaseHolds = s.inputs.releaseHolds) :
    t.stance l = s.stance l := by
  unfold State.stance
  rw [hlane, hholds]

theorem setLane_stance_same (s : State) (l : LaneId) (x : Lane) :
    (s.setLane l x).stance l = ⟨x.setup, x.mode, x.remembered, s.inputs.releaseHolds[l]⟩ := by
  unfold State.stance
  rw [State.setLane_same, State.setLane_inputs]

theorem setLane_stance_other (s : State) (x : Lane) (hlm : l ≠ m) : (s.setLane l x).stance m = s.stance m :=
  stance_congr (State.setLane_other _ _ _ _ hlm) rfl

theorem setMode_stance_same (s : State) (l : LaneId) (m : LaneMode) :
    (s.setMode l m).stance l = { s.stance l with mode := m } := by
  unfold State.setMode
  dsimp only
  split
  · next hmode => rw [← hmode]; rfl
  · exact setLane_stance_same ..

theorem setMode_stance_other (s : State) (v : LaneMode) (hlm : l ≠ m) : (s.setMode l v).stance m = s.stance m := by
  unfold State.setMode
  dsimp only
  split
  · rfl
  · exact setLane_stance_other s _ hlm

theorem sameStance.refl (s : State) : sameStance s s := ⟨fun _ => rfl, rfl⟩

theorem sameStance.trans (h : sameStance s t) (g : sameStance t u) : sameStance s u :=
  ⟨fun m => (g.stance m).trans (h.stance m), g.evacuating.trans h.evacuating⟩

theorem sameStance_of_frame {L : List Block} (hf : unchangedBut L s t) (hL : Block.lanes ∉ L ∧ Block.inputs ∉ L) :
    sameStance s t := by
  have hlanes : t.lanes = s.lanes := hf.same (b := .lanes) hL.1
  have hinputs : t.inputs = s.inputs := hf.same (b := .inputs) hL.2
  exact ⟨fun m => stance_congr (by rw [State.lane, hlanes]; rfl) (by rw [hinputs]), by rw [hinputs]⟩

theorem sameStance_setLane {x : Lane} (hsetup : x.setup = (s.lane l).setup) (hmode : x.mode = (s.lane l).mode)
    (hremembered : x.remembered = (s.lane l).remembered) : sameStance s (s.setLane l x) := by
  refine ⟨fun m => ?_, rfl⟩
  by_cases hlm : l = m
  · subst hlm
    rw [setLane_stance_same, hsetup, hmode, hremembered]
    rfl
  · exact setLane_stance_other s x hlm

theorem sameStance_setInputs {x : InputSampler} (hevacuating : x.evacuating = s.inputs.evacuating)
    (hholds : x.releaseHolds = s.inputs.releaseHolds) : sameStance s (s.setInputs x) :=
  ⟨fun _ => stance_congr rfl hholds, hevacuating⟩

/-- What a part that the law does not speak of leaves of the state, after what has left it alone. -/
theorem sameStance.on_frame {L : List Block} (h : sameStance s t) (hf : unchangedBut L t u)
    (hL : Block.lanes ∉ L ∧ Block.inputs ∉ L) : sameStance s u := h.trans (sameStance_of_frame hf hL)

theorem sameStance.on_setLane {x : Lane} (h : sameStance s t) (hsetup : x.setup = (t.lane l).setup)
    (hmode : x.mode = (t.lane l).mode) (hremembered : x.remembered = (t.lane l).remembered) : sameStance s (t.setLane l x) :=
  h.trans (sameStance_setLane hsetup hmode hremembered)

theorem sameStance_ite {c : Prop} [Decidable c] (ht : sameStance s t) (hu : sameStance s u) :
    sameStance s (if c then t else u) := by
  split
  · exact ht
  · exact hu

theorem sameStance_foldl {ι : Type} {op : State → ι → State} (hop : ∀ v i, sameStance v (op v i)) (is : List ι) (s : State) :
    sameStance s (is.foldl op s) :=
  List.foldlRecOn (motive := sameStance s) is op (.refl s) fun v hv i _ => hv.trans (hop v i)

theorem sameStance.setup (h : sameStance s t) (l : LaneId) : (t.lane l).setup = (s.lane l).setup :=
  congrArg LaneStance.setup (h.stance l)

theorem sameStance.modesFor (h : sameStance s t) (hs : s.modesFor called) : t.modesFor called := fun l => by
  rw [h.stance l, inPair_congr h.setup]
  exact hs l

theorem sameStance.modeLaw (h : sameStance s t) (hs : s.modeLaw) : t.modeLaw := by
  rw [modeLaw_iff, h.evacuating]
  exact h.modesFor ((modeLaw_iff s).1 hs)

/-! ### A pair that has formed (R66, R161) -/

/-- What a lane's stance becomes as it is made fit for a pair (R66, R161). -/
def LaneStance.fit (x : LaneStance) : LaneStance :=
  { setup := x.setup
    mode := if x.mode = .free then .secure else x.mode
    remembered := if x.remembered = some .free then some .secure else x.remembered
    hold := if x.hold = some true then some false else x.hold }

/-- A value replaced where it is a barred one is no barred one. -/
theorem replaced_ne {α : Type} [DecidableEq α] {x barred other : α} (h : other ≠ barred) :
    (if x = barred then other else x) ≠ barred := by
  split
  · exact h
  · next hx => exact hx

theorem LaneStance.fit_fits (x : LaneStance) : x.fit.fits :=
  ⟨replaced_ne (by decide), replaced_ne (by decide), replaced_ne (by decide)⟩

theorem LaneStance.fit_answers {x : LaneStance} {c : Prop} (h : x.answers c) : x.fit.answers c := by
  obtain ⟨hmode, hremembered⟩ := h
  refine ⟨hmode.symm.trans ?_ |>.symm, hremembered.symm.trans ?_ |>.symm⟩
  · by_cases hfree : x.mode = .free <;> simp [LaneStance.fit, hfree]
  · by_cases hfree : x.remembered = some .free <;> simp [LaneStance.fit, hfree]

/-- A FREE lane takes SECURE as its mode. -/
def State.modeFitted (s : State) (l : LaneId) : State := if (s.lane l).mode = .free then s.setMode l .secure else s

/-- A lane that remembers FREE remembers SECURE. -/
def State.rememberedFitted (s : State) (l : LaneId) : State :=
  if (s.lane l).remembered = some .free then s.setLane l { s.lane l with remembered := some .secure } else s

/-- A release output held on is held off. -/
def State.holdFitted (s : State) (l : LaneId) : State :=
  if s.inputs.releaseHolds[l] = some true then
    s.setInputs { s.inputs with releaseHolds := putAt s.inputs.releaseHolds l (some false) }
  else s

theorem fitPairMember_eq (s : State) (l : LaneId) :
    s.fitPairMember l = ((s.modeFitted l).rememberedFitted l).holdFitted l := rfl

theorem fitPairMember_stance_same (s : State) (l : LaneId) : (s.fitPairMember l).stance l = (s.stance l).fit := by
  have hmode : (s.modeFitted l).stance l = { s.stance l with mode := (s.stance l).fit.mode } := by
    unfold State.modeFitted LaneStance.fit
    by_cases h : (s.lane l).mode = .free
    · rw [if_pos h, setMode_stance_same]
      simp only [if_pos (show (s.stance l).mode = .free from h)]
    · rw [if_neg h]
      simp only [if_neg (show ¬ (s.stance l).mode = .free from h)]
  have hremembered : ∀ v : State, (v.rememberedFitted l).stance l =
      { v.stance l with remembered := (v.stance l).fit.remembered } := fun v => by
    unfold State.rememberedFitted LaneStance.fit
    by_cases h : (v.lane l).remembered = some .free
    · rw [if_pos h, setLane_stance_same]
      simp only [if_pos (show (v.stance l).remembered = some .free from h)]
      rfl
    · rw [if_neg h]
      simp only [if_neg (show ¬ (v.stance l).remembered = some .free from h)]
  have hhold : ∀ v : State, (v.holdFitted l).stance l = { v.stance l with hold := (v.stance l).fit.hold } := fun v => by
    unfold State.holdFitted LaneStance.fit
    by_cases h : v.inputs.releaseHolds[l] = some true
    · rw [if_pos h]
      simp only [if_pos (show (v.stance l).hold = some true from h)]
      unfold State.stance
      rw [State.setInputs_inputs]
      simp only [Fin.getElem_fin, putAt_same]
      rfl
    · rw [if_neg h]
      simp only [if_neg (show ¬ (v.stance l).hold = some true from h)]
  rw [fitPairMember_eq, hhold, hremembered, hmode]
  rfl

theorem fitPairMember_stance_other (s : State) (hlm : l ≠ m) : (s.fitPairMember l).stance m = s.stance m := by
  have hmode : (s.modeFitted l).stance m = s.stance m := by
    unfold State.modeFitted
    split
    · exact setMode_stance_other s _ hlm
    · rfl
  have hremembered : ∀ v : State, (v.rememberedFitted l).stance m = v.stance m := fun v => by
    unfold State.rememberedFitted
    split
    · exact setLane_stance_other v _ hlm
    · rfl
  have hhold : ∀ v : State, (v.holdFitted l).stance m = v.stance m := fun v => by
    unfold State.holdFitted
    split
    · unfold State.stance
      rw [State.setInputs_inputs]
      simp only [Fin.getElem_fin, putAt_other _ _ _ _ hlm]
      rfl
    · rfl
  rw [fitPairMember_eq, hhold, hremembered, hmode]

theorem fitPair_setup (s : State) (l m : LaneId) : ((s.fitPair l).lane m).setup = (s.lane m).setup := by
  obtain ⟨hsetup, -⟩ := Lane.standing_eq_iff.1 ((sameStanding_fitPair s l).1 m)
  exact hsetup

theorem fitPair_of_partner {p : LaneId} (h : s.partnerOf l = some p) : s.fitPair l = (s.fitPairMember l).fitPairMember p := by
  unfold State.fitPair
  rw [h]

theorem fitPair_of_none (h : s.partnerOf l = none) : s.fitPair l = s := by
  unfold State.fitPair
  rw [h]

/-- As a pair is made fit each lane's stance is the one it had, or that one made fit. -/
theorem fitPair_stance (s : State) (l m : LaneId) :
    (s.fitPair l).stance m = (s.stance m).fit ∨ (s.fitPair l).stance m = s.stance m ∧ m ≠ l ∧ s.partnerOf l ≠ some m ∨
      s.partnerOf l = none ∧ s.fitPair l = s := by
  cases hp : s.partnerOf l with
  | none => exact .inr (.inr ⟨rfl, fitPair_of_none hp⟩)
  | some p =>
    obtain ⟨-, -, hpl⟩ := partnerOf_eq_some hp
    rw [fitPair_of_partner hp]
    by_cases hpm : p = m
    · subst hpm
      rw [fitPairMember_stance_same, fitPairMember_stance_other s (Ne.symm hpl)]
      exact .inl rfl
    · rw [fitPairMember_stance_other _ hpm]
      by_cases hlm : l = m
      · subst hlm
        exact .inl (fitPairMember_stance_same s l)
      · exact .inr (.inl ⟨fitPairMember_stance_other s hlm, Ne.symm hlm, fun h => hpm (Option.some.inj h)⟩)

end

end Sys2Proof.Machine
end

section
/-! ## A setup applied keeps the law of the modes (R65, R66, R84, R91, R161) -/
namespace Sys2Proof.Machine

section
variable {s t u : State} {l m : LaneId} {called : LaneId → Prop}

theorem placeSetup_stance_same (s : State) (l : LaneId) (x : LaneSetup) :
    (s.placeSetup l x).stance l = { s.stance l with setup := x } := by
  obtain ⟨hsetup, hmode, hremembered⟩ := placeSetup_lane_same s l x
  have hholds : (s.placeSetup l x).inputs.releaseHolds = s.inputs.releaseHolds := by
    unfold State.placeSetup
    split <;> rfl
  unfold State.stance
  rw [hsetup, hmode, hremembered, hholds]

theorem restoreMode_stance_same (h : (s.lane l).setup.kind = .unused) {a : AskMode} (ha : (s.lane l).remembered = some a) :
    (s.restoreMode l).stance l = { s.stance l with mode := a.toLaneMode, remembered := none } := by
  have hunpaired : s.inPair l = false := by
    unfold State.inPair State.partnerOf
    split
    · rfl
    · rw [if_neg fun hpair => by rw [h] at hpair; cases hpair.1]; rfl
  have hbar : s.barFree l a = a := if_neg fun hc => by rw [hunpaired] at hc; cases hc.2
  unfold State.restoreMode
  rw [ha]
  dsimp only
  rw [hbar, setLane_stance_same]
  have hset := setMode_stance_same s l a.toLaneMode
  exact congrArg (fun x : LaneStance => { x with remembered := none }) hset

/-- A lane whose setup is placed answers to the evacuation as its new kind asks, and keeps its setup so placed (R66, R91). -/
theorem kindPlaced_stance_same (h : (s.stance l).answers (called l)) (hl : s.inputs.evacuating = true ↔ called l)
    (x : LaneSetup) : ((s.kindPlaced l x).stance l).setup = x ∧ ((s.kindPlaced l x).stance l).answers (called l) := by
  obtain ⟨hmode, hremembered⟩ := h
  have hplaced := placeSetup_stance_same s l x
  have hevacuating : (s.placeSetup l x).inputs.evacuating = s.inputs.evacuating := by
    obtain ⟨-, hkept, -⟩ := InputSampler.standing_eq_iff.1 (placeSetup_inputs s l x)
    exact hkept
  unfold State.kindPlaced State.kindInEvacuation
  rw [hevacuating]
  by_cases hcalled : s.inputs.evacuating = true
  · rw [if_pos hcalled]
    by_cases hbegins : (s.lane l).setup.kind = .unused ∧ x.kind ≠ .unused
    · rw [if_pos hbegins, State.enterEgress, setLane_stance_same]
      exact ⟨congrArg LaneStance.setup hplaced, by
        have hsetup : ((s.placeSetup l x).lane l).setup = x := congrArg LaneStance.setup hplaced
        simp [LaneStance.answers, hsetup, hbegins.2, hl.1 hcalled]⟩
    · rw [if_neg hbegins]
      by_cases hends : (s.lane l).setup.kind ≠ .unused ∧ x.kind = .unused
      · rw [if_pos hends]
        obtain ⟨a, ha⟩ := Option.isSome_iff_exists.1 (hremembered.2 ⟨hl.1 hcalled, hends.1⟩)
        have hsetup : ((s.placeSetup l x).lane l).setup = x := congrArg LaneStance.setup hplaced
        have hkept : ((s.placeSetup l x).lane l).remembered = some a := (congrArg LaneStance.remembered hplaced).trans ha
        rw [restoreMode_stance_same (by rw [hsetup, hends.2]) hkept, hplaced]
        exact ⟨rfl, by simp [LaneStance.answers, hends.2, AskMode.toLaneMode_ne_egress]⟩
      · rw [if_neg hends, hplaced]
        have hsame : x.kind ≠ .unused ↔ (s.lane l).setup.kind ≠ .unused := by
          constructor
          · exact fun hx hs => hbegins ⟨hs, hx⟩
          · exact fun hs hx => hends ⟨hs, hx⟩
        exact ⟨rfl, hmode.trans (and_congr_right fun _ => hsame.symm), hremembered.trans (and_congr_right fun _ => hsame.symm)⟩
  · rw [if_neg hcalled, hplaced]
    have hnot : ¬ called l := mt hl.2 hcalled
    exact ⟨rfl, hmode.trans (by simp [hnot]), hremembered.trans (by simp [hnot])⟩

theorem kindPlaced_inputs (s : State) (l : LaneId) (x : LaneSetup) :
    (s.kindPlaced l x).inputs.releaseHolds = s.inputs.releaseHolds := by
  have hplaced : (s.placeSetup l x).inputs.releaseHolds = s.inputs.releaseHolds := by
    unfold State.placeSetup
    split <;> rfl
  rw [← hplaced]
  exact congrArg InputSampler.releaseHolds
    ((frame_kindInEvacuation (L := [.lanes]) l _ _ (.refl _ _) (by decide)).same (b := .inputs) (by decide))

theorem kindPlaced_stance_other (x : LaneSetup) (hlm : l ≠ m) : (s.kindPlaced l x).stance m = s.stance m :=
  stance_congr (kindPlaced_lane_other x hlm) (kindPlaced_inputs s l x)

/-- A pair of two lanes other than one whose setup is placed is a pair as before. -/
theorem partnerOf_of_lanes {p : LaneId} (hl : (t.lane l).setup = (s.lane l).setup) (h : t.partnerOf l = some p)
    (hp : (t.lane p).setup = (s.lane p).setup) : s.partnerOf l = some p := by
  unfold State.partnerOf at h ⊢
  rw [hl] at h
  split at h
  · cases h
  · split at h
    · next hpair =>
      cases h
      rw [hp] at hpair
      exact if_pos hpair
    · cases h

/-- What follows for the pair, the dead times and the heads keeps the law, where every lane answers and every pair but the lane's
own is fit (R66, R84, R161). -/
theorem fitPair_modesFor (hanswers : ∀ m, (s.stance m).answers (called m))
    (hfits : ∀ m, m ≠ l → s.partnerOf l ≠ some m → s.inPair m = true → (s.stance m).fits) : (s.fitPair l).modesFor called := by
  intro m
  rw [inPair_congr (fitPair_setup s l)]
  rcases fitPair_stance s l m with hfit | ⟨hsame, hml, hpartner⟩ | ⟨hnone, hsame⟩
  · rw [hfit]
    exact ⟨LaneStance.fit_answers (hanswers m), fun _ => (s.stance m).fit_fits⟩
  · rw [hsame]
    exact ⟨hanswers m, hfits m hml hpartner⟩
  · rw [hsame]
    refine ⟨hanswers m, fun hpair => hfits m (fun hml => ?_) (by rw [hnone]; nofun) hpair⟩
    subst hml
    rw [State.inPair, hnone] at hpair
    cases hpair

theorem sameStance_keepDead (was s : State) (l : LaneId) : sameStance s (State.keepDead was s l) := sameStance_setLane rfl rfl rfl

theorem sameStance_dropIfLeft (s : State) (before : Bool) (i : Head) : sameStance s (s.dropIfLeft before i) :=
  sameStance_of_frame (frame_dropIfLeft (L := [.punch]) before i (.refl _ _) (by decide)) (by decide)

theorem sameStance_from_fitPair (s : State) (l : LaneId) (x : LaneSetup) :
    sameStance ((s.kindPlaced l x).fitPair l) (s.applySetup l x) :=
  (sameStance_foldl (sameStance_keepDead s) _ _).trans ((sameStance_dropIfLeft _ _ _).trans (sameStance_dropIfLeft _ _ _))

/-- A setup applied keeps the law of the modes: its lane answers by its new kind, and a pair it forms is made fit (R66, R91). -/
theorem applySetup_modesFor (h : s.modesFor called) (hl : s.inputs.evacuating = true ↔ called l) (x : LaneSetup) :
    (s.applySetup l x).modesFor called := by
  refine (sameStance_from_fitPair s l x).modesFor (fitPair_modesFor (fun m => ?_) fun m hml hpartner hpair => ?_)
  · by_cases hlm : l = m
    · subst hlm
      exact (kindPlaced_stance_same (h l).1 hl x).2
    · rw [kindPlaced_stance_other x hlm]
      exact (h m).1
  · rw [kindPlaced_stance_other x (Ne.symm hml)]
    refine (h m).2 ?_
    obtain ⟨p, hp⟩ := Option.isSome_iff_exists.1 hpair
    have hpl : l ≠ p := fun hlp => by
      subst hlp
      obtain ⟨-, hback, -⟩ := partnerOf_eq_some hp
      exact hpartner hback
    have hkept : ∀ n, l ≠ n → ((s.kindPlaced l x).lane n).setup = (s.lane n).setup := fun n hn => by
      rw [kindPlaced_lane_other x hn]
    rw [State.inPair, partnerOf_of_lanes (hkept m (Ne.symm hml)) hp (hkept p hpl)]
    rfl

theorem applySetup_evacuating (s : State) (l : LaneId) (x : LaneSetup) :
    (s.applySetup l x).inputs.evacuating = s.inputs.evacuating := by
  obtain ⟨-, hkept, -⟩ := InputSampler.standing_eq_iff.1 (applySetup_inputs s l x)
  exact hkept

theorem becomeIdle_evacuating (s : State) (l : LaneId) : (s.becomeIdle l).inputs.evacuating = s.inputs.evacuating := by
  obtain ⟨-, hkept, -⟩ := InputSampler.standing_eq_iff.1 (becomeIdle_inputs s l)
  exact hkept

theorem becomeIdle_modesFor (h : s.modesFor called) (hl : s.inputs.evacuating = true ↔ called l) :
    (s.becomeIdle l).modesFor called := by
  have hidled : sameStance s (s.idled l) := sameStance_setLane rfl rfl rfl
  cases hp : (s.lane l).pendingSetup with
  | none =>
    rw [becomeIdle_of_no_pending hp]
    exact hidled.modesFor h
  | some x =>
    rw [becomeIdle_of_pending hp]
    exact applySetup_modesFor (hidled.modesFor h) hl x

/-! ### The law itself -/

theorem applySetup_modeLaw (h : s.modeLaw) (l : LaneId) (x : LaneSetup) : (s.applySetup l x).modeLaw := by
  rw [modeLaw_iff, applySetup_evacuating]
  exact applySetup_modesFor ((modeLaw_iff s).1 h) Iff.rfl x

theorem becomeIdle_modeLaw (h : s.modeLaw) (l : LaneId) : (s.becomeIdle l).modeLaw := by
  rw [modeLaw_iff, becomeIdle_evacuating]
  exact becomeIdle_modesFor ((modeLaw_iff s).1 h) Iff.rfl

end

end Sys2Proof.Machine
end

section
/-! ## The course of a grant, mode requests and evacuations keep the law of the modes (R53, R57–R62, R69, R72–R87, R91, R162–R165) -/
namespace Sys2Proof.Machine

section
variable {s t u : State} {l m : LaneId} {called : LaneId → Prop}

/-! ### Grants (R53, R72, R73, R85, R86) -/

theorem sameStance_releaseGrant (s : State) (l : LaneId) (g : Grant) : sameStance s (s.releaseGrant l g) := by
  unfold State.releaseGrant
  refine sameStance.on_frame (L := [.punch]) ?_ (tellReleased_frame _ l) (by decide)
  exact sameStance_setLane rfl rfl rfl

theorem sameStance_holdGrant (s : State) (l : LaneId) (g : Grant) : sameStance s (s.holdGrant l g) := by
  unfold State.holdGrant
  refine sameStance.on_frame (L := [.punch]) ?_ (frame_tellWaiting l (.refl _ _) (by decide)) (by decide)
  exact sameStance_setLane rfl rfl rfl

theorem sameStance_lookOnce (s : State) (l p : LaneId) : sameStance s (s.lookOnce l p) := by
  unfold State.lookOnce
  split
  · exact .refl s
  · split
    · exact .refl s
    · exact sameStance_releaseGrant ..

theorem sameStance_look (s : State) (l : LaneId) : sameStance s (s.look l) := by
  unfold State.look
  split
  · exact .refl s
  · split
    · exact .refl s
    · exact (sameStance_lookOnce ..).trans (sameStance_lookOnce ..)

theorem sameStance_lookAtEntry (s : State) (l : LaneId) : sameStance s (s.lookAtEntry l) := by
  unfold State.lookAtEntry State.lookAtPartner
  split
  · exact .refl s
  · split
    · exact .refl s
    · exact sameStance_ite ((sameStance_releaseGrant ..).trans (sameStance_lookOnce ..)) (.refl s)

theorem sameStance_takeGrant (s : State) (l : LaneId) (g : Grant) : sameStance s (s.takeGrant l g) :=
  sameStance_ite ((sameStance_holdGrant s l g).trans (sameStance_lookAtEntry _ l)) (sameStance_releaseGrant s l g)

theorem sameStance_retakeLevels (s : State) : sameStance s s.retakeLevels :=
  ⟨fun l => by
    have hlane := retakeLevels_lane s l
    unfold State.stance
    rw [hlane, retakeLevels_releaseHolds], retakeLevels_evacuating s⟩

theorem sameStance_settle (s : State) : sameStance s s.settle :=
  settle_induction (P := sameStance s) (fun v l g hv => hv.trans (sameStance_releaseGrant v l g))
    (fun v hv => hv.trans (sameStance_retakeLevels v)) (.refl s)

theorem endGrant_modeLaw (h : s.modeLaw) (l : LaneId) (how : GrantEnd) : (s.endGrant l how).modeLaw :=
  becomeIdle_modeLaw ((sameStance_of_frame (frame_noticeEnd (L := [.roster, .records, .punch, .spool, .link]) l how (.refl _ _)
    (by decide) (by decide) (by decide) (by decide) (by decide)) (by decide)).modeLaw h) l

theorem modeLaw_of_notice (v w : State) (hf : unchangedBut noticeBlocks v w) (h : v.modeLaw) : w.modeLaw :=
  (sameStance_of_frame hf (by decide)).modeLaw h

theorem voidGrant_modeLaw (h : s.modeLaw) (cause : VoidCause) (l : LaneId) : (State.voidGrant cause s l).modeLaw :=
  voidGrant_keeps modeLaw_of_notice (fun _ m hv => becomeIdle_modeLaw hv m) h cause l

theorem cancelWait_modeLaw (h : s.modeLaw) (withEnd : Bool) (l : LaneId) : (State.cancelWait withEnd s l).modeLaw := by
  cases withEnd with
  | true => exact cancelWait_keeps modeLaw_of_notice (fun _ m hv => becomeIdle_modeLaw hv m) h l
  | false =>
    exact cancelWait_induction l (fun v hv => (sameStance_of_frame
      (frame_setPunch (L := [.punch]) _ (.refl _ v) (by decide)) (by decide)).modeLaw hv)
      (fun _ hv => becomeIdle_modeLaw hv l) h

theorem foldl_modeLaw {ι : Type} {op : State → ι → State} (hop : ∀ v i, v.modeLaw → (op v i).modeLaw) (is : List ι)
    (h : s.modeLaw) : (is.foldl op s).modeLaw :=
  List.foldlRecOn (motive := State.modeLaw) is op h fun v hv i _ => hop v i hv

theorem ite_modeLaw {c : Prop} [Decidable c] (ht : t.modeLaw) (hu : u.modeLaw) : (if c then t else u).modeLaw := by
  split
  · exact ht
  · exact hu

theorem dite_modeLaw {c : Prop} [Decidable c] (ht : c → t.modeLaw) (hu : ¬ c → u.modeLaw) : (if c then t else u).modeLaw := by
  split
  · next hc => exact ht hc
  · next hc => exact hu hc

/-! ### One lane's modes written (R69, R91) -/

/-- One lane's stance is written, its setup kept. -/
theorem modesFor_at (h : s.modesFor called) (hother : ∀ m, l ≠ m → t.stance m = s.stance m)
    (hsetup : (t.stance l).setup = (s.stance l).setup) (hanswers : (t.stance l).answers (called l))
    (hfits : s.inPair l = true → (s.stance l).fits → (t.stance l).fits) : t.modesFor called := by
  intro m
  have hsetups : ∀ n, (t.lane n).setup = (s.lane n).setup := fun n => by
    by_cases hln : l = n
    · exact hln ▸ hsetup
    · exact congrArg LaneStance.setup (hother n hln)
  rw [inPair_congr hsetups]
  by_cases hlm : l = m
  · subst hlm
    exact ⟨hanswers, fun hpair => hfits hpair ((h l).2 hpair)⟩
  · rw [hother m hlm]
    exact h m

theorem barFree_ne_free (s : State) {l : LaneId} (h : s.inPair l = true) (a : AskMode) : s.barFree l a ≠ .free := by
  unfold State.barFree
  split_ifs with hfree
  · decide
  · exact fun ha => hfree ⟨ha, h⟩

theorem AskMode.toLaneMode_ne_free {a : AskMode} (h : a ≠ .free) : a.toLaneMode ≠ .free := by
  cases a with
  | free => exact absurd rfl h
  | secure => decide
  | locked => decide

/-- A mode asked of a lane keeps the law: a lane in EGRESS remembers it, and FREE is SECURE at a member of a pair (R69). -/
theorem askMode_modeLaw (h : s.modeLaw) (a : AskMode) (l : LaneId) : (s.askMode a l).modeLaw := by
  rw [modeLaw_iff] at h
  obtain ⟨hmode, hremembered⟩ := (h l).1
  unfold State.askMode
  split
  · next hremembers =>
    rw [modeLaw_iff]
    refine modesFor_at h (fun m hlm => setLane_stance_other s _ hlm) (by rw [setLane_stance_same]; rfl) ?_ fun hpair hfits => ?_
    · rw [setLane_stance_same]
      exact ⟨hmode, iff_of_true rfl hremembers⟩
    · rw [setLane_stance_same]
      exact ⟨hfits.1, fun hc => barFree_ne_free s hpair a (Option.some.inj hc), hfits.2.2⟩
  · next hforgets =>
    rw [modeLaw_iff, show (s.setMode l (s.barFree l a).toLaneMode).inputs = s.inputs from
      (frame_setMode (L := [.lanes]) l _ (.refl _ _) (by decide)).same (b := .inputs) (by decide)]
    refine modesFor_at h (fun m hlm => setMode_stance_other s _ hlm) (by rw [setMode_stance_same]) ?_ fun hpair hfits => ?_
    · rw [setMode_stance_same]
      exact ⟨iff_of_false (AskMode.toLaneMode_ne_egress _) hforgets, hremembered⟩
    · rw [setMode_stance_same]
      exact ⟨AskMode.toLaneMode_ne_free (barFree_ne_free s hpair a), hfits.2⟩

theorem askModes_modeLaw (h : s.modeLaw) (set : LaneSet) (a : AskMode) : (s.askModes set a).modeLaw :=
  foldl_modeLaw (fun _ l hv => ite_modeLaw (askMode_modeLaw hv a l) hv) allLanes h

/-! ### The start of an evacuation (R91, R162) -/

/-- Where no evacuation is on, none has called a lane yet. -/
theorem modesFor_of_normal (h : s.modeLaw) (hnormal : s.inputs.evacuating = false) : s.modesFor fun _ => False := by
  rw [modeLaw_iff, hnormal] at h
  exact fun l => by simpa using h l

/-- A lane that an evacuation reaches enters EGRESS where it is used, and every other stands as it did (R91). -/
theorem enterEgress_modesFor (h : s.modesFor called) (hkind : (s.lane l).setup.kind ≠ .unused) :
    (s.enterEgress l).modesFor fun m => called m ∨ m = l := by
  intro m
  have hsetups : ∀ n, ((s.enterEgress l).lane n).setup = (s.lane n).setup := setLane_setup rfl
  rw [inPair_congr hsetups]
  by_cases hlm : l = m
  · subst hlm
    have hstance : (s.enterEgress l).stance l =
        { s.stance l with mode := .egress, remembered := some (s.lane l).mode.toAsk } := setLane_stance_same ..
    rw [hstance]
    refine ⟨⟨iff_of_true rfl ⟨.inr rfl, hkind⟩, iff_of_true rfl ⟨.inr rfl, hkind⟩⟩, fun hpair => ?_⟩
    obtain ⟨hmode, -, hhold⟩ := (h l).2 hpair
    exact ⟨nofun, fun hc => hmode (LaneMode.toAsk_free (Option.some.inj hc)), hhold⟩
  · rw [show (s.enterEgress l).stance m = s.stance m from setLane_stance_other s _ hlm]
    simpa only [Ne.symm hlm, or_false] using h m

theorem unused_modesFor (h : s.modesFor called) (hkind : (s.lane l).setup.kind = .unused) :
    s.modesFor fun m => called m ∨ m = l := by
  intro m
  by_cases hlm : l = m
  · subst hlm
    have hunused : (s.stance l).setup.kind = .unused := hkind
    simpa [LaneStance.answers, hunused] using h l
  · simpa only [Ne.symm hlm, or_false] using h m

theorem egressLane_modesFor (h : s.modesFor called) (hevacuating : s.inputs.evacuating = true) (l : LaneId) :
    (s.egressLane l).modesFor (fun m => called m ∨ m = l) ∧ (s.egressLane l).inputs.evacuating = true := by
  by_cases hkind : (s.lane l).setup.kind = .unused
  · rw [egressLane_unused hkind]
    exact ⟨unused_modesFor h hkind, hevacuating⟩
  · rw [egressLane_used hkind]
    refine voidGrant_induction (P := fun v => v.modesFor (fun m => called m ∨ m = l) ∧ v.inputs.evacuating = true) .evacuation l
      (fun v hv => ?_) (fun v hv => ?_) (fun v hv => ?_) ⟨enterEgress_modesFor h hkind, hevacuating⟩
    · have hsame := sameStance_of_frame (voidTold_frame v l .evacuation) (by decide)
      exact ⟨hsame.modesFor hv.1, hsame.evacuating.trans hv.2⟩
    · have hsame := sameStance_of_frame (dropHanded_frame v l) (by decide)
      exact ⟨hsame.modesFor hv.1, hsame.evacuating.trans hv.2⟩
    · exact ⟨becomeIdle_modesFor hv.1 (iff_of_true hv.2 (.inr rfl)), (becomeIdle_evacuating v l).trans hv.2⟩

theorem egressLanes_modesFor (ls : List LaneId) (h : s.modesFor called) (hevacuating : s.inputs.evacuating = true) :
    (ls.foldl State.egressLane s).modesFor (fun m => called m ∨ m ∈ ls) ∧
      (ls.foldl State.egressLane s).inputs.evacuating = true := by
  induction ls generalizing s called with
  | nil => exact ⟨by simpa using h, hevacuating⟩
  | cons l rest ih =>
    obtain ⟨hstep, hkept⟩ := egressLane_modesFor h hevacuating l
    rw [List.foldl_cons]
    simpa only [List.mem_cons, or_assoc] using ih hstep hkept

/-- The start of an evacuation keeps the law of the modes: it calls the lanes one after the other (R91, R162). -/
theorem startEvacuation_modeLaw (h : s.modeLaw) (hnormal : s.inputs.evacuating = false) (k : WatchId) (levels : InputSet) :
    (s.startEvacuation k levels).modeLaw := by
  have hnone := modesFor_of_normal h hnormal
  have hcalled : (s.called k).modesFor fun _ => False := fun l => hnone l
  obtain ⟨hmodes, hevacuating⟩ := egressLanes_modesFor allLanes hcalled rfl
  have hall : (fun m : LaneId => False ∨ m ∈ allLanes) = fun _ => true = true := funext fun m => by simp [mem_allLanes m]
  have hegressed : (allLanes.foldl State.egressLane (s.called k)).modeLaw := by
    rw [modeLaw_iff, hevacuating, ← hall]
    exact hmodes
  exact startEvacuation_keeps modeLaw_of_notice (fun _ m hv => becomeIdle_modeLaw hv m) hegressed

/-! ### The end of an evacuation (R91, R164, R165) -/

theorem endEvacuation_holds (s : State) : s.endEvacuation.inputs.releaseHolds = s.inputs.releaseHolds := by
  rw [endEvacuation_inputs]

theorem endEvacuation_setup (s : State) (l : LaneId) : (s.endEvacuation.lane l).setup = (s.lane l).setup := by
  rw [endEvacuation_lane, Lane.restored_setup]

/-- The modes of a lane once an evacuation has ended (R91). -/
theorem endEvacuation_modes (h : s.modeLaw) (l : LaneId) : (s.endEvacuation.lane l).remembered = none ∧
    (s.endEvacuation.lane l).mode ≠ .egress ∧
    ((s.lane l).remembered = none → (s.endEvacuation.lane l).mode = (s.lane l).mode) ∧
    ∀ a, (s.lane l).remembered = some a → (s.endEvacuation.lane l).mode = (s.barFree l a).toLaneMode := by
  obtain ⟨hegress, hremembers, -⟩ := h l
  rw [endEvacuation_lane]
  cases hremembered : (s.lane l).remembered with
  | none =>
    rw [Lane.restored_of_none _ _ hremembered]
    refine ⟨hremembered, fun hmode => ?_, fun _ => rfl, nofun⟩
    have hsome := hremembers.2 (hegress.1 hmode)
    rw [hremembered] at hsome
    cases hsome
  | some a =>
    have hmode : (s.lane l).mode = .egress := hegress.2 (hremembers.1 (by rw [hremembered]; rfl))
    rw [Lane.restored_of_some _ _ hremembered hmode]
    refine ⟨rfl, AskMode.toLaneMode_ne_egress _, nofun, fun b hb => ?_⟩
    cases hb
    rfl

theorem endEvacuation_modeLaw (h : s.modeLaw) : s.endEvacuation.modeLaw := by
  intro l
  obtain ⟨hforgotten, hmode, hkept, htaken⟩ := endEvacuation_modes h l
  have hnormal : s.endEvacuation.inputs.evacuating = false := by rw [endEvacuation_inputs]
  rw [hforgotten, hnormal, inPair_congr (endEvacuation_setup s), endEvacuation_holds]
  refine ⟨iff_of_false hmode nofun, iff_of_false nofun nofun, fun hpair => ⟨?_, nofun, ((h l).2.2 hpair).2.2⟩⟩
  cases hremembered : (s.lane l).remembered with
  | none =>
    rw [hkept hremembered]
    exact ((h l).2.2 hpair).1
  | some a =>
    rw [htaken a hremembered]
    exact AskMode.toLaneMode_ne_free (barFree_ne_free s hpair a)

/-! ### A firing (R142, R158, R159) -/

theorem performAction_modeLaw (h : s.modeLaw) (k : WatchId) (levels : InputSet) (a : WatchAction)
    (hstart : a = .evacuate → s.inputs.evacuating = false) : (s.performAction k levels a).modeLaw := by
  cases a with
  | alarm => exact h
  | evacuate => exact startEvacuation_modeLaw h (hstart rfl) k levels
  | lanes set mode => exact askModes_modeLaw h set mode
  | bell index => exact (sameStance_of_frame (watchBell_frame s index) (by decide)).modeLaw h

theorem fireWatch_modeLaw (h : s.modeLaw) (k : WatchId) : (s.fireWatch k).modeLaw := by
  have hcaptured : sameStance s (s.setInputs { s.inputs with
      captures := putAt s.inputs.captures k (some ⟨s.generalLevels, s.now⟩) }) := sameStance_setInputs rfl rfl
  have hentered := hcaptured.on_frame (L := entryBlocks) (frame_systemEvent s.now (.watch k s.generalLevels (s.watch k).action)
    (.refl _ _) (by decide) (by decide)) (by decide)
  unfold State.fireWatch
  refine dite_modeLaw (fun _ => hcaptured.modeLaw h) fun hacts =>
    performAction_modeLaw (hentered.modeLaw h) _ _ _ fun haction => ?_
  rw [hentered.evacuating]
  exact Bool.eq_false_iff.2 fun hevacuating => hacts ⟨haction, hevacuating⟩

/-! ### Punches (R42–R61) -/

theorem sameStance_commit (s : State) (l : LaneId) (p : HandedPunch) : sameStance s (s.commit l p) :=
  sameStance_of_frame (frame_commit (L := [.roster, .records, .spool, .link]) l p (.refl _ _)
    (by decide) (by decide) (by decide) (by decide)) (by decide)

theorem sameStance_queueVerdict (s : State) (i : Head) (v : Verdict) : sameStance s (s.queueVerdict i v) :=
  sameStance_of_frame (queueVerdict_frame s i v) (by decide)

theorem sameStance_grantPunch (s : State) (p : HandedPunch) : sameStance s (s.grantPunch p).1 := by
  unfold State.grantPunch
  dsimp only
  split
  · exact (sameStance_queueVerdict ..).trans (sameStance_commit ..)
  · refine .trans (sameStance_of_frame (L := [.roster, .records, .punch, .spool, .link]) ?_ (by decide)) (sameStance_takeGrant ..)
    exact frame_setHanded _ _ (frame_setMark _ _ (.refl _ _) (by decide) (by decide) (by decide) (by decide)) (by decide)

theorem sameStance_applyMiss (s : State) (p : PunchRead) : sameStance s (s.applyMiss p).1 := by
  unfold State.applyMiss
  split
  · exact sameStance_queueVerdict ..
  · exact sameStance_grantPunch ..

theorem sameStance_startReferral (s : State) (p : PunchRead) : sameStance s (s.startReferral p).1 := by
  unfold State.startReferral
  dsimp only
  refine sameStance.on_frame (L := [.punch, .link]) (sameStance.on_setLane (sameStance_of_frame (L := [.punch])
    (frame_setPunch _ (.refl _ _) (by decide)) (by decide)) ?_ ?_ ?_)
    (frame_sendReport _ (frame_queueVerdict _ _ (.refl _ _) (by decide)) (by decide)) (by decide)
  all_goals rfl

theorem sameStance_missed (s : State) (p : PunchRead) : sameStance s (s.missed p).1 := by
  unfold State.missed
  split
  · exact sameStance_startReferral ..
  · exact sameStance_applyMiss ..

theorem sameStance_judgeClassified (s : State) (p : PunchRead) (a : Nat) (c : Classified) :
    sameStance s (s.judgeClassified p a c).1 := by
  unfold State.judgeClassified
  dsimp only
  split
  · exact sameStance_queueVerdict ..
  · split
    · exact sameStance_queueVerdict ..
    · exact sameStance_grantPunch ..
    · exact sameStance_grantPunch ..

theorem sameStance_judgeSlot (s : State) (p : PunchRead) (a : Nat) : sameStance s (s.judgeSlot p a).1 := by
  have hraised : ∀ yes, sameStance s (s.raiseUnrecorded a yes) := fun yes =>
    sameStance_of_frame (L := [.roster, .records, .spool, .link])
      (frame_raiseUnrecorded a yes (.refl _ _) (by decide) (by decide) (by decide) (by decide)) (by decide)
  unfold State.judgeSlot
  dsimp only
  generalize (match (s.slot a).mark with | none => false | some m => decide (m ≠ p.head.lane)) = inUse
  split_ifs
  · exact sameStance_queueVerdict ..
  · exact sameStance_queueVerdict ..
  · exact (hraised _).trans (sameStance_judgeClassified ..)
  · exact sameStance_queueVerdict ..

theorem sameStance_lookup (s : State) (badge : Nat) : sameStance s (s.lookup badge).1 :=
  sameStance_of_frame (L := [.roster, .records, .spool, .link])
    (frame_lookup badge (.refl _ _) (by decide) (by decide) (by decide) (by decide)) (by decide)

theorem sameStance_judge (s : State) (p : PunchRead) : sameStance s (s.judge p).1 := by
  unfold State.judge
  dsimp only
  split_ifs
  · exact sameStance_queueVerdict ..
  · exact sameStance_queueVerdict ..
  · exact sameStance_queueVerdict ..
  · exact sameStance_queueVerdict ..
  · split
    · exact (sameStance_lookup ..).trans (sameStance_missed ..)
    · exact (sameStance_lookup ..).trans (sameStance_judgeSlot ..)

theorem sameStance_leaveWait (s : State) (l : LaneId) : sameStance s (s.leaveWait l) :=
  (sameStance_of_frame (L := [.punch]) (frame_setPunch _ (.refl _ _) (by decide)) (by decide)).on_setLane rfl rfl rfl

theorem settleIdle_modeLaw (h : s.modeLaw) (l : LaneId) : (s.settleIdle l).modeLaw := ite_modeLaw (becomeIdle_modeLaw h l) h

theorem sameStance_ruleOn (s : State) (w : ReferralWait) (d : Decision) (fields : Option EnrolFields) :
    sameStance s (s.ruleOn w d fields).1.1 := by
  have henrol : ∀ badge f, sameStance s (s.enrol badge f).1 := fun badge f =>
    sameStance_of_frame (L := [.roster, .records, .spool, .link])
      (frame_enrol badge f (.refl _ _) (by decide) (by decide) (by decide) (by decide)) (by decide)
  cases d with
  | deny => exact sameStance_queueVerdict ..
  | allow =>
    cases fields with
    | some f =>
      have hdone := henrol w.badge f
      unfold State.ruleOn
      dsimp only
      generalize s.enrol w.badge f = r at hdone
      obtain ⟨v, answer⟩ := r
      cases answer with
      | done a => exact hdone.trans (sameStance_judgeSlot v _ a)
      | duplicate a => exact hdone.trans (sameStance_judgeSlot v _ a)
      | full => exact hdone.trans (sameStance_grantPunch v _)
    | none =>
      have hdone := sameStance_lookup s w.badge
      unfold State.ruleOn
      dsimp only
      generalize s.lookup w.badge = r at hdone
      obtain ⟨v, found⟩ := r
      cases found with
      | some a => exact hdone.trans (sameStance_judgeSlot v _ a)
      | none => exact hdone.trans (sameStance_grantPunch v _)

end

end Sys2Proof.Machine
end

section
/-! ## Commands that touch no lane, no output and no supply -/
namespace Sys2Proof.Machine

/-- The parts of the state that neither the levels of the outputs nor the modes of the lanes turn on. -/
def offOutputs : List Block := [.time, .roster, .records, .punch, .banks, .spool, .link, .setup, .notices]

/-- Nothing has changed that the levels of the outputs or the modes of the lanes turn on. -/
def quiet (s t : State) : Prop := unchangedBut offOutputs s t

/-- Whatever state a command answers, nothing has changed that the outputs or the modes turn on. -/
def quietNext (s : State) (o : Host.Outcome State Fault Refusal) : Prop := ∀ t, o = .next t → quiet s t

section
variable {s t u : State}

theorem quiet.refl (s : State) : quiet s s := unchangedBut.refl _ s

theorem quietNext_next (h : quiet s t) : quietNext s (.next t) := by
  rintro u ⟨⟩
  exact h

theorem quietNext_whileRunning {act : State → State} (h : quiet s (act s)) : quietNext s (whileRunning s act) := by
  unfold whileRunning
  split
  · exact quietNext_next h
  · exact quietNext_next (.refl s)

theorem quiet_ite {c : Prop} [Decidable c] (ht : quiet s t) (hu : quiet s u) : quiet s (if c then t else u) := by
  split
  · exact ht
  · exact hu

theorem quiet_answer (order : Instr) (code : ReplyCode) (body : ReplyBody) (h : quiet s t) : quiet s (t.answer order code body) :=
  frame_answer order code body h (by decide)

theorem quiet_refuse (order : Instr) (code : ReplyCode) (h : quiet s t) : quiet s (t.refuse order code) :=
  quiet_answer order code .none h

theorem quiet_setTime (x : TimeBase) (h : quiet s t) : quiet s (t.setTime x) := frame_setTime x h (by decide)

theorem quiet_setPunch (x : PunchUnit) (h : quiet s t) : quiet s (t.setPunch x) := frame_setPunch x h (by decide)

theorem quiet_setBanks (x : BankStore) (h : quiet s t) : quiet s (t.setBanks x) := frame_setBanks x h (by decide)

theorem quiet_setLink (x : Link) (h : quiet s t) : quiet s (t.setLink x) := frame_setLink x h (by decide)

theorem quiet_systemEvent (stamp : Option Stamp) (cause : SystemCause) (h : quiet s t) : quiet s (t.systemEvent stamp cause) :=
  frame_systemEvent stamp cause h (by decide) (by decide)

theorem quiet_reach (e : Elapsed) (h : quiet s t) : quiet s (t.reach e) :=
  frame_reach e h (by decide) (by decide) (by decide) (by decide)

theorem quiet_dropNotice (r : Receiver) (h : quiet s t) : quiet s (t.dropNotice r) := frame_dropNotice r h (by decide)

theorem quiet_closeDue (b : Stamp) (h : quiet s t) : quiet s (t.closeDue b) :=
  frame_closeDue b h (by decide) (by decide) (by decide) (by decide)

theorem quiet_switchIfReached (b : Stamp) (h : quiet s t) : quiet s (t.switchIfReached b) :=
  frame_switchIfReached b h (by decide) (by decide) (by decide) (by decide)

theorem quiet_lookup (badge : Nat) (h : quiet s t) : quiet s (t.lookup badge).1 :=
  frame_lookup badge h (by decide) (by decide) (by decide) (by decide)

theorem quiet_setSlot (a : Nat) (x : Slot) (h : quiet s t) : quiet s (t.setSlot a x) := frame_setSlot a x h (by decide)

theorem quiet_endPoll (h : quiet s t) : quiet s t.endPoll := frame_endPoll h (by decide)

theorem quiet_countAnswer (i : Head) (h : quiet s t) : quiet s (t.countAnswer i) :=
  frame_countAnswer i h (by decide) (by decide) (by decide)

theorem quiet_noAnswer (h : quiet s t) : quiet s t.noAnswer := frame_noAnswer h (by decide) (by decide) (by decide)

theorem quiet_frameBad (h : quiet s t) : quiet s t.frameBad := frame_frameBad h (by decide)

theorem quiet_receiveBytes (bytes : List Byte) (h : quiet s t) : quiet s (t.receiveBytes bytes) :=
  frame_receiveBytes bytes h (by decide)

/-! ### The clock (R1–R15) -/

theorem quietNext_clockSet (day second offset : Nat) (s : State) : quietNext s (execClockSet day second offset s) :=
  quietNext_whileRunning (quiet_ite (quiet_refuse _ _ (.refl s)) (quiet_answer _ _ _
    (frame_giveStep _ _ (quiet_systemEvent _ _ (quiet_setTime _ (.refl s))) (by decide))))

theorem quietNext_clockSlew (seconds : Int) (s : State) : quietNext s (execClockSlew seconds s) :=
  quietNext_whileRunning (quiet_ite (quiet_refuse _ _ (.refl s)) (quiet_ite (quiet_refuse _ _ (.refl s))
    (quiet_answer _ _ _ (quiet_setTime _ (.refl s)))))

theorem quietNext_clockTrim (trim : Int) (s : State) : quietNext s (execClockTrim trim s) :=
  quietNext_whileRunning (quiet_ite (quiet_refuse _ _ (.refl s)) (quiet_ite (quiet_refuse _ _ (.refl s))
    (quiet_answer _ _ _ (quiet_setTime _ (.refl s)))))

theorem quietNext_clockRead (s : State) : quietNext s (execClockRead s) :=
  quietNext_whileRunning (quiet_answer _ _ _ (.refl s))

theorem quiet_passPeriods (n : Nat) (h : quiet s t) : quiet s (t.passPeriods n) :=
  frame_passPeriods n h (by decide) (by decide) (by decide) (by decide)

theorem quietNext_secondEnd (s : State) : quietNext s (execSecondEnd s) :=
  quietNext_next (quiet_ite (.refl s)
    (frame_endSecond (quiet_passPeriods _ (.refl s)) (by decide) (by decide) (by decide) (by decide)))

theorem quiet_takeBoundary (s : State) {r : Receiver} (hr : r ≠ .scheduleUnit) (b : Stamp) : quiet s (s.takeBoundary r b) := by
  cases r with
  | recordUnit => exact quiet_closeDue b (quiet_dropNotice _ (.refl s))
  | scheduleUnit => exact absurd rfl hr
  | bankStore => exact quiet_ite (quiet_switchIfReached b (quiet_dropNotice _ (.refl s))) (quiet_dropNotice _ (.refl s))

theorem quiet_takeSpan (s : State) {r : Receiver} (hr : r ≠ .scheduleUnit) (first last : Stamp) :
    quiet s (s.takeSpan r first last) := by
  cases r with
  | recordUnit => exact quiet_closeDue last (quiet_dropNotice _ (.refl s))
  | scheduleUnit => exact absurd rfl hr
  | bankStore => exact quiet_switchIfReached last (quiet_dropNotice _ (.refl s))

theorem quietNext_deadlineExpiry (s : State) : quietNext s (execDeadlineExpiry s) := by
  refine quietNext_whileRunning ?_
  split
  · exact quiet_ite (quiet_closeDue _ (quiet_dropNotice _ (.refl s))) (.refl s)
  · exact .refl s

theorem quietNext_pendingSwitchDue (s : State) : quietNext s (execPendingSwitchDue s) := by
  refine quietNext_whileRunning ?_
  split
  · exact quiet_ite (frame_switchAtNotice _ _ (quiet_dropNotice _ (.refl s)) (by decide) (by decide) (by decide) (by decide))
      (.refl s)
  · exact .refl s

/-! ### The roster (R21–R29) -/

theorem quietNext_rosterEnrol (badge payClass pattern : Nat) (lanes : LaneSet) (s : State) :
    quietNext s (execRosterEnrol badge payClass pattern lanes s) :=
  quietNext_whileRunning (quiet_ite (frame_answerEnrol _ _
    (frame_enrol _ _ (quiet.refl s) (by decide) (by decide) (by decide) (by decide)) (by decide)) (quiet_refuse _ _ (.refl s)))

theorem quietNext_rosterAmend (badge : Nat) (payClass pattern : Option Nat) (lanes : Option LaneSet) (reset : Bool) (s : State) :
    quietNext s (execRosterAmend badge payClass pattern lanes reset s) := by
  refine quietNext_whileRunning (quiet_ite ?_ (quiet_refuse _ _ (.refl s)))
  dsimp only
  split
  · exact quiet_refuse _ _ (quiet_lookup badge (.refl s))
  · exact quiet_answer _ _ _ (quiet_setSlot _ _ (quiet_lookup badge (.refl s)))

theorem quietNext_rosterWithdraw (badge : Nat) (force : Bool) (s : State) : quietNext s (execRosterWithdraw badge force s) := by
  refine quietNext_whileRunning (quiet_ite ?_ (quiet_refuse _ _ (.refl s)))
  dsimp only
  split
  · exact quiet_refuse _ _ (quiet_lookup badge (.refl s))
  · exact frame_withdraw _ _ _ (quiet_lookup badge (.refl s)) (by decide) (by decide) (by decide) (by decide)

theorem quietNext_rosterRead (key : RosterKey) (s : State) : quietNext s (execRosterRead key s) := by
  refine quietNext_whileRunning ?_
  cases key with
  | byBadge badge =>
    refine quiet_ite ?_ (quiet_refuse _ _ (.refl s))
    dsimp only
    split
    · exact quiet_refuse _ _ (quiet_lookup badge (.refl s))
    · exact quiet_answer _ _ _ (quiet_lookup badge (.refl s))
  | byAddress first count =>
    exact quiet_ite (quiet_answer _ _ _ (frame_reportSlots _ (quiet.refl s) (by decide) (by decide) (by decide) (by decide)))
      (quiet_refuse _ _ (.refl s))

theorem quietNext_rosterPurge (address : Nat) (s : State) : quietNext s (execRosterPurge address s) :=
  quietNext_whileRunning (quiet_ite (quiet_ite (quiet_answer _ _ _ (frame_purge _ (.refl _ s) (by decide)))
    (quiet_refuse _ _ (.refl s))) (quiet_refuse _ _ (.refl s)))

theorem quietNext_presenceSet (badge : Nat) (value : Choice PresenceRead) (s : State) :
    quietNext s (execPresenceSet badge value s) := by
  refine quietNext_whileRunning ?_
  cases value with
  | unlisted => exact quiet_refuse _ _ (.refl s)
  | listed v =>
    refine quiet_ite ?_ (quiet_refuse _ _ (.refl s))
    dsimp only
    split
    · exact quiet_refuse _ _ (quiet_lookup badge (.refl s))
    · exact quiet_answer _ _ _ (quiet_setSlot _ _ (quiet_lookup badge (.refl s)))

theorem quietNext_presenceClear (s : State) : quietNext s (execPresenceClear s) :=
  quietNext_whileRunning (quiet_answer _ _ _ (frame_advanceEpoch (.refl _ s) (by decide)))

/-! ### The gate line (R37–R39) -/

theorem quietNext_poll (s : State) : quietNext s (execPoll s) := by
  refine quietNext_whileRunning ?_
  dsimp only
  split
  · exact quiet_setPunch _ (frame_sendVerdict (.refl _ s) (by decide))
  · exact .refl s

theorem quietNext_pollTimeout (s : State) : quietNext s (execPollTimeout s) := by
  refine quietNext_whileRunning ?_
  split
  · exact .refl s
  · exact frame_countMiss _ (quiet_endPoll (quiet_reach _ (.refl s))) (by decide) (by decide) (by decide)

theorem quietNext_idle (i : Head) (s : State) : quietNext s (execIdle i s) :=
  quietNext_whileRunning (quiet_ite (quiet_countAnswer i (quiet_endPoll (.refl s))) (quiet_noAnswer (.refl s)))

theorem quietNext_garbledAnswer (s : State) : quietNext s (execGarbledAnswer s) :=
  quietNext_whileRunning (quiet_noAnswer (.refl s))

theorem quietNext_strayCharacters (s : State) : quietNext s (execStrayCharacters s) :=
  quietNext_whileRunning (frame_lineError (.refl _ s) (by decide))

theorem quietNext_laneRead (lane : Nat) (s : State) : quietNext s (execLaneRead lane s) := by
  refine quietNext_whileRunning ?_
  split
  · exact quiet_answer _ _ _ (.refl s)
  · exact quiet_refuse _ _ (.refl s)

/-! ### The rule banks and the Spool (R110, R169–R175, R182, R183) -/

theorem quietNext_loadBegin (kind : Choice LoadKind) (s : State) : quietNext s (execLoadBegin kind s) := by
  refine quietNext_whileRunning ?_
  cases kind with
  | unlisted => exact quiet_refuse _ _ (.refl s)
  | listed k => exact quiet_ite (quiet_refuse _ _ (.refl s)) (quiet_answer _ _ _ (quiet_setBanks _ (.refl s)))

theorem quietNext_loadRows (table : Choice TableName) (first : Nat) (rows : List Row) (s : State) :
    quietNext s (execLoadRows table first rows s) := by
  refine quietNext_whileRunning ?_
  cases table with
  | unlisted => exact quiet_refuse _ _ (.refl s)
  | listed t =>
    exact quiet_ite (quiet_refuse _ _ (.refl s)) (quiet_ite (quiet_refuse _ _ (.refl s)) (quiet_ite (quiet_refuse _ _ (.refl s))
      (quiet_ite (quiet_answer _ _ _ (quiet_setBanks _ (.refl s))) (quiet_refuse _ _ (.refl s)))))

theorem quietNext_loadEnd (s : State) : quietNext s (execLoadEnd s) := by
  refine quietNext_whileRunning (quiet_ite (quiet_refuse _ _ (.refl s)) ?_)
  split
  · exact quiet_answer _ _ _ (quiet_setBanks _ (.refl s))
  · exact quiet_answer _ _ _ (quiet_setBanks _ (.refl s))

theorem quietNext_bankSwitch (time : SwitchTime) (s : State) : quietNext s (execBankSwitch time s) := by
  refine quietNext_whileRunning (quiet_ite (quiet_refuse _ _ (.refl s)) (quiet_ite (quiet_refuse _ _ (.refl s))
    (quiet_ite (quiet_refuse _ _ (.refl s)) ?_)))
  split
  · exact quiet_answer _ _ _ (frame_carryOutSwitch _ _ (frame_keepOldBank 0 (.refl _ s) (by decide))
      (by decide) (by decide) (by decide))
  · exact quiet_ite (quiet_refuse _ _ (.refl s)) (quiet_answer _ _ _ (quiet_setBanks _ (.refl s)))

theorem quietNext_tableRead (bank : Choice BankSelector) (table : Choice TableName) (first count : Nat) (s : State) :
    quietNext s (execTableRead bank table first count s) := by
  refine quietNext_whileRunning ?_
  dsimp only
  split
  · exact quiet_ite (quiet_answer _ _ _ (.refl s)) (quiet_answer _ _ _ (.refl s))
  · exact quiet_answer _ _ _ (.refl s)

theorem quietNext_spoolTake (start count : Nat) (s : State) : quietNext s (execSpoolTake start count s) := by
  refine quietNext_whileRunning (quiet_ite (quiet_refuse _ _ (.refl s)) ?_)
  split
  · exact quiet_answer _ _ _ (.refl s)
  · exact quiet_answer _ _ _ (.refl s)

theorem quietNext_spoolClear (through : Nat) (s : State) : quietNext s (execSpoolClear through s) := by
  refine quietNext_whileRunning (quiet_ite (quiet_refuse _ _ (.refl s)) ?_)
  split
  · exact quiet_answer _ _ _ (.refl s)
  · exact quiet_answer _ _ _ (frame_clearThrough _ (.refl _ s) (by decide) (by decide))

theorem quietNext_moveWaitingTotals (s : State) : quietNext s (execMoveWaitingTotals s) :=
  quietNext_whileRunning (frame_moveTotals (frame_setRecords _ (.refl _ s) (by decide))
    (by decide) (by decide) (by decide) (by decide))

/-! ### The plant link (R187–R193) -/

theorem quietNext_status (s : State) : quietNext s (execStatus s) := quietNext_whileRunning (quiet_answer _ _ _ (.refl s))

theorem quietNext_setupRead (name : SetupName) (s : State) : quietNext s (execSetupRead name s) := by
  refine quietNext_whileRunning ?_
  cases name with
  | general => exact quiet_answer _ _ _ (.refl s)
  | bells => exact quiet_answer _ _ _ (.refl s)
  | lane index =>
    dsimp only
    split
    · exact quiet_answer _ _ _ (.refl s)
    · exact quiet_refuse _ _ (.refl s)
  | watch index =>
    dsimp only
    split
    · exact quiet_answer _ _ _ (.refl s)
    · exact quiet_refuse _ _ (.refl s)
  | stations => exact quiet_answer _ _ _ (.refl s)

theorem quietNext_restart (s : State) : quietNext s (execRestart s) :=
  quietNext_whileRunning (quiet_setLink _ (quiet_answer _ _ _ (.refl s)))

theorem quietNext_frameReceipt (bytes : List Byte) (s : State) : quietNext s (execFrameReceipt bytes s) := by
  refine quietNext_whileRunning ?_
  split
  · exact .refl s
  · exact quiet_receiveBytes _ (.refl s)
  · exact quiet_ite (quiet_receiveBytes _ (quiet_frameBad (.refl s))) (quiet_receiveBytes _ (.refl s))

theorem quietNext_receiveTimeout (s : State) : quietNext s (execReceiveTimeout s) := by
  refine quietNext_whileRunning ?_
  split
  · exact .refl s
  · exact quiet_frameBad (quiet_reach _ (.refl s))

theorem quietNext_frameLengthBad (length : Nat) (s : State) : quietNext s (execFrameLengthBad length s) :=
  quietNext_whileRunning (quiet_ite (quiet_frameBad (.refl s)) (.refl s))

theorem quietNext_frameDispatch (s : State) : quietNext s (execFrameDispatch s) := by
  refine quietNext_whileRunning ?_
  split
  · exact .refl s
  · exact quiet_ite (frame_dispatch _ _ (.refl _ s) (by decide)) (.refl s)

theorem quietNext_frameSent (s : State) : quietNext s (execFrameSent s) := by
  refine quietNext_whileRunning ?_
  split
  · exact .refl s
  · exact quiet_setLink _ (.refl s)

theorem quietNext_silenceTimeout (s : State) : quietNext s (execSilenceTimeout s) := by
  refine quietNext_whileRunning ?_
  split
  · exact .refl s
  · exact quiet_setLink _ (quiet_reach _ (.refl s))

end

end Sys2Proof.Machine
end

section
/-! ## The levels right after a settling, and the steps that no level and no mode turns on (R69, R71, R160) -/
namespace Sys2Proof.Machine

/-- From one state to another, levels that were right stay right, and so do modes. -/
structure keepsLaws (s t : State) : Prop where
  levels : s.levelLaw → t.levelLaw
  modes : s.modeLaw → t.modeLaw

/-- What of the inputs an output's level turns on, and the levels driven. -/
structure OutputInputs where
  evacuating : Bool
  releaseHolds : Vector (Option Bool) 8
  bellHolds : Vector (Option Bool) 8
  drivenRelease : Vector Bool 8
  drivenBell : Vector BellLevel 8

def InputSampler.outputs (x : InputSampler) : OutputInputs :=
  ⟨x.evacuating, x.releaseHolds, x.bellHolds, x.drivenRelease, x.drivenBell⟩

/-- Between two states nothing has changed that an output's level turns on, and no output's level. -/
structure sameOutputs (s t : State) : Prop where
  lanes : ∀ m, (t.lane m).levels = (s.lane m).levels
  inputs : t.inputs.outputs = s.inputs.outputs
  bells : t.bells = s.bells
  supply : t.supply.state = s.supply.state

/-- Between two states nothing has changed that the levels of the outputs or the modes of the lanes turn on. -/
structure sameWorld (s t : State) : Prop where
  outputs : sameOutputs s t
  stance : sameStance s t

section
variable {s t u : State} {l : LaneId}

theorem InputSampler.outputs_eq_iff {x y : InputSampler} : x.outputs = y.outputs ↔
    x.evacuating = y.evacuating ∧ x.releaseHolds = y.releaseHolds ∧ x.bellHolds = y.bellHolds ∧
      x.drivenRelease = y.drivenRelease ∧ x.drivenBell = y.drivenBell := by
  simp only [InputSampler.outputs, OutputInputs.mk.injEq]

theorem sameOutputs.driveRelease (h : sameOutputs s t) (m : LaneId) : t.driveRelease m = s.driveRelease m := by
  obtain ⟨hsetup, hwants, -⟩ := Lane.levels_eq_iff.1 (h.lanes m)
  obtain ⟨hevacuating, hholds, -⟩ := InputSampler.outputs_eq_iff.1 h.inputs
  unfold State.driveRelease
  rw [hsetup, hwants, h.supply, hevacuating, hholds]

theorem sameOutputs.driveBell (h : sameOutputs s t) (b : BellId) : t.driveBell b = s.driveBell b := by
  obtain ⟨-, -, hholds, -⟩ := InputSampler.outputs_eq_iff.1 h.inputs
  unfold State.driveBell State.ringsEvacuation
  rw [h.supply, h.bells, hholds]

theorem sameOutputs.levelLaw (h : sameOutputs s t) (hs : s.levelLaw) : t.levelLaw := by
  obtain ⟨hrequested, hrelease, hbell⟩ := hs
  obtain ⟨-, -, -, hdrivenRelease, hdrivenBell⟩ := InputSampler.outputs_eq_iff.1 h.inputs
  refine ⟨fun m => ?_, fun m => ?_, fun b => ?_⟩
  · obtain ⟨-, hwants, hreq⟩ := Lane.levels_eq_iff.1 (h.lanes m)
    rw [hreq, hwants, hrequested]
  · rw [h.driveRelease, ← hrelease, hdrivenRelease]
  · rw [h.driveBell, ← hbell, hdrivenBell]

theorem sameWorld.keepsLaws (h : sameWorld s t) : keepsLaws s t := ⟨h.outputs.levelLaw, h.stance.modeLaw⟩

theorem sameWorld.refl (s : State) : sameWorld s s := ⟨⟨fun _ => rfl, rfl, rfl, rfl⟩, .refl s⟩

theorem sameWorld.trans (h : sameWorld s t) (g : sameWorld t u) : sameWorld s u :=
  ⟨⟨fun m => (g.outputs.lanes m).trans (h.outputs.lanes m), g.outputs.inputs.trans h.outputs.inputs,
    g.outputs.bells.trans h.outputs.bells, g.outputs.supply.trans h.outputs.supply⟩, h.stance.trans g.stance⟩

theorem sameWorld_of_quiet (h : quiet s t) : sameWorld s t := by
  have hlanes : t.lanes = s.lanes := h.same (b := .lanes) (by decide)
  refine ⟨⟨fun m => by rw [State.lane, hlanes]; rfl, ?_, h.same (b := .bells) (by decide), ?_⟩,
    sameStance_of_frame h (by decide)⟩
  · rw [h.same (b := .inputs) (by decide)]
  · rw [h.same (b := .supply) (by decide)]

theorem sameWorld_setLane {x : Lane} (hlevels : x.levels = (s.lane l).levels) (hmode : x.mode = (s.lane l).mode)
    (hremembered : x.remembered = (s.lane l).remembered) : sameWorld s (s.setLane l x) := by
  have hsetup := (Lane.levels_eq_iff.1 hlevels).1
  have hlane := sameLevels_setLane (s := s) hlevels
  exact ⟨⟨hlane.lanes, rfl, rfl, rfl⟩, sameStance_setLane hsetup hmode hremembered⟩

theorem sameWorld_setInputs {x : InputSampler} (h : x.outputs = s.inputs.outputs) : sameWorld s (s.setInputs x) := by
  obtain ⟨hevacuating, hholds, -⟩ := InputSampler.outputs_eq_iff.1 h
  exact ⟨⟨fun _ => rfl, h, rfl, rfl⟩, sameStance_setInputs hevacuating hholds⟩

theorem sameWorld_setSupply {x : Supply} (h : x.state = s.supply.state) : sameWorld s (s.setSupply x) :=
  ⟨⟨fun _ => rfl, rfl, rfl, h⟩, sameStance_of_frame (frame_setSupply (L := [.supply]) _ (.refl _ s) (by decide)) (by decide)⟩

theorem sameWorld_ite {c : Prop} [Decidable c] (ht : sameWorld s t) (hu : sameWorld s u) :
    sameWorld s (if c then t else u) := by
  split
  · exact ht
  · exact hu

theorem sameWorld_foldl {ι : Type} {op : State → ι → State} (hop : ∀ v i, sameWorld v (op v i)) (is : List ι) (s : State) :
    sameWorld s (is.foldl op s) :=
  List.foldlRecOn (motive := sameWorld s) is op (.refl s) fun v hv i _ => hv.trans (hop v i)

/-! ### The levels taken again (R71, R160) -/

theorem retakeLevels_driveBell (s : State) (b : BellId) : s.retakeLevels.driveBell b = s.driveBell b := by
  have hframe := retakeLevels_frame s
  have hholds := congrArg InputSampler.bellHolds (retakeLevels_undriven s)
  unfold State.driveBell State.ringsEvacuation
  rw [hframe.same (b := .bells) (by decide), hframe.same (b := .supply) (by decide),
    show s.retakeLevels.inputs.bellHolds = s.inputs.bellHolds from hholds]

/-- Levels taken again are as the rules give them, whatever they were. -/
theorem retakeLevels_levelLaw (s : State) : s.retakeLevels.levelLaw := by
  refine ⟨fun m => ?_, fun m => ?_, fun b => ?_⟩
  · rw [retakeLevels_lane]; rfl
  · rw [retakeLevels_drivenRelease, retakeLevels_driveRelease]
  · rw [retakeLevels_drivenBell, releasesAgain_driveBell, retakeLevels_driveBell]

theorem settle_levelLaw (s : State) : s.settle.levelLaw := retakeLevels_levelLaw _

/-- After a settling the levels are right, so that only the modes are left to show. -/
theorem keepsLaws_settle (h : s.modeLaw → u.modeLaw) : keepsLaws s u.settle :=
  ⟨fun _ => settle_levelLaw u, fun hs => (sameStance_settle u).modeLaw (h hs)⟩

theorem keepsLaws_settle_of_stance (h : sameStance s u) : keepsLaws s u.settle := keepsLaws_settle h.modeLaw

theorem keepsLaws.trans_world (h : keepsLaws s t) (g : sameWorld t u) : keepsLaws s u :=
  ⟨fun hs => g.outputs.levelLaw (h.levels hs), fun hs => g.stance.modeLaw (h.modes hs)⟩

theorem keepsLaws.answer (h : keepsLaws s t) (order : Instr) (code : ReplyCode) (body : ReplyBody) :
    keepsLaws s (t.answer order code body) := h.trans_world (sameWorld_of_quiet (quiet_answer order code body (.refl t)))

theorem keepsLaws.systemEvent (h : keepsLaws s t) (stamp : Option Stamp) (cause : SystemCause) :
    keepsLaws s (t.systemEvent stamp cause) := h.trans_world (sameWorld_of_quiet (quiet_systemEvent stamp cause (.refl t)))

theorem keepsLaws.refl (s : State) : keepsLaws s s := (sameWorld.refl s).keepsLaws

theorem keepsLaws_refuse (s : State) (order : Instr) (code : ReplyCode) : keepsLaws s (s.refuse order code) :=
  (sameWorld_of_quiet (quiet_refuse order code (.refl s))).keepsLaws

theorem keepsLaws_ite {c : Prop} [Decidable c] (ht : keepsLaws s t) (hu : keepsLaws s u) :
    keepsLaws s (if c then t else u) := by
  split
  · exact ht
  · exact hu

/-- What a part other than the lanes and the inputs leaves of the modes. -/
theorem modeLaw_of_frame {L : List Block} (hf : unchangedBut L s t) (hL : Block.lanes ∉ L ∧ Block.inputs ∉ L)
    (h : s.modeLaw) : t.modeLaw := (sameStance_of_frame hf hL).modeLaw h

theorem sameStance_of_quiet (h : quiet s t) : sameStance s t := sameStance_of_frame h (by decide)

theorem sameStance_reach (s : State) (e : Elapsed) : sameStance s (s.reach e) := sameStance_of_quiet (quiet_reach e (.refl s))

theorem sameWorld_takeChange (s : State) (d : Delivery) : sameWorld s (s.takeChange d) := by
  cases d with
  | door m isOpen => exact sameWorld_ite (sameWorld_setInputs rfl) (sameWorld_setInputs rfl)
  | exitRequest m => exact sameWorld_ite (sameWorld_setInputs rfl) (sameWorld_setInputs rfl)
  | encoder m a b => exact sameWorld_ite (sameWorld_setInputs rfl) (sameWorld_setInputs rfl)
  | watch k => exact sameWorld_setInputs rfl

theorem quiet_laneAlarm (s : State) (l : LaneId) (cause : AlarmCause) : quiet s (s.laneAlarm l cause) :=
  frame_laneAlarm l cause (.refl _ s) (by decide) (by decide)

end

end Sys2Proof.Machine
end

section
/-! ## Lanes, their inputs and their timers keep the levels and the modes (R69–R91) -/
namespace Sys2Proof.Machine

/-- Whatever state a command answers, levels that were right are right in it, and so are modes. -/
def lawsNext (s : State) (o : Host.Outcome State Fault Refusal) : Prop := ∀ t, o = .next t → keepsLaws s t

section
variable {s t u : State} {l : LaneId}

theorem lawsNext_next (h : keepsLaws s t) : lawsNext s (.next t) := by
  rintro u ⟨⟩
  exact h

theorem lawsNext_whileRunning {act : State → State} (h : keepsLaws s (act s)) : lawsNext s (whileRunning s act) := by
  unfold whileRunning
  split
  · exact lawsNext_next h
  · exact lawsNext_next (.refl s)

theorem lawsNext_of_quiet {o : Host.Outcome State Fault Refusal} (h : quietNext s o) : lawsNext s o :=
  fun t ht => (sameWorld_of_quiet (h t ht)).keepsLaws

/-! ### Notices to the Schedule Unit (R138, R148, R149) -/

theorem fireEntry_modeLaw (h : s.modeLaw) (b : Bank) (e : Stamp) (x : ScheduleEntry) : (State.fireEntry b e s x).modeLaw := by
  unfold State.fireEntry
  split
  · split
    · exact modeLaw_of_frame (L := [.bells]) (frame_requestRings _ _ _ (.refl _ s) (by decide)) (by decide) h
    · exact askModes_modeLaw h _ _
    · exact h
  · exact h

theorem fireSchedule_modeLaw (h : s.modeLaw) (b : Bank) (e : Stamp) : (s.fireSchedule b e).modeLaw :=
  foldl_modeLaw (fun _ x hv => fireEntry_modeLaw hv b e x) _ h

theorem catchUpLane_modeLaw (h : s.modeLaw) (b : Bank) (first last : Stamp) (l : LaneId) :
    (State.catchUpLane b first last s l).modeLaw := by
  unfold State.catchUpLane
  split
  · exact h
  · exact askMode_modeLaw h _ l

theorem sameStance_dropNotice (s : State) (r : Receiver) : sameStance s (s.dropNotice r) :=
  sameStance_of_quiet (quiet_dropNotice r (.refl s))

theorem keepsLaws_takeBoundary (s : State) (r : Receiver) (b : Stamp) : keepsLaws s (s.takeBoundary r b) := by
  by_cases hr : r = .scheduleUnit
  · subst hr
    exact keepsLaws_settle fun h => fireSchedule_modeLaw ((sameStance_dropNotice s _).modeLaw h) _ b
  · exact (sameWorld_of_quiet (quiet_takeBoundary s hr b)).keepsLaws

theorem keepsLaws_catchUp (h : sameStance s t) (b : Bank) (first last : Stamp) : keepsLaws s (t.catchUp b first last) := by
  unfold State.catchUp
  exact keepsLaws_settle fun hs => foldl_modeLaw (op := State.catchUpLane b first last)
    (fun _ l hv => catchUpLane_modeLaw hv b first last l) _ (h.modeLaw hs)

theorem keepsLaws_takeSpan (s : State) (r : Receiver) (first last : Stamp) : keepsLaws s (s.takeSpan r first last) := by
  by_cases hr : r = .scheduleUnit
  · subst hr
    exact keepsLaws_catchUp (sameStance_dropNotice s .scheduleUnit) (s.bankAtSpanEnd last) first last
  · exact (sameWorld_of_quiet (quiet_takeSpan s hr first last)).keepsLaws

theorem lawsNext_secondBoundary (r : Receiver) (s : State) : lawsNext s (execSecondBoundary r s) := by
  refine lawsNext_whileRunning ?_
  split
  · exact keepsLaws_takeBoundary s r _
  · exact .refl s

theorem lawsNext_stepNotice (r : Receiver) (s : State) : lawsNext s (execStepNotice r s) := by
  refine lawsNext_whileRunning ?_
  split
  · exact keepsLaws_ite (keepsLaws_takeSpan s r _ _) (sameWorld_of_quiet (quiet_dropNotice r (.refl s))).keepsLaws
  · exact .refl s

theorem lawsNext_resumptionNotice (r : Receiver) (s : State) : lawsNext s (execResumptionNotice r s) := by
  refine lawsNext_whileRunning ?_
  split
  · exact keepsLaws_takeSpan s r _ _
  · exact .refl s

/-! ### Punches and referrals (R42–R61) -/

theorem lawsNext_punch (i : Head) (badge : BitVec 32) (intent : Intent) (s : State) : lawsNext s (execPunch i badge intent s) :=
  lawsNext_whileRunning (keepsLaws_ite
    (keepsLaws_settle_of_stance ((sameStance_of_quiet (quiet_countAnswer i (quiet_endPoll (.refl s)))).trans (sameStance_judge _ _)))
    (sameWorld_of_quiet (quiet_noAnswer (.refl s))).keepsLaws)

theorem lawsNext_referralTimeout (l : LaneId) (s : State) : lawsNext s (execReferralTimeout l s) := by
  refine lawsNext_whileRunning ?_
  split
  · exact .refl s
  · exact keepsLaws_settle fun h => settleIdle_modeLaw
      ((((sameStance_reach s _).trans (sameStance_leaveWait _ l)).trans (sameStance_applyMiss _ _)).modeLaw h) l

theorem lawsNext_ruling (lane badge : Nat) (decision : Choice Decision) (fields : Option EnrolFields) (s : State) :
    lawsNext s (execRuling lane badge decision fields s) := by
  refine lawsNext_whileRunning ?_
  cases decision with
  | unlisted => exact keepsLaws_refuse s _ _
  | listed d =>
    refine keepsLaws_ite (keepsLaws_refuse s _ _) (keepsLaws_ite (keepsLaws_refuse s _ _) ?_)
    split
    · exact keepsLaws_refuse s _ _
    · exact (keepsLaws_settle fun h => settleIdle_modeLaw
        (((sameStance_leaveWait s _).trans (sameStance_ruleOn _ _ _ _)).modeLaw h) _).answer _ _ _

/-! ### Doors (R74–R79) -/

theorem sameStance_laneAlarm (s : State) (l : LaneId) (cause : AlarmCause) : sameStance s (s.laneAlarm l cause) :=
  sameStance_of_quiet (quiet_laneAlarm s l cause)

theorem sameStance_passageNotice (s : State) (l : LaneId) : sameStance s (s.passageNotice l) :=
  sameStance_of_frame (passageNotice_frame s l) (by decide)

theorem sameStance_unexpectedOpening (s : State) (l : LaneId) : sameStance s (s.unexpectedOpening l) :=
  sameStance_ite (.refl s) (sameStance_ite (.refl s) (sameStance_laneAlarm s l _))

theorem sameStance_doorPassage (s : State) (l : LaneId) (g : Grant) : sameStance s (s.doorPassage l g) :=
  (sameStance_setLane (by rfl) (by rfl) (by rfl)).trans (sameStance_passageNotice _ l)

theorem sameStance_takeOpening (s : State) (l : LaneId) : sameStance s (s.takeOpening l) := by
  unfold State.takeOpening
  split
  · exact sameStance_unexpectedOpening s l
  · exact sameStance_ite (sameStance_doorPassage s l _)
      (sameStance_ite (sameStance_laneAlarm s l _) (sameStance_unexpectedOpening s l))

theorem sameStance_doorOpens (s : State) (l : LaneId) : sameStance s (s.doorOpens l) :=
  (sameStance_setLane (by rfl) (by rfl) (by rfl)).trans (sameStance_takeOpening _ l)

theorem lawsNext_doorOpening (l : LaneId) (s : State) : lawsNext s (execDoorOpening l s) :=
  have htaken := sameWorld_takeChange s (.door l true)
  lawsNext_whileRunning (keepsLaws_ite (keepsLaws_settle_of_stance (htaken.stance.trans (sameStance_doorOpens _ l)))
    htaken.keepsLaws)

theorem sameWorld_startPartnerDead (s : State) (l : LaneId) : sameWorld s (s.startPartnerDead l) := by
  unfold State.startPartnerDead
  split
  · exact .refl s
  · exact sameWorld_setLane (by rfl) (by rfl) (by rfl)

theorem sameWorld_recordClosing (s : State) (l : LaneId) (e : Option Elapsed) : sameWorld s (s.recordClosing l e) :=
  (sameWorld_setLane (by rfl) (by rfl) (by rfl)).trans (sameWorld_startPartnerDead _ l)

theorem sameStance_endHeld (s : State) (l : LaneId) : sameStance s (s.endHeld l) :=
  sameStance_ite ((sameStance_setLane (by rfl) (by rfl) (by rfl)).trans (sameStance_laneAlarm _ l _)) (.refl s)

theorem finishUntilOpen_modeLaw (h : s.modeLaw) (l : LaneId) : (s.finishUntilOpen l).modeLaw := by
  unfold State.finishUntilOpen
  split
  · exact h
  · exact ite_modeLaw (endGrant_modeLaw h l _) h

theorem doorCloses_modeLaw (h : s.modeLaw) (l : LaneId) : (s.doorCloses l).modeLaw :=
  (sameStance_look _ l).modeLaw (finishUntilOpen_modeLaw
    (((sameWorld_recordClosing s l _).stance.trans (sameStance_endHeld _ l)).modeLaw h) l)

theorem lawsNext_doorClosing (l : LaneId) (s : State) : lawsNext s (execDoorClosing l s) :=
  have htaken := sameWorld_takeChange s (.door l false)
  lawsNext_whileRunning (keepsLaws_ite (keepsLaws_settle fun h => doorCloses_modeLaw (htaken.stance.modeLaw h) l)
    htaken.keepsLaws)

theorem sameStance_zeroEncoder (s : State) (l : LaneId) : sameStance s (s.zeroEncoder l) := sameStance_setLane (by rfl) (by rfl) (by rfl)

theorem sameStance_counted (s : State) (l : LaneId) : sameStance s ((s.zeroEncoder l).look l) :=
  (sameStance_zeroEncoder s l).trans (sameStance_look _ l)

theorem lawsNext_releaseExpiry (l : LaneId) (s : State) : lawsNext s (execReleaseExpiry l s) := by
  refine lawsNext_whileRunning ?_
  split
  · exact .refl s
  · split
    · exact keepsLaws_settle fun h =>
        (sameStance_counted _ l).modeLaw (endGrant_modeLaw ((sameStance_reach s _).modeLaw h) l _)
    · exact .refl s

theorem sameWorld_heldRunsOut (s : State) (l : LaneId) : sameWorld s (s.heldRunsOut l) :=
  sameWorld_ite ((sameWorld_setLane (by rfl) (by rfl) (by rfl)).trans (sameWorld_of_quiet (quiet_laneAlarm _ l _)))
    (sameWorld_setLane (by rfl) (by rfl) (by rfl))

theorem sameWorld_reach (s : State) (e : Elapsed) : sameWorld s (s.reach e) := sameWorld_of_quiet (quiet_reach e (.refl s))

theorem lawsNext_heldOpenExpiry (l : LaneId) (s : State) : lawsNext s (execHeldOpenExpiry l s) := by
  refine lawsNext_whileRunning ?_
  split
  · exact .refl s
  · exact ((sameWorld_reach s _).trans (sameWorld_heldRunsOut _ l)).keepsLaws

/-! ### Requests to exit, turnstiles and the interlock's waits (R80–R87) -/

theorem sameStance_exitRequested (s : State) (l : LaneId) : sameStance s (s.exitRequested l) := by
  have hallowed : sameStance s
      (s.setLane l { s.lane l with exitAllowance := some (s.inSeconds (s.lane l).setup.releaseTime) }) :=
    sameStance_setLane (by rfl) (by rfl) (by rfl)
  exact sameStance_ite (hallowed.trans (sameStance_takeGrant _ l _)) hallowed

theorem lawsNext_requestToExit (l : LaneId) (s : State) : lawsNext s (execRequestToExit l s) :=
  have htaken := sameWorld_takeChange s (.exitRequest l)
  lawsNext_whileRunning (keepsLaws_ite htaken.keepsLaws
    (keepsLaws_settle_of_stance (htaken.stance.trans (sameStance_exitRequested _ l))))

theorem lawsNext_exitAllowanceExpiry (l : LaneId) (s : State) : lawsNext s (execExitAllowanceExpiry l s) := by
  refine lawsNext_whileRunning ?_
  dsimp only
  split
  · exact .refl s
  · exact ((sameWorld_reach s _).trans (sameWorld_setLane (by rfl) (by rfl) (by rfl))).keepsLaws

theorem stepGranted_modeLaw (h : s.modeLaw) (l : LaneId) (g : Grant) (d : Dir) : (s.stepGranted l g d).modeLaw := by
  have hpassed : sameStance s ((s.setLane l { s.lane l with grant := some { g with passageSeen := true } }).passageNotice l) :=
    (sameStance_setLane (by rfl) (by rfl) (by rfl)).trans (sameStance_passageNotice _ l)
  exact (sameStance_counted _ l).modeLaw (ite_modeLaw (endGrant_modeLaw (hpassed.modeLaw h) l _)
    (endGrant_modeLaw ((sameStance_laneAlarm s l _).modeLaw h) l _))

theorem sameStance_stepUngranted (s : State) (l : LaneId) (d : Dir) : sameStance s (s.stepUngranted l d) :=
  (sameStance_zeroEncoder s l).trans
    (sameStance_ite (.refl _) (sameStance_ite (.refl _) (sameStance_laneAlarm _ l _)))

theorem stepReached_modeLaw (h : s.modeLaw) (l : LaneId) (d : Dir) : (s.stepReached l d).modeLaw := by
  have hungranted := (sameStance_stepUngranted s l d).modeLaw h
  unfold State.stepReached
  split
  · exact ite_modeLaw (stepGranted_modeLaw h l _ d) hungranted
  · exact hungranted

theorem countStep_modeLaw (h : s.modeLaw) (l : LaneId) (d : Int) : (s.countStep l d).modeLaw := by
  have hcounted := (sameStance_setLane (s := s) (l := l) (x := { s.lane l with encoder := (s.lane l).encoder + d })
    rfl rfl rfl).modeLaw h
  exact ite_modeLaw (stepReached_modeLaw hcounted l _) (ite_modeLaw (stepReached_modeLaw hcounted l _) hcounted)

theorem encoderMoves_modeLaw (h : s.modeLaw) (l : LaneId) (a b : Bool) : (s.encoderMoves l a b).modeLaw := by
  have hdecoded := (sameStance_setLane (s := s) (l := l) (x := { s.lane l with decoderA := a, decoderB := b })
    rfl rfl rfl).modeLaw h
  unfold State.encoderMoves
  dsimp only
  split
  · exact hdecoded
  · exact countStep_modeLaw hdecoded l _
  · exact countStep_modeLaw hdecoded l _
  · exact (sameStance_laneAlarm _ l _).modeLaw hdecoded

theorem lawsNext_encoderChange (l : LaneId) (a b : Bool) (s : State) : lawsNext s (execEncoderChange l a b s) :=
  have htaken := sameWorld_takeChange s (.encoder l a b)
  lawsNext_whileRunning (keepsLaws_ite (keepsLaws_settle fun h => encoderMoves_modeLaw (htaken.stance.modeLaw h) l a b)
    htaken.keepsLaws)

theorem lawsNext_interlockWaitExpiry (l : LaneId) (s : State) : lawsNext s (execInterlockWaitExpiry l s) := by
  refine lawsNext_whileRunning ?_
  split
  · exact .refl s
  · exact keepsLaws_settle fun h =>
      (sameStance_look _ l).modeLaw (endGrant_modeLaw ((sameStance_reach s _).modeLaw h) l _)

theorem lawsNext_deadTimeEnd (l : LaneId) (s : State) : lawsNext s (execDeadTimeEnd l s) := by
  refine lawsNext_whileRunning ?_
  dsimp only
  split
  · exact .refl s
  · exact keepsLaws_settle_of_stance (((sameStance_reach s _).on_setLane (by rfl) (by rfl) (by rfl)).trans (sameStance_look _ l))

/-! ### Orders to the lanes (R88, R89) -/

theorem lawsNext_laneMode (lanes : LaneSet) (mode : Choice LaneMode) (s : State) : lawsNext s (execLaneMode lanes mode s) := by
  refine lawsNext_whileRunning ?_
  split
  · exact keepsLaws_refuse s _ _
  · exact keepsLaws_ite (keepsLaws_refuse s _ _)
      ((keepsLaws_settle fun h => askModes_modeLaw h lanes _).answer _ _ _)

theorem lawsNext_laneRelease (lane : Nat) (dir : Choice Dir) (s : State) : lawsNext s (execLaneRelease lane dir s) := by
  refine lawsNext_whileRunning ?_
  cases dir with
  | unlisted => exact keepsLaws_refuse s _ _
  | listed d =>
    dsimp only
    split
    · exact keepsLaws_ite (keepsLaws_refuse s _ _) (keepsLaws_ite (keepsLaws_refuse s _ _)
        ((keepsLaws_settle_of_stance (sameStance_takeGrant s _ _)).answer _ _ _))
    · exact keepsLaws_refuse s _ _

end

end Sys2Proof.Machine
end

section
/-! ## Bells, inputs, holds, setup, restart and supply keep the levels and the modes (R66, R91–R93, R140–R165, R191–R196) -/
namespace Sys2Proof.Machine

section
variable {s t u : State} {l : LaneId}

/-! ### Bells (R140–R144) -/

theorem lawsNext_bellRing (outputs : BellSet) (tone duration : Nat) (s : State) :
    lawsNext s (execBellRing outputs tone duration s) :=
  lawsNext_whileRunning (keepsLaws_ite (keepsLaws_refuse s _ _) ((keepsLaws_settle_of_stance
    (sameStance_of_frame (L := [.bells]) (frame_requestRings _ _ _ (.refl _ s) (by decide)) (by decide))).answer _ _ _))

theorem lawsNext_bellStop (outputs : BellSet) (s : State) : lawsNext s (execBellStop outputs s) :=
  lawsNext_whileRunning ((keepsLaws_settle_of_stance (sameStance_foldl (fun v b =>
    sameStance_of_frame (L := [.bells]) (frame_stopRing outputs b (.refl _ v) (by decide)) (by decide)) _ s)).answer _ _ _)

theorem lawsNext_ringEnd (b : BellId) (s : State) : lawsNext s (execRingEnd b s) := by
  refine lawsNext_whileRunning ?_
  split
  · exact .refl s
  · split
    · exact .refl s
    · exact keepsLaws_settle_of_stance ((sameStance_reach s _).on_frame (L := [.bells])
        (frame_endRing b (.refl _ _) (by decide)) (by decide))

theorem lawsNext_cadencePhaseChange (b : BellId) (s : State) : lawsNext s (execCadencePhaseChange b s) := by
  refine lawsNext_whileRunning ?_
  split
  · exact .refl s
  · split
    · exact .refl s
    · exact keepsLaws_settle_of_stance ((sameStance_reach s _).on_frame (L := [.bells])
        (frame_startRing b _ (.refl _ _) (by decide)) (by decide))

/-! ### Samples (R154, R155, R157) -/

theorem sameWorld_deliver (s : State) (d : Delivery) : sameWorld s (s.deliver d) := sameWorld_setInputs rfl

theorem sameWorld_tellWatch (changed : InputSet) (s : State) (k : WatchId) : sameWorld s (State.tellWatch changed s k) := by
  have hevaluated : sameWorld s (s.evaluate k) := sameWorld_ite (sameWorld_setInputs rfl) (.refl s)
  exact sameWorld_ite (hevaluated.trans (sameWorld_deliver _ _)) hevaluated

theorem sameWorld_sampleGeneral (s : State) (levels : InputSet) : sameWorld s (s.sampleGeneral levels) := by
  have hreached := sameWorld_reach s s.inputs.nextGeneral
  unfold State.sampleGeneral
  dsimp only
  generalize s.reach s.inputs.nextGeneral = t at hreached
  generalize allInputs.foldl _ _ = r
  have hsampled : sameWorld s (t.setInputs { t.inputs with
      general := r.lines, nextGeneral := t.elapsed + s.setup.general.generalDebounce.period }) :=
    hreached.trans (sameWorld_setInputs rfl)
  exact sameWorld_ite (hsampled.trans (sameWorld_foldl (sameWorld_tellWatch r.changed) _ _)) hsampled

theorem sameStance_takeDoorStatus (s : State) (l : LaneId) (isOpen : Bool) : sameStance s (s.takeDoorStatus l isOpen) := by
  unfold State.takeDoorStatus
  dsimp only
  split_ifs
  · exact .refl s
  · exact sameStance_setLane rfl rfl rfl
  · exact (sameWorld_recordClosing s l _).stance.trans (sameStance_look _ l)
  · exact .refl s

theorem sameStance_deliverDoor (s : State) (l : LaneId) (isOpen : Bool) (e : LineEvent) :
    sameStance s (s.deliverDoor l isOpen e) := by
  cases e with
  | quiet => exact .refl s
  | change => exact (sameWorld_deliver s _).stance
  | status => exact sameStance_takeDoorStatus s l isOpen

theorem sameStance_deliverExit (s : State) (l : LaneId) (active : Bool) (e : LineEvent) :
    sameStance s (s.deliverExit l active e) := by
  cases e with
  | quiet => exact .refl s
  | change => exact sameStance_ite (sameWorld_deliver s _).stance (.refl s)
  | status => exact .refl s

theorem sameStance_sampleContact (count : Nat) (doors exits : LaneSet) (s : State) (l : LaneId) :
    sameStance s (State.sampleContact count doors exits s l) := by
  refine .trans ?_ ((sameStance_deliverDoor _ l _ _).trans (sameStance_deliverExit _ l _ _))
  exact sameStance_setInputs rfl rfl

theorem keepsLaws_sampleContacts (s : State) (doors exits : LaneSet) : keepsLaws s (s.sampleContacts doors exits) := by
  have hreached := sameStance_reach s s.inputs.nextContacts
  unfold State.sampleContacts
  dsimp only
  generalize s.reach s.inputs.nextContacts = t at hreached
  exact keepsLaws_settle_of_stance ((hreached.trans (sameStance_setInputs (by rfl) (by rfl))).trans
    (sameStance_foldl (sameStance_sampleContact _ doors exits) _ _))

theorem sameWorld_takeEncoderStatus (s : State) (l : LaneId) (a b : Bool) (onA onB : LineEvent) :
    sameWorld s (s.takeEncoderStatus l a b onA onB) :=
  sameWorld_ite (.refl s) ((sameWorld_setLane (by rfl) (by rfl) (by rfl)).trans (sameWorld_setInputs rfl))

theorem sameWorld_sampleEncoder (count : Nat) (as bs : LaneSet) (s : State) (l : LaneId) :
    sameWorld s (State.sampleEncoder count as bs s l) := by
  have htaken := fun x y => (sameWorld_setInputs (s := s) (x := { s.inputs with encodersA := x, encodersB := y }) rfl).trans
    (sameWorld_takeEncoderStatus _ l (inSet as l.val) (inSet bs l.val)
      ((s.inputs.encodersA[l]).sample count (inSet as l.val)).2 ((s.inputs.encodersB[l]).sample count (inSet bs l.val)).2)
  exact sameWorld_ite ((htaken _ _).trans (sameWorld_deliver _ _)) (htaken _ _)

theorem sameWorld_sampleEncoders (s : State) (as bs : LaneSet) : sameWorld s (s.sampleEncoders as bs) := by
  have hreached := sameWorld_reach s s.inputs.nextEncoders
  unfold State.sampleEncoders
  dsimp only
  generalize s.reach s.inputs.nextEncoders = t at hreached
  exact (hreached.trans (sameWorld_setInputs (by rfl))).trans (sameWorld_foldl (sameWorld_sampleEncoder _ as bs) _ _)

theorem lawsNext_debounceSample (x : Sample) (s : State) : lawsNext s (execDebounceSample x s) := by
  refine lawsNext_whileRunning ?_
  cases x with
  | general levels => exact (sameWorld_sampleGeneral s levels).keepsLaws
  | contacts doors exits => exact keepsLaws_sampleContacts s doors exits
  | encoders a b => exact (sameWorld_sampleEncoders s a b).keepsLaws

/-! ### Firings, holds and the end of an evacuation (R158, R161, R164) -/

theorem lawsNext_watchFire (k : WatchId) (s : State) : lawsNext s (execWatchFire k s) :=
  have htaken := sameWorld_takeChange s (.watch k)
  lawsNext_whileRunning (keepsLaws_ite (keepsLaws_settle fun h => fireWatch_modeLaw (htaken.stance.modeLaw h) k)
    htaken.keepsLaws)

theorem anyPaired_iff (s : State) (set : LaneSet) :
    s.anyPaired set = true ↔ ∃ l : LaneId, inSet set l.val = true ∧ s.inPair l = true := by
  have hmem : ∀ l : LaneId, l ∈ allLanes := by decide
  simp only [State.anyPaired, List.any_eq_true, Bool.and_eq_true]
  exact exists_congr fun l => and_iff_right (hmem l)

/-- The hold of each release output as OUTPUT HOLD leaves it (R161). -/
theorem writeHolds_releaseHolds (s : State) (releases : LaneSet) (bells : BellSet) (v : Option Bool) (l : LaneId) :
    (s.writeHolds releases bells v).inputs.releaseHolds[l] = if inSet releases l.val then v else s.inputs.releaseHolds[l] :=
  allLanes_foldl (P := fun (holds : Vector (Option Bool) 8) m => holds[m])
    (F := fun m x => if inSet releases m.val then v else x)
    (fun holds m => by
      split
      · exact putAt_same ..
      · rfl)
    (fun holds m n hne => by
      split
      · exact putAt_other _ _ _ _ hne
      · rfl) s.inputs.releaseHolds l

theorem writeHolds_modeLaw (h : s.modeLaw) (releases : LaneSet) (bells : BellSet) (v : Option Bool)
    (hbarred : ¬ (v = some true ∧ s.anyPaired releases = true)) : (s.writeHolds releases bells v).modeLaw := by
  intro l
  obtain ⟨hmode, hremembered, hpaired⟩ := h l
  refine ⟨hmode, hremembered, fun hpair => ?_⟩
  obtain ⟨hfree, hforgotten, hhold⟩ := hpaired hpair
  refine ⟨hfree, hforgotten, ?_⟩
  rw [writeHolds_releaseHolds]
  split
  · next hnamed => exact fun hv => hbarred ⟨hv, (anyPaired_iff s releases).2 ⟨l, hnamed, hpair⟩⟩
  · exact hhold

theorem holdValue_eq_on (hold : HoldRequest) : holdValue hold = some true ↔ hold = .held true := by
  cases hold <;> simp [holdValue]

theorem lawsNext_outputHold (releases : LaneSet) (bells : BellSet) (hold : HoldRequest) (s : State) :
    lawsNext s (execOutputHold releases bells hold s) := by
  refine lawsNext_whileRunning ?_
  split
  · exact keepsLaws_refuse s _ _
  · next hbarred =>
    rw [← holdValue_eq_on] at hbarred
    exact (keepsLaws_settle fun h => writeHolds_modeLaw h releases bells _ hbarred).answer _ _ _

theorem lawsNext_egressEnd (s : State) : lawsNext s (execEgressEnd s) := by
  refine lawsNext_whileRunning (keepsLaws_ite (keepsLaws_refuse s _ _) ?_)
  split
  · exact (keepsLaws.refl s).answer _ _ _
  · refine ((keepsLaws_settle fun h => ?_).systemEvent _ _).answer _ _ _
    exact modeLaw_of_frame (L := [.bells]) (frame_endEvacRings (.refl _ _) (by decide)) (by decide) (endEvacuation_modeLaw h)

/-! ### The setup record (R65, R66, R139, R140, R154, R157, R191) -/

theorem restartChanged_outputs (x : InputSampler) (old new : GeneralSetup) :
    (x.restartChanged old new).outputs = x.outputs := by
  unfold InputSampler.restartChanged
  split_ifs <;> rfl

theorem sameWorld_setSetup (s : State) (x : Setup) : sameWorld s (s.setSetup x) :=
  sameWorld_of_quiet (frame_setSetup x (.refl _ s) (by decide))

theorem sameWorld_setLink (s : State) (x : Link) : sameWorld s (s.setLink x) :=
  sameWorld_of_quiet (quiet_setLink x (.refl s))

theorem sameWorld_writeGeneral (s : State) (g : GeneralSetup) : sameWorld s (s.writeGeneral g) := by
  have hrestarted : sameWorld s ((s.setSetup { s.setup with general := g }).setInputs
      (s.inputs.restartChanged s.setup.general g)) :=
    (sameWorld_setSetup s _).trans (sameWorld_setInputs (restartChanged_outputs ..))
  exact sameWorld_ite hrestarted (hrestarted.trans (sameWorld_setLink _ _))

theorem sameStance_followKind (s : State) (b : BellId) : sameStance s (s.followKind b) :=
  sameStance_of_frame (L := [.bells]) (frame_followKind b (.refl _ s) (by decide)) (by decide)

theorem keepsLaws_writeBells (s : State) (x : BellSetup) : keepsLaws s (s.writeBells x) := by
  have hwritten := (sameWorld_setSetup s { s.setup with bells := x }).stance
  unfold State.writeBells
  exact keepsLaws_settle_of_stance (hwritten.trans (sameStance_foldl sameStance_followKind allBells _))

theorem keepsLaws_writeLane (s : State) (l : LaneId) (x : LaneSetup) : keepsLaws s (s.writeLane l x).1 := by
  unfold State.writeLane
  split
  · exact keepsLaws_settle fun h => applySetup_modeLaw h l x
  · exact (sameWorld_setLane (by rfl) (by rfl) (by rfl)).keepsLaws

theorem sameWorld_setEqual (s : State) (k : WatchId) (v : Bool) : sameWorld s (s.setEqual k v) := sameWorld_setInputs rfl

theorem keepsLaws_writeWatch (s : State) (k : WatchId) (w : WatchSettings) : keepsLaws s (s.writeWatch k w) := by
  have hwritten := (sameWorld_setSetup s { s.setup with watches := putAt s.setup.watches k w }).trans (sameWorld_setEqual _ k false)
  unfold State.writeWatch
  dsimp only
  have hevaluated := fun v => hwritten.trans (sameWorld_setEqual _ k v)
  exact keepsLaws_ite (keepsLaws_settle fun h => fireWatch_modeLaw ((hevaluated _).stance.modeLaw h) k)
    (hevaluated _).keepsLaws

theorem lawsNext_setupWrite (x : SetupPart) (s : State) : lawsNext s (execSetupWrite x s) := by
  refine lawsNext_whileRunning ?_
  cases x with
  | general g => exact (sameWorld_writeGeneral s _).keepsLaws.answer _ _ _
  | bells b =>
    dsimp only
    split
    · exact keepsLaws_refuse s _ _
    · exact (keepsLaws_writeBells s _).answer _ _ _
  | lane index r =>
    refine keepsLaws_ite (keepsLaws_refuse s _ _) ?_
    split
    · split
      · exact keepsLaws_refuse s _ _
      · exact (keepsLaws_writeLane s _ _).answer _ _ _
    · exact keepsLaws_refuse s _ _
  | watch index r =>
    dsimp only
    split
    · exact keepsLaws_refuse s _ _
    · split
      · exact (keepsLaws_writeWatch s _ _).answer _ _ _
      · exact keepsLaws_refuse s _ _
  | stations entries =>
    dsimp only
    split
    · exact keepsLaws_refuse s _ _
    · exact (sameWorld_setSetup s _).keepsLaws.answer _ _ _

/-! ### The warm restart (R92, R193) -/

theorem sameStance_restartLane (s : State) (l : LaneId) : sameStance s (s.restartLane l) := sameStance_setLane rfl rfl rfl

/-- Every grant is voided, and every referral wait cancelled without END (R92, R93). -/
theorem lanesFreed_modeLaw (h : s.modeLaw) (cause : VoidCause) :
    (allLanes.foldl (State.cancelWait false) (allLanes.foldl (State.voidGrant cause) s)).modeLaw :=
  foldl_modeLaw (fun _ l hv => cancelWait_modeLaw hv false l) _ (foldl_modeLaw (fun _ l hv => voidGrant_modeLaw hv cause l) _ h)

theorem restartTaken_modeLaw (h : s.modeLaw) :
    (allLanes.foldl State.restartLane s.restartGateLine).endAllRings.resumeEvacRing.modeLaw := by
  refine modeLaw_of_frame (L := [.bells]) (frame_resumeEvacRing (frame_endAllRings (.refl _ _) (by decide)) (by decide))
    (by decide) ?_
  exact ((sameStance_of_frame (L := [.punch]) (frame_restartGateLine (.refl _ s) (by decide)) (by decide)).trans
    (sameStance_foldl sameStance_restartLane allLanes _)).modeLaw h

theorem keepsLaws_warmRestart (s : State) : keepsLaws s s.warmRestart := by
  unfold State.warmRestart
  refine keepsLaws_settle fun h => restartTaken_modeLaw (lanesFreed_modeLaw ?_ _)
  exact modeLaw_of_frame (L := [.supply, .link]) (frame_setLink _ (frame_setSupply _ (.refl _ s) (by decide)) (by decide))
    (by decide) h

theorem lawsNext_warmRestart (s : State) : lawsNext s (execWarmRestart s) :=
  lawsNext_whileRunning (keepsLaws_ite (.refl s) (keepsLaws_warmRestart s))

/-! ### Supply (R93, R194–R196) -/

theorem sameStance_stopped (s : State) : sameStance s s.stopped := by
  have hinputs : s.stopped.inputs = s.inputs.stop := by
    have hkept := (frame_heldNotices (L := [.notices]) (.refl _ s.ringsStopped) (by decide)).same (b := .inputs) (by decide)
    rw [State.stopped, State.setInputs_inputs, hkept, ringsStopped_inputs]
  refine ⟨fun l => ?_, by rw [hinputs]; rfl⟩
  unfold State.stance
  rw [stopped_lane, hinputs]
  rfl

theorem keepsLaws_enterHold (s : State) : keepsLaws s s.enterHold := by
  rw [enterHold_settled]
  exact keepsLaws_settle fun h => (sameStance_stopped _).modeLaw
    (lanesFreed_modeLaw (modeLaw_of_frame (beginHold_frame s) (by decide) h) _)

theorem dark_levelLaw : (State.reset.setSupply { State.reset.supply with state := .dark, backup := false }).levelLaw :=
  ⟨by decide, by decide, by decide⟩

theorem keepsLaws_goneDark (s : State) : keepsLaws s s.goneDark := ⟨fun _ => dark_levelLaw, fun _ => reset_modeLaw⟩

theorem keepsLaws_powerUp (s : State) : keepsLaws s s.powerUp := ⟨fun _ => reset_levelLaw, fun _ => reset_modeLaw⟩

theorem lawsNext_supplyHold (s : State) : lawsNext s (execSupplyHold s) :=
  lawsNext_next (keepsLaws_ite (keepsLaws_ite (keepsLaws_enterHold s) (keepsLaws_goneDark s)) (.refl s))

theorem endCutShort_modeLaw (h : s.modeLaw) : s.endCutShort.modeLaw :=
  ite_modeLaw ((sameStance_of_quiet (quiet_systemEvent _ _ (.refl _))).modeLaw (endEvacuation_modeLaw h)) h

theorem keepsLaws_leaveHold (s : State) : keepsLaws s s.leaveHold := by
  have hresumed := frame_resumeTime (frame_endHold (L := [.time, .spool, .link, .notices, .supply]) (.refl _ s)
    (by decide) (by decide) (by decide)) (by decide) (by decide) (by decide) (by decide)
  have hsampling : ∀ v : State, sameStance v (allLanes.foldl State.zeroEncoder v.resumeSampling).restartGateLine := fun v => by
    refine sameStance.on_frame (L := [.punch]) ?_ (frame_restartGateLine (.refl _ _) (by decide)) (by decide)
    exact (sameStance_setInputs (by rfl) (by rfl)).trans (sameStance_foldl sameStance_zeroEncoder allLanes _)
  unfold State.leaveHold
  exact keepsLaws_settle fun h => (hsampling _).modeLaw (endCutShort_modeLaw (modeLaw_of_frame hresumed (by decide) h))

theorem lawsNext_supplyReturn (s : State) : lawsNext s (execSupplyReturn s) := by
  refine lawsNext_next ?_
  split
  · exact .refl s
  · exact keepsLaws_leaveHold s
  · exact keepsLaws_powerUp s

theorem lawsNext_backupLoss (s : State) : lawsNext s (execBackupLoss s) := by
  refine lawsNext_next ?_
  split
  · exact (sameWorld_setSupply (by rfl)).keepsLaws
  · exact keepsLaws_goneDark s
  · exact .refl s

theorem lawsNext_powerOn (s : State) : lawsNext s (execPowerOn s) := lawsNext_next (keepsLaws_powerUp s)

end

/-! ### Every command and every step -/

/-- Every command keeps the levels and the modes right. -/
theorem lawsNext_exec (c : Instr) (s : State) : lawsNext s (exec c s) := by
  cases c with
  | clockSet => exact lawsNext_of_quiet (quietNext_clockSet _ _ _ s)
  | clockSlew => exact lawsNext_of_quiet (quietNext_clockSlew _ s)
  | clockTrim => exact lawsNext_of_quiet (quietNext_clockTrim _ s)
  | clockRead => exact lawsNext_of_quiet (quietNext_clockRead s)
  | secondEnd => exact lawsNext_of_quiet (quietNext_secondEnd s)
  | secondBoundary => exact lawsNext_secondBoundary _ s
  | deadlineExpiry => exact lawsNext_of_quiet (quietNext_deadlineExpiry s)
  | stepNotice => exact lawsNext_stepNotice _ s
  | resumptionNotice => exact lawsNext_resumptionNotice _ s
  | pendingSwitchDue => exact lawsNext_of_quiet (quietNext_pendingSwitchDue s)
  | rosterEnrol => exact lawsNext_of_quiet (quietNext_rosterEnrol _ _ _ _ s)
  | rosterAmend => exact lawsNext_of_quiet (quietNext_rosterAmend _ _ _ _ _ s)
  | rosterWithdraw => exact lawsNext_of_quiet (quietNext_rosterWithdraw _ _ s)
  | rosterRead => exact lawsNext_of_quiet (quietNext_rosterRead _ s)
  | rosterPurge => exact lawsNext_of_quiet (quietNext_rosterPurge _ s)
  | presenceSet => exact lawsNext_of_quiet (quietNext_presenceSet _ _ s)
  | presenceClear => exact lawsNext_of_quiet (quietNext_presenceClear s)
  | poll => exact lawsNext_of_quiet (quietNext_poll s)
  | pollTimeout => exact lawsNext_of_quiet (quietNext_pollTimeout s)
  | idle => exact lawsNext_of_quiet (quietNext_idle _ s)
  | garbledAnswer => exact lawsNext_of_quiet (quietNext_garbledAnswer s)
  | strayCharacters => exact lawsNext_of_quiet (quietNext_strayCharacters s)
  | punch => exact lawsNext_punch _ _ _ s
  | referralTimeout => exact lawsNext_referralTimeout _ s
  | ruling => exact lawsNext_ruling _ _ _ _ s
  | doorOpening => exact lawsNext_doorOpening _ s
  | doorClosing => exact lawsNext_doorClosing _ s
  | releaseExpiry => exact lawsNext_releaseExpiry _ s
  | heldOpenExpiry => exact lawsNext_heldOpenExpiry _ s
  | requestToExit => exact lawsNext_requestToExit _ s
  | exitAllowanceExpiry => exact lawsNext_exitAllowanceExpiry _ s
  | encoderChange => exact lawsNext_encoderChange _ _ _ s
  | interlockWaitExpiry => exact lawsNext_interlockWaitExpiry _ s
  | deadTimeEnd => exact lawsNext_deadTimeEnd _ s
  | laneMode => exact lawsNext_laneMode _ _ s
  | laneRelease => exact lawsNext_laneRelease _ _ s
  | laneRead => exact lawsNext_of_quiet (quietNext_laneRead _ s)
  | bellRing => exact lawsNext_bellRing _ _ _ s
  | bellStop => exact lawsNext_bellStop _ s
  | ringEnd => exact lawsNext_ringEnd _ s
  | cadencePhaseChange => exact lawsNext_cadencePhaseChange _ s
  | debounceSample => exact lawsNext_debounceSample _ s
  | watchFire => exact lawsNext_watchFire _ s
  | outputHold => exact lawsNext_outputHold _ _ _ s
  | egressEnd => exact lawsNext_egressEnd s
  | loadBegin => exact lawsNext_of_quiet (quietNext_loadBegin _ s)
  | loadRows => exact lawsNext_of_quiet (quietNext_loadRows _ _ _ s)
  | loadEnd => exact lawsNext_of_quiet (quietNext_loadEnd s)
  | bankSwitch => exact lawsNext_of_quiet (quietNext_bankSwitch _ s)
  | tableRead => exact lawsNext_of_quiet (quietNext_tableRead _ _ _ _ s)
  | spoolTake => exact lawsNext_of_quiet (quietNext_spoolTake _ _ s)
  | spoolClear => exact lawsNext_of_quiet (quietNext_spoolClear _ s)
  | moveWaitingTotals => exact lawsNext_of_quiet (quietNext_moveWaitingTotals s)
  | status => exact lawsNext_of_quiet (quietNext_status s)
  | setupWrite => exact lawsNext_setupWrite _ s
  | setupRead => exact lawsNext_of_quiet (quietNext_setupRead _ s)
  | restart => exact lawsNext_of_quiet (quietNext_restart s)
  | warmRestart => exact lawsNext_warmRestart s
  | frameReceipt => exact lawsNext_of_quiet (quietNext_frameReceipt _ s)
  | receiveTimeout => exact lawsNext_of_quiet (quietNext_receiveTimeout s)
  | frameDispatch => exact lawsNext_of_quiet (quietNext_frameDispatch s)
  | frameSent => exact lawsNext_of_quiet (quietNext_frameSent s)
  | silenceTimeout => exact lawsNext_of_quiet (quietNext_silenceTimeout s)
  | supplyHold => exact lawsNext_supplyHold s
  | supplyReturn => exact lawsNext_supplyReturn s
  | backupLoss => exact lawsNext_backupLoss s
  | powerOn => exact lawsNext_powerOn s
  | frameLengthBad => exact lawsNext_of_quiet (quietNext_frameLengthBad _ s)

theorem lawsNext_idleStep (s : State) : lawsNext s s.idleStep := by
  unfold State.idleStep
  split
  · exact lawsNext_exec _ s
  · exact lawsNext_next (keepsLaws_ite (.refl s) (sameWorld_of_quiet (quiet_passPeriods _ (.refl s))).keepsLaws)

/-- Every step keeps the levels and the modes right: the queue of the commands that wait touches neither. -/
theorem lawsNext_step (s : State) : lawsNext s (step s) := by
  unfold step
  split
  · exact lawsNext_idleStep s
  · intro t ht
    obtain ⟨hlevels, hmodes⟩ := lawsNext_exec _ _ t ht
    exact ⟨hlevels, hmodes⟩

/-- Settles O6: the levels are taken again wherever they may have changed, and every operation of the model keeps the law of the
modes. -/
theorem stepKeepsLevelsAndModes : Obligations.StepKeepsLevelsAndModes :=
  ⟨fun s t h ht => (lawsNext_step s t ht).levels h, fun s t h ht => (lawsNext_step s t ht).modes h⟩

end Sys2Proof.Machine
end

section
/-! ## LANE MODE (R69, R88) -/
namespace Sys2Proof.Machine

section
variable {s t u : State} {l : LaneId}

theorem askOf_toLaneMode (m : AskMode) : askOf (.listed m.toLaneMode) = some m := by cases m <;> rfl

/-- The modes of a lane after a request for a set of lanes, its levels settled (R69). -/
theorem modesAsked (s : State) (set : LaneSet) (m : AskMode) (l : LaneId) :
    (((s.askModes set m).settle.lane l).mode, ((s.askModes set m).settle.lane l).remembered) =
      if inSet set l.val = true then (((s.asking l).asked m).mode, ((s.asking l).asked m).remembered)
      else ((s.lane l).mode, (s.lane l).remembered) := by
  obtain ⟨hmode, hremembered⟩ := settle_modes (s.askModes set m) l
  have hasking := askModes_asking s set m l
  rw [hmode, hremembered]
  have hasked : ((s.askModes set m).asking l).mode = ((s.askModes set m).lane l).mode ∧
      ((s.askModes set m).asking l).remembered = ((s.askModes set m).lane l).remembered := ⟨rfl, rfl⟩
  rw [← hasked.1, ← hasked.2, hasking]
  split <;> rfl

/-- A lane for which a request is not barred is asked for the mode itself (R69, R88). -/
theorem asking_barred {set : LaneSet} {m : AskMode} (h : ¬ (m = .free ∧ ∃ l : LaneId, inSet set l.val = true ∧ s.inPair l = true))
    (hl : inSet set l.val = true) : (s.asking l).barred m = m :=
  if_neg fun ⟨hfree, hpair⟩ => h ⟨hfree, l, hl, hpair⟩

theorem exec_laneMode_barred (hrun : s.supply.state = .run) (lanes : LaneSet) {mode : Choice LaneMode} (h : askOf mode = none) :
    exec (.laneMode lanes mode) s = .next (s.refuse (.laneMode lanes mode) .badOrder) := by
  change execLaneMode lanes mode s = _
  refine (whileRunning_of_run hrun).trans ?_
  rw [h]

theorem exec_laneMode (hrun : s.supply.state = .run) (lanes : LaneSet) (m : AskMode) :
    exec (.laneMode lanes (.listed m.toLaneMode)) s = .next
      (if m = .free ∧ s.anyPaired lanes = true then s.refuse (.laneMode lanes (.listed m.toLaneMode)) .wrongState
      else (s.askModes lanes m).settle.answer (.laneMode lanes (.listed m.toLaneMode)) .ok
        (.laneModes ((s.askModes lanes m).settle.modesOf lanes))) := by
  change execLaneMode lanes (.listed m.toLaneMode) s = _
  refine (whileRunning_of_run hrun).trans ?_
  rw [askOf_toLaneMode]

theorem mem_modesOf {set : LaneSet} (hl : inSet set l.val = true) :
    (l, (s.lane l).mode, (s.lane l).remembered) ∈ s.modesOf set := by
  have hmem : ∀ m : LaneId, m ∈ allLanes := by decide
  exact List.mem_map.2 ⟨l, List.mem_filter.2 ⟨hmem l, hl⟩, rfl⟩

end

/-- Settles O36: each named lane's modes are those asked of it, FREE being barred to a member of a pair, and a used lane's live
mode in an evacuation being EGRESS by the law of the modes. -/
theorem laneModeIsWrittenOrRemembered : Obligations.LaneModeIsWrittenOrRemembered := by
  unfold Obligations.LaneModeIsWrittenOrRemembered
  refine ⟨fun s lanes code hrun => ⟨exec_laneMode_barred hrun lanes rfl, exec_laneMode_barred hrun lanes rfl⟩,
    fun s lanes m hrun hlaw => ?_⟩
  intro order barred
  have hpaired : (m = .free ∧ s.anyPaired lanes = true) ↔ barred := by rw [anyPaired_iff]
  refine ⟨fun hbarred => ?_, fun hbarred => ?_⟩
  · rw [exec_laneMode hrun, if_pos (hpaired.2 hbarred)]
  refine ⟨(s.askModes lanes m).settle, (s.askModes lanes m).settle.modesOf lanes, ?_, ?_, fun l => ?_⟩
  · rw [exec_laneMode hrun, if_neg (mt hpaired.1 hbarred)]
  · exact ((askModes_frame s lanes m).mono (by decide)).trans ((settle_frame _).mono (by decide))
  refine ⟨fun hout => ?_, fun hin hnormal => ?_, fun hin hevacuating hused => ?_, mem_modesOf⟩
  all_goals have hmodes := modesAsked s lanes m l
  · rw [hout, if_neg (by decide)] at hmodes
    exact Prod.mk.inj hmodes
  · have hnot : ¬ (s.asking l).remembers = true := fun h => by
      rw [((asking_remembers s l).1 h).1] at hnormal
      cases hnormal
    rw [if_pos hin, LaneAsking.asked, if_neg hnot, asking_barred hbarred hin] at hmodes
    exact (Prod.mk.inj hmodes).1
  · obtain ⟨hegress, -⟩ := hlaw l
    rw [if_pos hin, LaneAsking.asked, if_pos ((asking_remembers s l).2 ⟨hevacuating, hused⟩), asking_barred hbarred hin]
      at hmodes
    obtain ⟨hmode, hremembered⟩ := Prod.mk.inj hmodes
    exact ⟨hmode.trans (hegress.2 ⟨hevacuating, hused⟩), hremembered⟩

end Sys2Proof.Machine
end

section
/-! ## OUTPUT HOLD and EGRESS END (R91, R161, R164, R165) -/
namespace Sys2Proof.Machine

section
variable {s t u : State} {l : LaneId} {k : WatchId}

/-! ### OUTPUT HOLD (R160, R161) -/

theorem writeHolds_bellHolds (s : State) (releases : LaneSet) (bells : BellSet) (v : Option Bool) (b : BellId) :
    (s.writeHolds releases bells v).inputs.bellHolds[b] = if inSet bells b.val then v else s.inputs.bellHolds[b] :=
  allBells_foldl (P := fun (holds : Vector (Option Bool) 8) c => holds[c])
    (F := fun c x => if inSet bells c.val then v else x)
    (fun holds c => by
      split
      · exact putAt_same ..
      · rfl)
    (fun holds c d hne => by
      split
      · exact putAt_other _ _ _ _ hne
      · rfl) s.inputs.bellHolds b

theorem exec_outputHold (hrun : s.supply.state = .run) (releases : LaneSet) (bells : BellSet) (hold : HoldRequest) :
    exec (.outputHold releases bells hold) s = .next
      (if hold = .held true ∧ s.anyPaired releases = true then s.refuse (.outputHold releases bells hold) .wrongState
      else (s.writeHolds releases bells (holdValue hold)).settle.answer (.outputHold releases bells hold) .ok
        ((s.writeHolds releases bells (holdValue hold)).settle.holdsReport releases bells)) := by
  change execOutputHold releases bells hold s = _
  exact whileRunning_of_run hrun

theorem settle_holds (s : State) : s.settle.inputs.evacuating = s.inputs.evacuating ∧
    s.settle.inputs.startingWatch = s.inputs.startingWatch ∧ s.settle.inputs.releaseHolds = s.inputs.releaseHolds ∧
    s.settle.inputs.bellHolds = s.inputs.bellHolds := by
  have hkept := settle_undriven s
  have hevacuating := congrArg InputSampler.evacuating hkept
  have hstarting := congrArg InputSampler.startingWatch hkept
  have hreleases := congrArg InputSampler.releaseHolds hkept
  have hbells := congrArg InputSampler.bellHolds hkept
  exact ⟨hevacuating, hstarting, hreleases, hbells⟩

/-! ### The watches that hold back EGRESS END (R164) -/

/-- The first watch of which a test holds is the one found. -/
theorem allWatches_find {p : WatchId → Bool} (hk : p k = true) (hfirst : ∀ j, j < k → p j = false) :
    allWatches.find? p = some k := by
  have hplace : ∀ (i : Nat) (hi : i < allWatches.length), allWatches[i].val = i := by decide
  refine List.find?_eq_some_iff_getElem.2 ⟨hk, k.val, k.isLt, Fin.ext (hplace _ _), fun j hj => ?_⟩
  rw [hfirst _ (Fin.lt_def.2 (by rw [hplace]; exact hj))]
  rfl

theorem blockingWatch_of_starting (hk : s.holdsBack k = true) (hstarting : s.inputs.startingWatch = some k) :
    s.blockingWatch = some k := by
  unfold State.blockingWatch
  rw [hstarting]
  exact if_pos hk

theorem blockingWatch_of_first (hk : s.holdsBack k = true) (hfirst : ∀ j, j < k → s.holdsBack j = false)
    (hstarting : ∀ j, s.inputs.startingWatch = some j → s.holdsBack j = false) : s.blockingWatch = some k := by
  unfold State.blockingWatch
  split
  · next j hj =>
    rw [if_neg (by rw [hstarting j hj]; decide)]
    exact allWatches_find hk hfirst
  · exact allWatches_find hk hfirst

theorem blockingWatch_of_none (h : ∀ k, s.holdsBack k = false) : s.blockingWatch = none := by
  have hfound : allWatches.find? s.holdsBack = none := List.find?_eq_none.2 fun k _ => by rw [h k]; decide
  unfold State.blockingWatch
  split
  · next j _ => rw [if_neg (by rw [h j]; decide), hfound]
  · exact hfound

/-! ### EGRESS END (R91, R164, R165) -/

/-- The state with its evacuation, and the ring of it, at an end, its levels settled. -/
def State.calmed (s : State) : State := s.endEvacuation.endEvacRings.settle

theorem exec_egressEnd_of_blocked (hrun : s.supply.state = .run) (hevacuating : s.inputs.evacuating = true)
    (hblocked : s.blockingWatch = some k) : exec .egressEnd s = .next (s.answer .egressEnd .wrongState (.watch k)) := by
  change execEgressEnd s = _
  refine (whileRunning_of_run hrun).trans ?_
  rw [if_neg (by rw [hevacuating]; decide), hblocked]

theorem exec_egressEnd (hrun : s.supply.state = .run) (hevacuating : s.inputs.evacuating = true)
    (hfree : s.blockingWatch = none) : exec .egressEnd s =
      .next ((s.calmed.systemEvent s.calmed.now (.evacEnd .order)).answer .egressEnd .ok .none) := by
  change execEgressEnd s = _
  refine (whileRunning_of_run hrun).trans ?_
  rw [if_neg (by rw [hevacuating]; decide), hfree]
  rfl

theorem endEvacRings_frame (s : State) : unchangedBut [.bells] s s.endEvacRings := frame_endEvacRings (.refl _ _) (by decide)

theorem ringsEvacuation_endEvacRing_same (s : State) (b : BellId) : (s.endEvacRing b).ringsEvacuation b = false := by
  unfold State.endEvacRing
  split
  · simp [State.ringsEvacuation, State.endRing, State.setBell, State.setBells_bells, putAt_same]
  · next h => exact Bool.eq_false_iff.2 h

theorem ringsEvacuation_endEvacRing_other (s : State) {b c : BellId} (hne : b ≠ c) :
    (s.endEvacRing b).ringsEvacuation c = s.ringsEvacuation c := by
  unfold State.endEvacRing
  split
  · simp [State.ringsEvacuation, State.endRing, State.setBell, State.setBells_bells, putAt_other _ _ _ _ hne]
  · rfl

theorem ringsEvacuation_congr (h : t.bells.rings = s.bells.rings) (b : BellId) : t.ringsEvacuation b = s.ringsEvacuation b := by
  unfold State.ringsEvacuation
  rw [h]

/-- No bell output holds the EVACUATION ring once it has ended on every output (R147). -/
theorem endEvacRings_ringsEvacuation (s : State) (b : BellId) : s.endEvacRings.ringsEvacuation b = false := by
  have hended := allBells_foldl (P := State.ringsEvacuation) (F := fun _ _ => false) (op := State.endEvacRing)
    ringsEvacuation_endEvacRing_same (fun v _ _ hne => ringsEvacuation_endEvacRing_other v hne) s b
  unfold State.endEvacRings
  generalize allBells.foldl State.endEvacRing s = t at hended
  exact (ringsEvacuation_congr (s := t) rfl b).trans hended

theorem calmed_from_endEvacuation (s : State) : unchangedBut [.lanes, .punch, .inputs, .bells] s.endEvacuation s.calmed :=
  ((endEvacRings_frame _).mono (by decide)).trans ((settle_frame _).mono (by decide))

theorem calmed_frame (s : State) : unchangedBut [.roster, .lanes, .punch, .inputs, .bells] s s.calmed :=
  ((endEvacuation_frame s).mono (by decide)).trans ((calmed_from_endEvacuation s).mono (by decide))

theorem calmed_modes (s : State) (l : LaneId) : (s.calmed.lane l).mode = (s.endEvacuation.lane l).mode ∧
    (s.calmed.lane l).remembered = (s.endEvacuation.lane l).remembered := by
  have hlanes : s.endEvacuation.endEvacRings.lane l = s.endEvacuation.lane l :=
    congrArg (fun v : Vector Lane 8 => v[l]) ((endEvacRings_frame _).same (b := .lanes) (by decide))
  obtain ⟨hmode, hremembered⟩ := settle_modes s.endEvacuation.endEvacRings l
  rw [hlanes] at hmode hremembered
  exact ⟨hmode, hremembered⟩

theorem calmed_inputs (s : State) : s.calmed.inputs.evacuating = false ∧ s.calmed.inputs.startingWatch = none := by
  obtain ⟨hevacuating, hstarting, -⟩ := settle_holds s.endEvacuation.endEvacRings
  have hinputs : s.endEvacuation.endEvacRings.inputs = s.endEvacuation.inputs :=
    (endEvacRings_frame _).same (b := .inputs) (by decide)
  rw [hinputs, endEvacuation_inputs] at hevacuating hstarting
  exact ⟨hevacuating, hstarting⟩

theorem calmed_bells (s : State) : s.calmed.bells = s.endEvacuation.endEvacRings.bells :=
  (settle_frame _).same (b := .bells) (by decide)

theorem calmed_ringsEvacuation (s : State) (b : BellId) : s.calmed.ringsEvacuation b = false := by
  rw [ringsEvacuation_congr (s := s.endEvacuation.endEvacRings) (by rw [calmed_bells]), endEvacRings_ringsEvacuation]

theorem calmed_evacSet (s : State) : s.calmed.bells.evacSet = none := by
  rw [calmed_bells]
  rfl

end

/-- Settles O41: OUTPUT HOLD writes the named outputs' holds before the levels settle; EGRESS END finds the watch that holds it
back, or ends the evacuation, whose lanes take their remembered modes. -/
theorem holdsAreWrittenAndEvacuationsEnd : Obligations.HoldsAreWrittenAndEvacuationsEnd := by
  unfold Obligations.HoldsAreWrittenAndEvacuationsEnd
  refine ⟨fun s releases bells hold hrun => ?_, fun s hrun => ⟨fun hnormal => ?_, fun k hevacuating hk hfirst hstarting => ?_,
    fun k hevacuating hk hstarting => ?_, fun hevacuating hfree hlaw => ?_⟩⟩
  · intro order barred written
    have hpaired : (hold = .held true ∧ s.anyPaired releases = true) ↔ barred := by rw [anyPaired_iff]
    have hwritten : holdValue hold = written := by cases hold <;> rfl
    refine ⟨fun hbarred => ?_, fun hbarred => ?_⟩
    · rw [exec_outputHold hrun, if_pos (hpaired.2 hbarred)]
    obtain ⟨hevacuating, -, hreleases, hbells⟩ := settle_holds (s.writeHolds releases bells written)
    obtain ⟨-, hdrivenRelease, hdrivenBell⟩ := settle_levelLaw (s.writeHolds releases bells written)
    refine ⟨(s.writeHolds releases bells written).settle,
      (s.writeHolds releases bells written).settle.holdsReport releases bells, ?_, ?_, hevacuating, fun l => ?_, fun b => ?_, hdrivenRelease,
      hdrivenBell⟩
    · rw [exec_outputHold hrun, if_neg (mt hpaired.1 hbarred), hwritten]
    · exact (frame_writeHolds releases bells written (.refl _ s) (by decide)).trans ((settle_frame _).mono (by decide))
    · rw [hreleases, writeHolds_releaseHolds]
    · rw [hbells, writeHolds_bellHolds]
  · change execEgressEnd s = _
    exact (whileRunning_of_run hrun).trans (congrArg _ (if_pos hnormal))
  · exact exec_egressEnd_of_blocked hrun hevacuating (blockingWatch_of_first hk hfirst hstarting)
  · exact exec_egressEnd_of_blocked hrun hevacuating (blockingWatch_of_starting hk hstarting)
  have hframe := calmed_frame s
  have hnow : s.calmed.now = s.now := now_congr (hframe.same (b := .time) (by decide))
  have hentered := requestEntry_frame s.calmed (.system s.now (.evacEnd .order))
  obtain ⟨hnormal, hstarting⟩ := calmed_inputs s
  have hinputs := hentered.same (b := .inputs) (by decide)
  have hbells := hentered.same (b := .bells) (by decide)
  refine ⟨s.calmed.requestEntry (.system s.now (.evacEnd .order)), ?_, ?_, ?_, ?_, ?_, ?_, fun l => ?_, fun b => ?_, ?_⟩
  · rw [exec_egressEnd hrun hevacuating (blockingWatch_of_none hfree), hnow]
    rfl
  · exact (hframe.mono (by decide)).trans (hentered.mono (by decide))
  · rw [hinputs, hnormal]
  · rw [hinputs, hstarting]
  · rw [hbells, calmed_evacSet]
  · exact State.sent_eq_iff.1 (requestEntry_sent _ (hframe.sent (by decide) (by decide)))
  · obtain ⟨hmode, hremembered⟩ := calmed_modes s l
    have hlane : (s.calmed.requestEntry (.system s.now (.evacEnd .order))).lane l = s.calmed.lane l :=
      congrArg (fun v : Vector Lane 8 => v[l]) (hentered.same (b := .lanes) (by decide))
    rw [hlane, hmode, hremembered]
    exact endEvacuation_modes hlaw l
  · rw [ringsEvacuation_congr (s := s.calmed) (by rw [hbells]), calmed_ringsEvacuation]
  · rw [hentered.same (b := .roster) (by decide), (calmed_from_endEvacuation s).same (b := .roster) (by decide),
      endEvacuation_epoch]

end Sys2Proof.Machine
end

section
/-! ## Requests to exit and LANE RELEASE (R72, R80, R85, R86, R89) -/
namespace Sys2Proof.Machine

section
variable {s t u : State} {l m p : LaneId} {g : Grant}

/-! ### Lanes that hold no grant (R70, R72) -/

/-- An IDLE lane holds no grant, and no handed punch stands behind one (R53, R70). -/
theorem idle_ungranted (hlanes : s.laneLaw) (hidle : (s.lane l).activity = .idle) :
    (s.lane l).grant = none ∧ s.handedAt l = none := by
  obtain ⟨hreleased, hwaiting, -, hhanded, -⟩ := hlanes l
  rw [hidle] at hreleased hwaiting
  have hgrant : (s.lane l).grant = none := by
    cases hg : (s.lane l).grant with
    | none => rfl
    | some g =>
      cases hphase : g.phase with
      | waiting => exact absurd (hwaiting.2 ⟨g, hg, hphase⟩) (by decide)
      | released => exact absurd (hreleased.2 ⟨g, hg, hphase⟩) (by decide)
  refine ⟨hgrant, Option.not_isSome_iff_eq_none.1 fun hsome => ?_⟩
  obtain ⟨g, hg, -⟩ := hhanded.1 hsome
  rw [hgrant] at hg
  cases hg

theorem holdGrant_of_unhanded (h : s.handedAt l = none) (g : Grant) : s.holdGrant l g = s.setLane l (s.heldLane l g) := by
  have htold : ∀ x : Lane, (s.setLane l x).tellWaiting l = s.setLane l x := fun x => by
    unfold State.tellWaiting
    rw [show (s.setLane l x).handedAt l = none from h]
  exact htold _

/-! ### What a grant's taking turns on (R72, R84, R85) -/

/-- Between two states nothing has changed that the taking of a grant at lane `l` turns on. -/
structure sameEntry (l : LaneId) (s t : State) : Prop where
  levels : sameLevels s t
  doors : ∀ m, (t.lane m).doorOpen = (s.lane m).doorOpen ∧ (t.lane m).lastClosing = (s.lane m).lastClosing
  others : ∀ m, l ≠ m → (t.lane m).activity = (s.lane m).activity ∧ (t.lane m).grant = (s.lane m).grant
  time : t.time = s.time

theorem sameLevels.refl (s : State) : sameLevels s s := ⟨fun _ => rfl, rfl, rfl, rfl⟩

theorem sameEntry.trans (h : sameEntry l s t) (k : sameEntry l t u) : sameEntry l s u where
  levels := h.levels.trans k.levels
  doors m := ⟨(k.doors m).1.trans (h.doors m).1, (k.doors m).2.trans (h.doors m).2⟩
  others m hlm := ⟨(k.others m hlm).1.trans (h.others m hlm).1, (k.others m hlm).2.trans (h.others m hlm).2⟩
  time := k.time.trans h.time

theorem sameEntry_setLane {x : Lane} (hlevels : x.levels = (s.lane l).levels) (hdoor : x.doorOpen = (s.lane l).doorOpen)
    (hclosing : x.lastClosing = (s.lane l).lastClosing) : sameEntry l s (s.setLane l x) where
  levels := sameLevels_setLane hlevels
  doors m := by
    by_cases hlm : l = m
    · subst hlm
      rw [State.setLane_same]
      exact ⟨hdoor, hclosing⟩
    · rw [State.setLane_other _ _ _ _ hlm]
      exact ⟨rfl, rfl⟩
  others m hlm := by
    rw [State.setLane_other _ _ _ _ hlm]
    exact ⟨rfl, rfl⟩
  time := rfl

theorem sameEntry_undelivered (s : State) (l : LaneId) : sameEntry l s s.undelivered :=
  ⟨sameLevels_undelivered s, fun _ => ⟨rfl, rfl⟩, fun _ _ => ⟨rfl, rfl⟩, rfl⟩

theorem sameEntry.interlockClear (h : sameEntry l s t) (m n : LaneId) : t.interlockClear m n = s.interlockClear m n :=
  interlockClear_congr (h.levels.driveRelease n) (h.doors n).1 (h.doors n).2 (h.levels.setup m) h.time

theorem sameEntry.partnerOf (h : sameEntry l s t) (m : LaneId) : t.partnerOf m = s.partnerOf m := partnerOf_congr h.levels.setup m

theorem sameEntry.takesAtOnce (h : sameEntry l s t) : t.takesAtOnce l ↔ s.takesAtOnce l := by
  unfold State.takesAtOnce
  rw [h.partnerOf]
  refine forall₂_congr fun m hm => ?_
  rw [h.interlockClear, (h.others m (partnerOf_eq_some hm).2.2.symm).1]

theorem sameEntry.partnerStays (h : sameEntry l s t) (hs : s.partnerStays l) : t.partnerStays l := by
  intro m g hm hg hphase
  rw [h.partnerOf] at hm
  rw [(h.others m (partnerOf_eq_some hm).2.2.symm).2] at hg
  rw [h.interlockClear]
  exact hs m g hm hg hphase

/-- A lane without a grant that takes one and waits leaves what the taking turns on. -/
theorem sameEntry_heldLane (hgrant : (s.lane l).grant = none) (g : Grant) : sameEntry l s (s.setLane l (s.heldLane l g)) :=
  sameEntry_setLane (Lane.levels_eq_iff.2 ⟨rfl,
    (Lane.wantsRelease_of_waiting (x := s.heldLane l g) (g := s.heldGrant l g) rfl rfl).trans
      (Lane.wantsRelease_of_no_grant hgrant).symm, rfl⟩) rfl rfl

/-! ### A grant of an IDLE lane, taken at once or held (R72, R85, R86) -/

theorem mustWait_of_not (h : ¬ s.takesAtOnce l) : s.mustWait l = true :=
  Bool.eq_true_of_not_eq_false (mt (s.mustWait_eq_false_iff l).1 h)

theorem takeGrant_of_waits (h : ¬ s.takesAtOnce l) (g : Grant) : s.takeGrant l g = (s.holdGrant l g).lookAtEntry l :=
  if_pos (mustWait_of_not h)

/-- A grant taken at once by a lane without one is released, and the levels settle with its lane's (R72). -/
theorem takeGrant_settle_of_released (hlevels : s.levelLaw) (hsame : sameLevels s t) (hused : (t.lane l).setup.kind ≠ .unused)
    (htakes : t.takesAtOnce l) (hseen : g.passageSeen = false) :
    (t.takeGrant l g).settle = (t.releaseGrant l g).leveled l := by
  rw [State.takeGrant_of_takesAtOnce htakes, settle_granted hlevels hsame hused hseen]

/-- A grant that waits at a lane without one, its partner staying, is held, and no level changes (R85). -/
theorem takeGrant_settle_of_held (hlevels : s.levelLaw) (hsame : sameLevels s t) (hgrant : (t.lane l).grant = none)
    (hhanded : t.handedAt l = none) (hwaits : ¬ t.takesAtOnce l) (hstays : t.partnerStays l) :
    (t.takeGrant l g).settle = t.setLane l (t.heldLane l g) := by
  have hheld := sameEntry_heldLane hgrant g
  rw [takeGrant_of_waits hwaits, holdGrant_of_unhanded hhanded, State.lookAtEntry_of_partnerStays (hheld.partnerStays hstays)]
  exact (hsame.trans hheld.levels).settle hlevels

/-- The lane of a grant just released: it asks for its release (R71, R72). -/
theorem leveled_releaseGrant_lane (hused : (s.lane l).setup.kind ≠ .unused) (hseen : g.passageSeen = false) :
    ((s.releaseGrant l g).leveled l).lane l = { s.releasedLane l g with requested := true } := by
  have hwants : (s.releasedLane l g).wantsRelease = true :=
    Lane.wantsRelease_of_granted (g := s.releasedGrant l g) rfl rfl hused rfl hseen
  rw [leveled_lane_same, releaseGrant_lane_same, hwants]

theorem leveled_releaseGrant_frame (hhanded : s.handedAt l = none) (g : Grant) :
    unchangedBut [.lanes, .inputs] s ((s.releaseGrant l g).leveled l) := by
  rw [releaseGrant_of_unhanded hhanded]
  exact (frame_setLane l _ (.refl _ s) (by decide)).trans (leveled_frame _ l)

/-! ### A request to exit (R80) -/

theorem takeChange_of_exit (h : s.inputs.deliveries = [.exitRequest l]) : s.takeChange (.exitRequest l) = s.undelivered := by
  unfold State.takeChange State.dropDelivery
  simp [h, State.undelivered]

/-- The state with a request to exit taken, its allowance set (R80). -/
def State.allowed (s : State) (l : LaneId) : State :=
  s.undelivered.setLane l { s.lane l with exitAllowance := some (s.inSeconds (s.lane l).setup.releaseTime) }

theorem allowed_lane (s : State) (l : LaneId) : (s.allowed l).lane l =
    { s.lane l with exitAllowance := some (s.inSeconds (s.lane l).setup.releaseTime) } := State.setLane_same _ _ _

theorem allowed_frame (s : State) (l : LaneId) : unchangedBut [.lanes, .inputs] s (s.allowed l) :=
  frame_setLane l _ (frame_setInputs _ (.refl _ s) (by decide)) (by decide)

theorem sameEntry_allowed (s : State) (l : LaneId) : sameEntry l s (s.allowed l) :=
  (sameEntry_undelivered s l).trans (sameEntry_setLane (s := s.undelivered) rfl rfl rfl)

/-- The grant a request to exit takes (R80). -/
def exitGrant : Grant := newGrant .exitRequest .outward none none

theorem exec_requestToExit (hrun : s.supply.state = .run) (hused : (s.lane l).setup.kind ≠ .unused)
    (hd : s.inputs.deliveries = [.exitRequest l]) : exec (.requestToExit l) s = .next
      (if (s.lane l).mode = .secure ∧ (s.lane l).activity = .idle then (s.allowed l).takeGrant l exitGrant
      else s.allowed l).settle := by
  have hexec : execRequestToExit l s = .next (if ((s.takeChange (.exitRequest l)).lane l).setup.kind = .unused then
      s.takeChange (.exitRequest l) else ((s.takeChange (.exitRequest l)).exitRequested l).settle) := whileRunning_of_run hrun
  rw [takeChange_of_exit hd] at hexec
  refine (show exec (.requestToExit l) s = _ from hexec).trans (congrArg _ ((if_neg hused).trans ?_))
  rfl

/-! ### LANE RELEASE (R89) -/

theorem exec_laneRelease (hrun : s.supply.state = .run) (l : LaneId) (d : Dir) : exec (.laneRelease l.val (.listed d)) s = .next
    (if (s.lane l).setup.kind = .unused ∨ (s.lane l).mode = .free ∨ (s.lane l).mode = .egress then
      s.refuse (.laneRelease l.val (.listed d)) .wrongState
    else if (s.lane l).activity ≠ .idle then s.refuse (.laneRelease l.val (.listed d)) .busy
    else (s.takeGrant l (newGrant .remote d none none)).settle.answer (.laneRelease l.val (.listed d)) .ok
      (.grant !s.mustWait l)) := by
  change execLaneRelease l.val (.listed d) s = _
  exact (whileRunning_of_run hrun).trans (congrArg _ (dif_pos l.isLt))

/-- A lane that waits at its entry lets its partner's waiting grant go, whose condition holds, and does not go itself (R86). -/
theorem takeGrant_settle_of_partner (hlevels : s.levelLaw) (hgrant : (s.lane l).grant = none) (hhanded : s.handedAt l = none)
    (hwaits : ¬ s.takesAtOnce l) (hpartner : s.partnerOf l = some p) {k : Grant} (hk : s.waitingGrant p = some k)
    (hseen : k.passageSeen = false) (hclear : s.interlockClear p l = true)
    (hdriven : ((s.setLane l (s.heldLane l g)).releaseGrant p k).driveRelease p = true) :
    (s.takeGrant l g).settle = ((s.setLane l (s.heldLane l g)).releaseGrant p k).leveled p := by
  obtain ⟨hkind, -, hne⟩ := partnerOf_eq_some hpartner
  have hheld := sameEntry_heldLane hgrant g
  have hused : ((s.setLane l (s.heldLane l g)).lane p).setup.kind ≠ .unused := by
    rw [State.setLane_other _ _ _ _ hne.symm, hkind]
    decide
  have hpartnerWaits : (s.setLane l (s.heldLane l g)).waitingGrant p = some k :=
    (waitingGrant_congr (State.setLane_other _ _ _ _ hne.symm)).trans hk
  have honce : ((s.setLane l (s.heldLane l g)).releaseGrant p k).lookOnce l p =
      (s.setLane l (s.heldLane l g)).releaseGrant p k := by
    refine lookOnce_of_no_choice (arbiterChoice_eq_none (goesFirst_of_not_clear ?_)
      (goesFirst_of_not_waiting (releaseGrant_not_waiting _ p k) l))
    unfold State.interlockClear
    rw [hdriven]
    rfl
  have hlook : (s.setLane l (s.heldLane l g)).lookAtEntry l = (s.setLane l (s.heldLane l g)).releaseGrant p k := by
    unfold State.lookAtEntry State.lookAtPartner
    rw [hheld.partnerOf, hpartner]
    dsimp only
    rw [hpartnerWaits]
    dsimp only
    rw [if_pos ((hheld.interlockClear p l).trans hclear), honce]
  rw [takeGrant_of_waits hwaits, holdGrant_of_unhanded hhanded, hlook]
  exact settle_granted hlevels hheld.levels hused hseen

/-- An output of a used lane that asks for its release is driven on in RUN, in an evacuation or with no hold (R160). -/
theorem driveRelease_of_unheld (hrun : s.supply.state = .run) (hhold : s.inputs.releaseHolds[l] = none)
    (hwants : (s.lane l).wantsRelease = true) : s.driveRelease l = true := by
  unfold State.driveRelease
  rw [hrun]
  dsimp only
  split
  · rfl
  · rw [hhold]
    exact hwants

end

/-- A request to exit of a used lane sets the allowance, and of an IDLE lane in SECURE mode takes a grant (R80). -/
theorem requestToExit_grants {s : State} {l : LaneId} (hrun : s.supply.state = .run) (hlevels : s.levelLaw) (hlanes : s.laneLaw)
    (hused : (s.lane l).setup.kind ≠ .unused) (hentry : s.takesAtOnce l ∨ s.partnerStays l)
    (hd : s.inputs.deliveries = [.exitRequest l]) :
    ∃ t, exec (.requestToExit l) s = .next t ∧ unchangedBut [.lanes, .inputs] s t ∧ t.inputs.deliveries = [] ∧
      t.lane l = if (s.lane l).mode = .secure ∧ (s.lane l).activity = .idle then
          if s.mustWait l then (s.allowed l).heldLane l exitGrant
          else { (s.allowed l).releasedLane l exitGrant with requested := true }
        else (s.allowed l).lane l := by
  have hsame := sameEntry_allowed s l
  have hlane := allowed_lane s l
  have hexec := exec_requestToExit hrun hused hd
  by_cases htaken : (s.lane l).mode = .secure ∧ (s.lane l).activity = .idle
  · obtain ⟨hgrant, hhanded⟩ := idle_ungranted hlanes htaken.2
    have hungranted : ((s.allowed l).lane l).grant = none := by rw [hlane]; exact hgrant
    have hused' : ((s.allowed l).lane l).setup.kind ≠ .unused := by rw [hlane]; exact hused
    rw [if_pos htaken] at hexec
    rw [if_pos htaken]
    by_cases htakes : s.takesAtOnce l
    · rw [takeGrant_settle_of_released hlevels hsame.levels hused' (hsame.takesAtOnce.2 htakes) rfl] at hexec
      rw [(s.mustWait_eq_false_iff l).2 htakes]
      refine ⟨_, hexec, (allowed_frame s l).trans (leveled_releaseGrant_frame (s := s.allowed l) hhanded _), ?_, ?_⟩
      · exact congrArg InputSampler.deliveries ((releaseGrant_frame (s.allowed l) l exitGrant).same (b := .inputs) (by decide))
      · rw [leveled_releaseGrant_lane hused' rfl]
        rfl
    · have hstays := hsame.partnerStays (hentry.resolve_left htakes)
      have hwait : s.mustWait l = true := mustWait_of_not htakes
      rw [takeGrant_settle_of_held hlevels hsame.levels hungranted hhanded (mt hsame.takesAtOnce.1 htakes) hstays] at hexec
      rw [hwait]
      refine ⟨_, hexec, (allowed_frame s l).trans (frame_setLane l _ (.refl _ _) (by decide)), rfl, ?_⟩
      rw [State.setLane_same]
      rfl
  · rw [if_neg htaken, hsame.levels.settle hlevels] at hexec
    rw [if_neg htaken]
    exact ⟨_, hexec, allowed_frame s l, rfl, rfl⟩

theorem allowed_heldLane (s : State) (l : LaneId) : (s.allowed l).heldLane l exitGrant = { s.lane l with
    exitAllowance := some (s.inSeconds (s.lane l).setup.releaseTime)
    grant := some (s.heldGrant l exitGrant), activity := .interlockWait } := by
  unfold State.heldLane State.heldGrant
  rw [allowed_lane]
  rfl

theorem allowed_releasedLane (s : State) (l : LaneId) : (s.allowed l).releasedLane l exitGrant = { s.releasedLane l exitGrant with
    exitAllowance := some (s.inSeconds (s.lane l).setup.releaseTime) } := by
  unfold State.releasedLane State.releasedGrant
  rw [allowed_lane]
  rfl

/-- LANE RELEASE at an IDLE lane that may be released: its REMOTE grant is released at once (R89). -/
theorem laneRelease_releases {s : State} {l : LaneId} (d : Dir) (hlevels : s.levelLaw) (hlanes : s.laneLaw)
    (hidle : (s.lane l).activity = .idle) (hused : (s.lane l).setup.kind ≠ .unused) (htakes : s.takesAtOnce l) :
    unchangedBut [.lanes, .inputs] s (s.takeGrant l (newGrant .remote d none none)).settle ∧
      (s.takeGrant l (newGrant .remote d none none)).settle.lane l =
        { s.releasedLane l (newGrant .remote d none none) with requested := true } := by
  rw [takeGrant_settle_of_released hlevels (sameLevels.refl s) hused htakes rfl]
  exact ⟨leveled_releaseGrant_frame (idle_ungranted hlanes hidle).2 _, leveled_releaseGrant_lane hused rfl⟩

/-- LANE RELEASE at an IDLE lane whose partner's waiting grant is then released: its own grant waits (R85, R86, R89). -/
theorem laneRelease_waits_releasing {s : State} {l p : LaneId} {g k : Grant} (hrun : s.supply.state = .run) (hlevels : s.levelLaw)
    (hlanes : s.laneLaw) (hidle : (s.lane l).activity = .idle) (hpartner : s.partnerOf l = some p)
    (hk : (s.lane p).grant = some k) (hphase : k.phase = .waiting) (hseen : k.passageSeen = false)
    (hclear : s.interlockClear p l = true) (hhold : s.inputs.releaseHolds[p] = none) :
    ¬ s.takesAtOnce l ∧ ∃ t, (s.takeGrant l g).settle = t ∧ unchangedBut [.lanes, .punch, .inputs] s t ∧
      t.lane l = s.heldLane l g ∧ t.lane p = { s.releasedLane p k with requested := true } ∧
      t.inputs.drivenRelease[p] = true ∧ t.inputs.drivenRelease[l] = false := by
  obtain ⟨hkind, -, hne⟩ := partnerOf_eq_some hpartner
  obtain ⟨hgrant, hhanded⟩ := idle_ungranted hlanes hidle
  have hwaits : ¬ s.takesAtOnce l := fun h => by
    obtain ⟨-, hwaiting, -⟩ := hlanes p
    exact (h p hpartner).2 (hwaiting.2 ⟨k, hk, hphase⟩)
  have hlanep : (s.setLane l (s.heldLane l g)).lane p = s.lane p := State.setLane_other _ _ _ _ hne.symm
  have hused : ((s.setLane l (s.heldLane l g)).lane p).setup.kind ≠ .unused := by rw [hlanep, hkind]; decide
  have hframe := releaseGrant_frame (s.setLane l (s.heldLane l g)) p k
  have hinputs : ((s.setLane l (s.heldLane l g)).releaseGrant p k).inputs = s.inputs := hframe.same (b := .inputs) (by decide)
  have hwants : (((s.setLane l (s.heldLane l g)).releaseGrant p k).lane p).wantsRelease = true := by
    rw [releaseGrant_lane_same]
    exact Lane.wantsRelease_of_granted (g := (s.setLane l (s.heldLane l g)).releasedGrant p k) rfl rfl hused rfl hseen
  have hdriven : ((s.setLane l (s.heldLane l g)).releaseGrant p k).driveRelease p = true :=
    driveRelease_of_unheld ((congrArg Supply.state (hframe.same (b := .supply) (by decide))).trans hrun)
      (by rw [hinputs, hhold]) hwants
  have hoff : s.driveRelease l = false := by
    unfold State.interlockClear at hclear
    simp only [Bool.and_eq_true, Bool.not_eq_true'] at hclear
    exact hclear.1.1
  refine ⟨hwaits, _, takeGrant_settle_of_partner hlevels hgrant hhanded hwaits hpartner
    (waitingGrant_eq_some.2 ⟨hk, hphase⟩) hseen hclear hdriven, ?_, ?_, ?_, ?_, ?_⟩
  · exact (frame_setLane l _ (.refl _ s) (by decide)).trans ((hframe.mono (by decide)).trans
      ((leveled_frame _ p).mono (by decide)))
  · rw [leveled_lane_other hne, releaseGrant_lane_other k hne, State.setLane_same]
  · rw [leveled_releaseGrant_lane hused hseen]
    unfold State.releasedLane State.releasedGrant
    rw [hlanep]
    rfl
  · rw [leveled_driven_same, hdriven]
  · rw [leveled_driven_other hne, hinputs, hlevels.2.1, hoff]

/-- Settles O34: an IDLE lane holds no grant, so that one it takes at once settles with its own lane's levels, one it holds changes
no level, and one whose partner's waiting grant goes at its entry settles with the partner's. -/
theorem exitAndRemoteGrantsAreReleased : Obligations.ExitAndRemoteGrantsAreReleased := by
  unfold Obligations.ExitAndRemoteGrantsAreReleased
  refine ⟨fun s l hrun hlevels hlanes hused hentry hd => ?_, fun s lane d hrun hlane => ?_, fun s lane code hrun => ?_,
    fun s l d hrun hlevels hlanes => ?_⟩
  · obtain ⟨t, hexec, hframe, hdelivered, hlane⟩ := requestToExit_grants hrun hlevels hlanes hused hentry hd
    rw [allowed_heldLane, allowed_releasedLane, allowed_lane] at hlane
    refine ⟨t, hexec, hframe, hdelivered, ?_, fun hsecure hidle hwaits => ?_, fun hsecure hidle htakes => ?_, fun hnot => ?_⟩
    · rw [hlane]
      split_ifs <;> rfl
    · have hwait : s.mustWait l = true := mustWait_of_not hwaits
      rw [if_pos ⟨hsecure, hidle⟩, if_pos hwait] at hlane
      have hquiet : (s.lane l).requested = false := by
        rw [hlevels.1 l, Lane.wantsRelease_of_no_grant (idle_ungranted hlanes hidle).1]
        simp [Lane.modeReleases, hsecure]
      rw [hlane]
      exact ⟨rfl, hquiet, rfl⟩
    · rw [if_pos ⟨hsecure, hidle⟩, (s.mustWait_eq_false_iff l).2 htakes, if_neg (by decide)] at hlane
      rw [hlane]
      exact ⟨rfl, rfl, rfl⟩
    · rw [if_neg hnot] at hlane
      rw [hlane]
      exact ⟨rfl, rfl⟩
  · change execLaneRelease lane (.listed d) s = _
    exact (whileRunning_of_run hrun).trans (congrArg _ (dif_neg (by omega)))
  · change execLaneRelease lane (.unlisted code) s = _
    exact whileRunning_of_run hrun
  intro order barred waiting
  have hexec := exec_laneRelease hrun l d
  refine ⟨fun hbarred => ?_, fun hfree hbusy => ?_, fun hfree hidle htakes => ?_, fun hfree hidle hwaits hstays => ?_,
    fun p g hfree hidle hpartner hg hphase hseen hclear hhold => ?_⟩
  · rw [hexec, if_pos hbarred]
  · rw [hexec, if_neg hfree, if_pos hbusy]
  all_goals rw [if_neg hfree, if_neg (not_not.2 hidle)] at hexec
  all_goals obtain ⟨hgrant, hhanded⟩ := idle_ungranted hlanes hidle
  · obtain ⟨hframe, hlane⟩ := laneRelease_releases d hlevels hlanes hidle (fun hunused => hfree (.inl hunused)) htakes
    rw [(s.mustWait_eq_false_iff l).2 htakes] at hexec
    refine ⟨_, hexec, hframe, ?_⟩
    rw [hlane]
    exact ⟨rfl, rfl, rfl⟩
  · have hwait : s.mustWait l = true := mustWait_of_not hwaits
    rw [takeGrant_settle_of_held hlevels (.refl s) hgrant hhanded hwaits hstays, hwait] at hexec
    exact hexec
  · obtain ⟨hwaits, t, ht, hframe, hlane, hlanep, hdrivenp, hdrivenl⟩ :=
      laneRelease_waits_releasing (g := newGrant .remote d none none) hrun hlevels hlanes hidle hpartner hg hphase hseen hclear
        hhold
    have hwait : s.mustWait l = true := mustWait_of_not hwaits
    rw [ht, hwait] at hexec
    refine ⟨t, hexec, hframe, ?_⟩
    rw [hlane, hlanep]
    exact ⟨rfl, rfl, rfl, rfl, hdrivenp, hdrivenl, rfl⟩

end Sys2Proof.Machine
end

section
/-! ## A fold that changes each index alone and adds to a whole -/
namespace Sys2Proof.Machine

section
variable {σ ι α δ : Type} [DecidableEq ι]

/-- What is seen of a state at an index is changed by the operation for that index alone, `step` saying how, and each operation adds
to a total by what was seen at its index; all of it where a law of the state holds and what is seen fits the index. -/
structure Gathers (op : σ → ι → σ) (law : σ → Prop) (fit : ι → α → Prop) (see : σ → ι → α) (step : ι → α → α)
    (total : σ → δ) (add : ι → α → δ → δ) : Prop where
  keep : ∀ u i, law u → fit i (see u i) → law (op u i)
  same : ∀ u i, law u → fit i (see u i) → see (op u i) i = step i (see u i)
  other : ∀ u i j, law u → fit i (see u i) → i ≠ j → see (op u i) j = see u j
  gather : ∀ u i, law u → fit i (see u i) → total (op u i) = add i (see u i) (total u)

section
variable {op : σ → ι → σ} {law : σ → Prop} {fit : ι → α → Prop} {see : σ → ι → α} {step : ι → α → α} {total : σ → δ}
  {add : ι → α → δ → δ}

theorem Gathers.foldl (h : Gathers op law fit see step total add) {is : List ι} (hnodup : is.Nodup) {u : σ} (hu : law u)
    (hfit : ∀ i ∈ is, fit i (see u i)) : law (is.foldl op u) ∧
      (∀ j, see (is.foldl op u) j = if j ∈ is then step j (see u j) else see u j) ∧
      total (is.foldl op u) = is.foldl (fun d i => add i (see u i) d) (total u) := by
  induction is generalizing u with
  | nil => exact ⟨hu, fun _ => rfl, rfl⟩
  | cons i rest ih =>
    obtain ⟨hi, hrest⟩ := List.nodup_cons.1 hnodup
    have hthis := hfit i List.mem_cons_self
    have hlater : ∀ j ∈ rest, see (op u i) j = see u j := fun j hj =>
      h.other u i j hu hthis fun hij => hi (hij ▸ hj)
    obtain ⟨hlaw, hseen, htotal⟩ := ih hrest (h.keep u i hu hthis) fun j hj => by
      rw [hlater j hj]
      exact hfit j (List.mem_cons_of_mem i hj)
    refine ⟨hlaw, fun j => ?_, ?_⟩
    · rw [List.foldl_cons, hseen]
      by_cases hij : i = j
      · subst hij
        rw [if_neg hi, if_pos List.mem_cons_self, h.same u i hu hthis]
      · rw [h.other u i j hu hthis hij]
        exact if_congr (by simp [Ne.symm hij]) rfl rfl
    · rw [List.foldl_cons, List.foldl_cons, htotal, h.gather u i hu hthis]
      exact List.foldl_ext _ _ _ fun d j hj => by rw [hlater j hj]

/-- The fold over every index. -/
theorem Gathers.foldl_all (h : Gathers op law fit see step total add) {is : List ι} (hnodup : is.Nodup) (hall : ∀ i, i ∈ is) {u : σ}
    (hu : law u) (hfit : ∀ i, fit i (see u i)) : law (is.foldl op u) ∧
      (∀ j, see (is.foldl op u) j = step j (see u j)) ∧
      total (is.foldl op u) = is.foldl (fun d i => add i (see u i) d) (total u) := by
  obtain ⟨hlaw, hseen, htotal⟩ := h.foldl hnodup hu fun i _ => hfit i
  exact ⟨hlaw, fun j => by rw [hseen, if_pos (hall j)], htotal⟩

end

omit [DecidableEq ι] in
/-- A disjunction gathered over a list. -/
theorem foldl_or_eq_true {p : ι → Bool} {is : List ι} {d : Bool} :
    is.foldl (fun d i => d || p i) d = true ↔ d = true ∨ ∃ i ∈ is, p i = true := by
  induction is generalizing d with
  | nil => simp
  | cons i rest ih => simp [ih, or_assoc]

omit [DecidableEq ι] in
/-- Lists appended one after another. -/
theorem foldl_append_flatMap {β : Type} {f : ι → List β} {is : List ι} {d : List β} :
    is.foldl (fun d i => d ++ f i) d = d ++ is.flatMap f := by
  rw [List.foldl_append_eq_append, List.flatMap_def]

end

end Sys2Proof.Machine
end

section
/-! ## One line at one sample, and the general inputs (R154, R155, R157) -/
namespace Sys2Proof.Machine

/-! ### One line (R154, R155) -/

section
variable {x : Line} {k : Nat} {v : Bool}

theorem sample_of_equal (h : x.level = some v) : x.sample k v = ({ x with run := 0, last := v }, .quiet) := by
  unfold Line.sample
  rw [h]
  exact if_pos rfl

theorem sample_of_differing (h : x.level = some v) : x.sample k (!v) =
    if k ≤ x.run + 1 then (.settled (!v), .change) else ({ x with run := x.run + 1, last := !v }, .quiet) := by
  unfold Line.sample
  rw [h]
  exact if_neg (by simp)

theorem sample_of_absent (h : x.level = none) : x.sample k v =
    if k ≤ (if x.run = 0 ∨ x.last ≠ v then 1 else x.run + 1) then (.settled v, .status)
    else (⟨none, if x.run = 0 ∨ x.last ≠ v then 1 else x.run + 1, v⟩, .quiet) := by
  unfold Line.sample
  rw [h]

end

/-! ### The scan of the general inputs (R154) -/

/-- The event of a general input's sample. -/
def State.generalEvent (s : State) (levels : InputSet) (i : Fin 16) : LineEvent :=
  ((s.inputs.general[i]).sample s.setup.general.generalDebounce.count (inSet levels i.val)).2

theorem inSet_or_bit (changed : InputSet) (i j : Fin 16) :
    inSet (changed ||| BitVec.ofNat 16 (2 ^ i.val)) j.val = (inSet changed j.val || decide (i = j)) := by
  unfold inSet
  rw [BitVec.getLsbD_or, BitVec.getLsbD_ofNat, Nat.testBit_two_pow]
  simp [Fin.ext_iff]

theorem scanGeneral_gathers (count : Nat) (levels : InputSet) : Gathers (scanGeneral count levels) (fun _ => True)
    (fun _ _ => True) (fun acc i => (acc.lines[i], inSet acc.changed i.val))
    (fun i x => ((x.1.sample count (inSet levels i.val)).1, x.2 || decide ((x.1.sample count (inSet levels i.val)).2 = .change)))
    GeneralScan.acquired (fun i x d => d || decide ((x.1.sample count (inSet levels i.val)).2 = .status)) where
  keep _ _ _ _ := trivial
  same acc i _ _ := by
    unfold scanGeneral
    dsimp only
    refine Prod.ext (putAt_same _ _ _) ?_
    dsimp only
    split
    · next h => rw [inSet_or_bit, decide_eq_true rfl, decide_eq_true h]
    · next h => rw [decide_eq_false h, Bool.or_false]
  other acc i j _ _ hij := by
    unfold scanGeneral
    dsimp only
    refine Prod.ext (putAt_other _ _ _ _ hij) ?_
    dsimp only
    split
    · rw [inSet_or_bit, decide_eq_false hij, Bool.or_false]
    · rfl
  gather _ _ _ _ := rfl

/-- The scan of the general inputs at a sample (R154). -/
@[irreducible] def State.scan (s : State) (levels : InputSet) : GeneralScan :=
  allInputs.foldl (scanGeneral s.setup.general.generalDebounce.count levels) ⟨s.inputs.general, 0, false⟩

/-- The scan of the general inputs: each line sampled, with the lines that changed and whether any was acquired. -/
theorem scanGeneral_all (s : State) (levels : InputSet) :
    (∀ i : Fin 16, (s.scan levels).lines[i] =
      ((s.inputs.general[i]).sample s.setup.general.generalDebounce.count (inSet levels i.val)).1) ∧
    (∀ i : Fin 16, inSet (s.scan levels).changed i.val = decide (s.generalEvent levels i = .change)) ∧
    ((s.scan levels).acquired = true ↔ ∃ i, s.generalEvent levels i = .status) := by
  unfold State.scan
  obtain ⟨-, hseen, htotal⟩ := (scanGeneral_gathers s.setup.general.generalDebounce.count levels).foldl_all
    (is := allInputs) (by decide) (by decide) (u := ⟨s.inputs.general, 0, false⟩) trivial fun _ => trivial
  have hnone : ∀ i : Fin 16, inSet (0 : InputSet) i.val = false := fun i => BitVec.getLsbD_zero
  refine ⟨fun i => congrArg Prod.fst (hseen i), fun i => ?_, ?_⟩
  · refine (congrArg Prod.snd (hseen i)).trans ?_
    dsimp only
    rw [hnone, Bool.false_or]
    rfl
  · have hmem : ∀ i : Fin 16, i ∈ allInputs := by decide
    rw [htotal, foldl_or_eq_true]
    simp [hmem, State.generalEvent]

theorem inSet_ne_zero {set : InputSet} : set ≠ 0 ↔ ∃ i : Fin 16, inSet set i.val = true := by
  rw [← not_iff_not, not_not, not_exists]
  constructor
  · rintro rfl i
    simp [inSet]
  · intro h
    refine BitVec.eq_of_getLsbD_eq fun i hi => ?_
    exact (Bool.eq_false_iff.2 (h ⟨i, hi⟩)).trans BitVec.getLsbD_zero.symm

theorem inSet_and (a b : InputSet) (i : Nat) : inSet (a &&& b) i = (inSet a i && inSet b i) := BitVec.getLsbD_and ..

end Sys2Proof.Machine
end

section
/-! ## The general inputs told to the watches (R154, R157) -/
namespace Sys2Proof.Machine

section
variable {s t u : State} {k : WatchId}

/-- Whether a watch is to fire as a sample has changed some lines (R157). -/
def State.fires (s : State) (changed : InputSet) (k : WatchId) : Bool :=
  s.watchLive k &&
    ((decide ((s.watch k).mode = .change) && decide (changed &&& (s.watch k).mask ≠ 0)) || s.becomesEqual k)

/-- The equality state a watch has once it has been told of a sample (R157). -/
def State.equalTold (s : State) (k : WatchId) (equal : Bool) : Bool :=
  if (s.watch k).enable = true ∧ (s.watch k).mode = .equals then s.watchMatches k else equal

theorem tellWatch_eq (changed : InputSet) (s : State) (k : WatchId) : State.tellWatch changed s k = s.setInputs { s.inputs with
    equal := if (s.watch k).enable = true ∧ (s.watch k).mode = .equals then putAt s.inputs.equal k (s.watchMatches k)
      else s.inputs.equal
    deliveries := s.inputs.deliveries ++ if s.fires changed k = true then [.watch k] else [] } := by
  have hevaluated : s.evaluate k = s.setInputs { s.inputs with
      equal := if (s.watch k).enable = true ∧ (s.watch k).mode = .equals then putAt s.inputs.equal k (s.watchMatches k)
        else s.inputs.equal } := by
    unfold State.evaluate State.setEqual
    split <;> rfl
  unfold State.tellWatch
  dsimp only
  rw [hevaluated]
  change (if s.fires changed k = true then _ else _) = _
  split
  · rfl
  · rw [List.append_nil]

/-- From one state on nothing has changed but the watches' equality states and what is delivered. -/
structure watchesTold (s t : State) : Prop where
  frame : unchangedBut [.inputs] s t
  inputs : t.inputs = { s.inputs with equal := t.inputs.equal, deliveries := t.inputs.deliveries }

theorem watchesTold.refl (s : State) : watchesTold s s := ⟨.refl _ s, rfl⟩

theorem watchesTold.watch (h : watchesTold s t) (k : WatchId) : t.watch k = s.watch k := by
  unfold State.watch
  rw [h.frame.same (b := .setup) (by decide)]

theorem watchMatches_congr (hgeneral : t.inputs.general = s.inputs.general) (hwatch : t.watch k = s.watch k) :
    t.watchMatches k = s.watchMatches k := by
  unfold State.watchMatches State.generalPresent State.generalLevels
  rw [hgeneral, hwatch]

theorem watchesTold.general (h : watchesTold s t) : t.inputs.general = s.inputs.general := by rw [h.inputs]

theorem watchesTold.watchMatches (h : watchesTold s t) (k : WatchId) : t.watchMatches k = s.watchMatches k :=
  watchMatches_congr h.general (h.watch k)

/-- Whether a watch with a given equality state is to fire (R157). -/
def State.firesFrom (s : State) (changed : InputSet) (k : WatchId) (equal : Bool) : Bool :=
  s.watchLive k && ((decide ((s.watch k).mode = .change) && decide (changed &&& (s.watch k).mask ≠ 0)) ||
    ((s.watch k).enable && decide ((s.watch k).mode = .equals) && !equal && s.watchMatches k))

theorem watchesTold.fires (h : watchesTold s t) (changed : InputSet) (k : WatchId) :
    t.fires changed k = s.firesFrom changed k t.inputs.equal[k] := by
  unfold State.fires State.firesFrom State.watchLive State.becomesEqual
  rw [h.watch, h.watchMatches]

theorem watchesTold.equalTold (h : watchesTold s t) (k : WatchId) : t.equalTold k = s.equalTold k := by
  funext equal
  unfold State.equalTold
  rw [h.watch, h.watchMatches]

theorem tellWatch_gathers (changed : InputSet) (s : State) : Gathers (State.tellWatch changed) (watchesTold s) (fun _ _ => True)
    (fun u k => u.inputs.equal[k]) s.equalTold (fun u => u.inputs.deliveries)
    (fun k e d => d ++ if s.firesFrom changed k e = true then [.watch k] else []) where
  keep u k hu _ := by
    rw [tellWatch_eq]
    refine ⟨hu.frame.trans (frame_setInputs _ (.refl _ u) (by decide)), ?_⟩
    rw [State.setInputs_inputs, hu.inputs]
  same u k hu _ := by
    rw [tellWatch_eq, State.setInputs_inputs, ← hu.equalTold]
    unfold State.equalTold
    split
    · exact putAt_same ..
    · rfl
  other u k j hu _ hkj := by
    rw [tellWatch_eq, State.setInputs_inputs]
    split
    · exact putAt_other _ _ _ _ hkj
    · rfl
  gather u k hu _ := by
    rw [tellWatch_eq, State.setInputs_inputs, ← hu.fires]

/-- The watches told of a sample, each in its turn. -/
theorem tellWatch_all (changed : InputSet) (s : State) :
    let t := allWatches.foldl (State.tellWatch changed) s
    watchesTold s t ∧ (∀ k : WatchId, t.inputs.equal[k] = s.equalTold k s.inputs.equal[k]) ∧
      t.inputs.deliveries = s.inputs.deliveries ++
        (allWatches.filter fun k => s.firesFrom changed k s.inputs.equal[k]).map Delivery.watch := by
  intro t
  obtain ⟨htold, hequal, hdelivered⟩ := (tellWatch_gathers changed s).foldl_all (is := allWatches) (by decide) (by decide)
    (watchesTold.refl s) fun _ => trivial
  refine ⟨htold, hequal, hdelivered.trans ?_⟩
  rw [foldl_append_flatMap]
  congr 1
  induction allWatches with
  | nil => rfl
  | cons k rest ih =>
    rw [List.flatMap_cons, List.filter_cons, ih]
    split <;> rfl

/-- The state with its general inputs sampled, before the watches are told (R154). -/
def State.scanned (s : State) (levels : InputSet) : State :=
  s.setInputs { s.inputs with
    general := (s.scan levels).lines
    nextGeneral := s.time.elapsed + s.setup.general.generalDebounce.period }

theorem scanned_frame (s : State) (levels : InputSet) : unchangedBut [.inputs] s (s.scanned levels) :=
  frame_setInputs _ (.refl _ s) (by decide)

theorem scanned_untold (s : State) (levels : InputSet) : (s.scanned levels).inputs.deliveries = s.inputs.deliveries ∧
    (s.scanned levels).inputs.equal = s.inputs.equal := ⟨rfl, rfl⟩

theorem scanned_general (s : State) (levels : InputSet) : (s.scanned levels).inputs.general = (s.scan levels).lines := rfl

theorem scanned_watch (s : State) (levels : InputSet) (k : WatchId) : (s.scanned levels).watch k = s.watch k ∧
    (s.scanned levels).watchLive k = s.watchLive k := ⟨rfl, rfl⟩

theorem sampleGeneral_of_reached (h : s.inputs.nextGeneral ≤ s.time.elapsed) (levels : InputSet) :
    s.sampleGeneral levels = if (s.scan levels).changed ≠ 0 ∨ (s.scan levels).acquired = true then
      allWatches.foldl (State.tellWatch (s.scan levels).changed) (s.scanned levels) else s.scanned levels := by
  unfold State.sampleGeneral State.scanned State.scan
  dsimp only
  rw [reach_of_reached h]
  rfl

theorem changed_or_acquired_iff (s : State) (levels : InputSet) :
    ((s.scan levels).changed ≠ 0 ∨ (s.scan levels).acquired = true) ↔ ∃ i, s.generalEvent levels i ≠ .quiet := by
  obtain ⟨-, hchanged, hacquired⟩ := scanGeneral_all s levels
  rw [inSet_ne_zero, hacquired, ← exists_or]
  refine exists_congr fun i => ?_
  rw [hchanged]
  cases s.generalEvent levels i <;> simp

/-- The watches a sample tells to fire. -/
theorem firesFrom_iff (changed : InputSet) (equal : Bool) : s.firesFrom changed k equal = true ↔ s.watchLive k = true ∧
    (((s.watch k).mode = .change ∧ changed &&& (s.watch k).mask ≠ 0) ∨
      ((s.watch k).mode = .equals ∧ equal = false ∧ s.watchMatches k = true)) := by
  have henable : s.watchLive k = true → (s.watch k).enable = true := fun h => by
    unfold State.watchLive at h
    exact (Bool.and_eq_true_iff.1 h).1
  unfold State.firesFrom
  simp only [Bool.and_eq_true, Bool.or_eq_true, decide_eq_true_eq, Bool.not_eq_true']
  refine and_congr_right fun hlive => or_congr_right ?_
  simp only [henable hlive, true_and, and_assoc]

/-- What a sample of the general group, its moment reached, leaves of the inputs. -/
theorem sampleGeneral_effects (hreached : s.inputs.nextGeneral ≤ s.time.elapsed) (levels : InputSet) :
    let told := ∃ i, s.generalEvent levels i ≠ .quiet
    ∃ fired : List WatchId, watchesTold (s.scanned levels) (s.sampleGeneral levels) ∧
      (s.sampleGeneral levels).inputs.deliveries = s.inputs.deliveries ++ fired.map Delivery.watch ∧
      (∀ k : WatchId, (told → (s.sampleGeneral levels).inputs.equal[k] = (s.scanned levels).equalTold k s.inputs.equal[k]) ∧
        (¬ told → (s.sampleGeneral levels).inputs.equal[k] = s.inputs.equal[k])) ∧
      fired.Pairwise (· < ·) ∧ ∀ k : WatchId, k ∈ fired ↔ told ∧ s.watchLive k = true ∧
        (((s.watch k).mode = .change ∧
            ∃ i : Fin 16, s.generalEvent levels i = .change ∧ inSet (s.watch k).mask i.val = true) ∨
          ((s.watch k).mode = .equals ∧ s.inputs.equal[k] = false ∧ (s.scanned levels).watchMatches k = true)) := by
  intro told
  have hsampled := sampleGeneral_of_reached hreached levels
  have htold := changed_or_acquired_iff s levels
  obtain ⟨-, hchanged, -⟩ := scanGeneral_all s levels
  by_cases h : told
  · rw [if_pos (htold.2 h)] at hsampled
    obtain ⟨hwatches, hequal, hdelivered⟩ := tellWatch_all (s.scan levels).changed (s.scanned levels)
    obtain ⟨hsame, hequals⟩ := scanned_untold s levels
    rw [← hsampled] at hwatches hequal hdelivered
    rw [hsame, hequals] at hdelivered
    rw [hequals] at hequal
    refine ⟨_, hwatches, hdelivered, fun k => ⟨fun _ => hequal k, fun hnot => absurd h hnot⟩,
      List.Pairwise.filter _ (by decide), fun k => ?_⟩
    have hmem : ∀ k : WatchId, k ∈ allWatches := by decide
    obtain ⟨hwatch, hlive⟩ := scanned_watch s levels k
    rw [List.mem_filter, and_iff_right (hmem k), firesFrom_iff, and_iff_right h, hwatch, hlive]
    refine and_congr_right fun _ => or_congr_left (and_congr_right fun _ => ?_)
    rw [inSet_ne_zero]
    refine exists_congr fun i => ?_
    rw [inSet_and, hchanged, Bool.and_eq_true, decide_eq_true_eq]
  · rw [if_neg (mt htold.1 h)] at hsampled
    rw [hsampled]
    refine ⟨[], .refl _, (List.append_nil _).symm, fun k => ⟨fun hyes => absurd hyes h, fun _ => rfl⟩, .nil, fun k => ?_⟩
    exact iff_of_false List.not_mem_nil fun hk => h hk.1

end

end Sys2Proof.Machine
end

section
/-! ## The lane contacts and the encoder lines (R74, R81, R93, R154, R155) -/
namespace Sys2Proof.Machine

section
variable {s t u : State} {l m : LaneId}

/-! ### A lane's contacts (R74, R93, R154) -/

/-- A lane's door contact and request-to-exit input, with the lane. -/
structure ContactView where
  lane : Lane
  door : Line
  exit : Line

def State.contacts (s : State) (l : LaneId) : ContactView := ⟨s.lane l, s.inputs.doors[l], s.inputs.exits[l]⟩

/-- A lane as it takes its door's first debounced level, at a time and since a supply return (R74, R93). -/
def Lane.doorFound (x : Lane) (isOpen : Bool) (now : Elapsed) (returned : Option Elapsed) : Lane :=
  if isOpen = true then { x with doorOpen := true, heldTimer := some (now + 1000 * x.setup.heldLimit) }
  else if x.doorOpen = true then { x with doorOpen := false, lastClosing := returned.or x.lastClosing, heldTimer := none }
  else x

/-- A lane after a sample of its door contact. -/
def Lane.contactTaken (x : Lane) (isOpen : Bool) (e : LineEvent) (now : Elapsed) (returned : Option Elapsed) : Lane :=
  if e = .status ∧ x.setup.kind = .door then x.doorFound isOpen now returned else x

/-- What a sample of a lane's contacts delivers. -/
def contactDeliveries (l : LaneId) (isOpen active : Bool) (onDoor onExit : LineEvent) : List Delivery :=
  (if onDoor = .change then [.door l isOpen] else []) ++ (if onExit = .change ∧ active = true then [.exitRequest l] else [])

theorem setLane_self (s : State) (l : LaneId) : s.setLane l (s.lane l) = s := by
  refine eq_of_unchangedBut (L := [.lanes]) (frame_setLane l _ (.refl _ s) (by decide)) fun b hb => ?_
  rw [List.mem_singleton] at hb
  subst hb
  exact lanes_eq fun m => by
    by_cases hlm : l = m
    · subst hlm
      exact State.setLane_same ..
    · exact State.setLane_other _ _ _ _ hlm

theorem Lane.contactTaken_of_status {x : Lane} (h : x.setup.kind = .door) (isOpen : Bool) (now : Elapsed) (returned : Option Elapsed) :
    x.contactTaken isOpen .status now returned = x.doorFound isOpen now returned := if_pos ⟨rfl, h⟩

theorem Lane.contactTaken_of_not_status {e : LineEvent} (h : e ≠ .status) (x : Lane) (isOpen : Bool) (now : Elapsed)
    (returned : Option Elapsed) : x.contactTaken isOpen e now returned = x := if_neg fun hc => h hc.1

theorem Lane.contactTaken_of_not_door {x : Lane} (h : x.setup.kind ≠ .door) (isOpen : Bool) (e : LineEvent) (now : Elapsed)
    (returned : Option Elapsed) : x.contactTaken isOpen e now returned = x := if_neg fun hc => h hc.2

/-- A door's first level, taken by a lane in no pair or by one that is no DOOR lane, touches that lane alone. -/
theorem takeDoorStatus_eq (hpair : (s.lane l).setup.kind = .door → s.partnerOf l = none) (isOpen : Bool) :
    s.takeDoorStatus l isOpen =
      s.setLane l ((s.lane l).contactTaken isOpen .status s.time.elapsed s.supply.returnedAt) := by
  unfold State.takeDoorStatus
  dsimp only
  by_cases hkind : (s.lane l).setup.kind = .door
  · rw [if_neg (not_not.2 hkind), Lane.contactTaken_of_status hkind, recordClosing_of_unpaired (hpair hkind),
      look_of_unpaired ((partnerOf_congr (setLane_setup (by rfl)) l).trans (hpair hkind))]
    unfold Lane.doorFound
    split
    · rfl
    · split
      · rfl
      · exact (setLane_self s l).symm
  · rw [if_pos hkind, Lane.contactTaken_of_not_door hkind, setLane_self]

theorem setInputs_undelivered (s : State) : s.setInputs { s.inputs with deliveries := s.inputs.deliveries ++ [] } = s := by
  rw [List.append_nil]
  rfl

theorem deliverDoor_eq (isOpen : Bool) (e : LineEvent)
    (hpair : e = .status → (s.lane l).setup.kind = .door → s.partnerOf l = none) :
    s.deliverDoor l isOpen e = (s.setInputs { s.inputs with
      deliveries := s.inputs.deliveries ++ if e = .change then [.door l isOpen] else [] }).setLane l
        ((s.lane l).contactTaken isOpen e s.time.elapsed s.supply.returnedAt) := by
  cases e with
  | quiet =>
    rw [if_neg nofun, setInputs_undelivered, Lane.contactTaken_of_not_status (by decide), setLane_self]
    rfl
  | change =>
    rw [if_pos rfl, Lane.contactTaken_of_not_status (by decide)]
    exact (setLane_self (s.setInputs _) l).symm
  | status =>
    rw [if_neg nofun, setInputs_undelivered, ← takeDoorStatus_eq (hpair rfl)]
    rfl

theorem deliverExit_eq (s : State) (l : LaneId) (active : Bool) (e : LineEvent) :
    s.deliverExit l active e = s.setInputs { s.inputs with
      deliveries := s.inputs.deliveries ++ if e = .change ∧ active = true then [.exitRequest l] else [] } := by
  cases e with
  | quiet =>
    rw [if_neg (by simp), setInputs_undelivered]
    rfl
  | change =>
    cases active with
    | true => rfl
    | false =>
      rw [if_neg (by simp), setInputs_undelivered]
      rfl
  | status =>
    rw [if_neg (by simp), setInputs_undelivered]
    rfl

/-- The contacts sampled, with what the sample leaves of the lane. -/
theorem sampleContact_eq (count : Nat) (doors exits : LaneSet) (s : State) (l : LaneId)
    (hpair : ((s.inputs.doors[l]).sample count (inSet doors l.val)).2 = .status → (s.lane l).setup.kind = .door →
      s.partnerOf l = none) :
    let d := (s.inputs.doors[l]).sample count (inSet doors l.val)
    let e := (s.inputs.exits[l]).sample count (inSet exits l.val)
    State.sampleContact count doors exits s l = (s.setInputs { s.inputs with
      doors := putAt s.inputs.doors l d.1, exits := putAt s.inputs.exits l e.1
      deliveries := s.inputs.deliveries ++ contactDeliveries l (inSet doors l.val) (inSet exits l.val) d.2 e.2 }).setLane l
        ((s.lane l).contactTaken (inSet doors l.val) d.2 s.time.elapsed s.supply.returnedAt) := by
  intro d e
  have hunpaired : ∀ x, d.2 = .status → ((s.setInputs x).lane l).setup.kind = .door → (s.setInputs x).partnerOf l = none :=
    fun x hd hk => (partnerOf_congr (fun _ => rfl) l).trans (hpair hd hk)
  unfold State.sampleContact contactDeliveries
  dsimp only
  rw [deliverDoor_eq _ _ (hunpaired _), deliverExit_eq, ← List.append_assoc]
  rfl

/-! ### The contacts of every lane -/

/-- From one state on nothing has changed but the lanes, their setups kept, the contact lines and what is delivered. -/
structure contactsTaken (s t : State) : Prop where
  frame : unchangedBut [.inputs, .lanes] s t
  inputs : t.inputs = { s.inputs with doors := t.inputs.doors, exits := t.inputs.exits, deliveries := t.inputs.deliveries }
  levels : ∀ m, (t.lane m).levels = (s.lane m).levels

theorem contactTaken_levels (x : Lane) (isOpen : Bool) (e : LineEvent) (now : Elapsed) (returned : Option Elapsed) :
    (x.contactTaken isOpen e now returned).levels = x.levels := by
  unfold Lane.contactTaken Lane.doorFound
  split_ifs <;> rfl

theorem contactsTaken.setup (h : contactsTaken s t) (m : LaneId) : (t.lane m).setup = (s.lane m).setup :=
  (Lane.levels_eq_iff.1 (h.levels m)).1

theorem sampleContact_gathers (count : Nat) (doors exits : LaneSet) (s : State) :
    Gathers (State.sampleContact count doors exits) (contactsTaken s)
      (fun l x => (x.door.sample count (inSet doors l.val)).2 = .status → x.lane.setup.kind = .door → s.partnerOf l = none)
      State.contacts
      (fun l x => ⟨x.lane.contactTaken (inSet doors l.val) (x.door.sample count (inSet doors l.val)).2 s.time.elapsed
          s.supply.returnedAt,
        (x.door.sample count (inSet doors l.val)).1, (x.exit.sample count (inSet exits l.val)).1⟩)
      (fun u => u.inputs.deliveries)
      (fun l x d => d ++ contactDeliveries l (inSet doors l.val) (inSet exits l.val)
        (x.door.sample count (inSet doors l.val)).2 (x.exit.sample count (inSet exits l.val)).2) where
  keep u l hu hfit := by
    have heq := sampleContact_eq count doors exits u l fun hd hk => (partnerOf_congr hu.setup l).trans (hfit hd hk)
    dsimp only at heq
    rw [heq]
    refine ⟨hu.frame.trans (frame_setLane l _ (frame_setInputs _ (.refl _ u) (by decide)) (by decide)), ?_, fun m => ?_⟩
    · rw [State.setLane_inputs, State.setInputs_inputs, hu.inputs]
    · by_cases hlm : l = m
      · subst hlm
        rw [State.setLane_same, contactTaken_levels, hu.levels]
      · rw [State.setLane_other _ _ _ _ hlm]
        exact hu.levels m
  same u l hu hfit := by
    have heq := sampleContact_eq count doors exits u l fun hd hk => (partnerOf_congr hu.setup l).trans (hfit hd hk)
    dsimp only at heq
    unfold State.contacts
    rw [heq, State.setLane_same, State.setLane_inputs, State.setInputs_inputs, hu.frame.same (b := .time) (by decide),
      hu.frame.same (b := .supply) (by decide)]
    simp only [Fin.getElem_fin, putAt_same]
  other u l m hu hfit hlm := by
    have heq := sampleContact_eq count doors exits u l fun hd hk => (partnerOf_congr hu.setup l).trans (hfit hd hk)
    dsimp only at heq
    unfold State.contacts
    rw [heq, State.setLane_other _ _ _ _ hlm, State.setLane_inputs, State.setInputs_inputs]
    simp only [Fin.getElem_fin, putAt_other _ _ _ _ hlm]
    rfl
  gather u l hu hfit := by
    have heq := sampleContact_eq count doors exits u l fun hd hk => (partnerOf_congr hu.setup l).trans (hfit hd hk)
    dsimp only at heq
    rw [heq, State.setLane_inputs, State.setInputs_inputs]
    rfl

end

end Sys2Proof.Machine
end

section
/-! ## The encoder lines (R81, R154, R155) -/
namespace Sys2Proof.Machine

section
variable {s t u : State} {l m : LaneId}

/-- A lane's encoder lines, with the lane. -/
structure EncoderView where
  lane : Lane
  lineA : Line
  lineB : Line

def State.encoders (s : State) (l : LaneId) : EncoderView := ⟨s.lane l, s.inputs.encodersA[l], s.inputs.encodersB[l]⟩

/-- The first level a TURNSTILE lane's sample gives a line, if any (R81, R155). -/
def Lane.statusOf (x : Lane) (e : LineEvent) (level : Bool) : Option Bool :=
  if x.setup.kind = .turnstile then e.status? level else none

/-- What a sample gives the first line, and what it gives the second. -/
def EncoderView.sampleA (x : EncoderView) (count : Nat) (a : Bool) : Line × LineEvent := x.lineA.sample count a
def EncoderView.sampleB (x : EncoderView) (count : Nat) (b : Bool) : Line × LineEvent := x.lineB.sample count b

/-- A lane after a sample of its encoder lines: a first level is taken into the decoder pair (R81, R155). -/
def EncoderView.taken (x : EncoderView) (count : Nat) (a b : Bool) : Lane :=
  { x.lane with
    decoderA := (x.lane.statusOf (x.sampleA count a).2 a).getD x.lane.decoderA
    decoderB := (x.lane.statusOf (x.sampleB count b).2 b).getD x.lane.decoderB }

/-- A waiting change as it carries the first levels of its pair (R155). -/
def EncoderView.carries (x : EncoderView) (count : Nat) (a b : Bool) (l : LaneId) : Delivery → Delivery :=
  Delivery.withLines l (x.lane.statusOf (x.sampleA count a).2 a) (x.lane.statusOf (x.sampleB count b).2 b)

/-- What a sample of a lane's encoder lines delivers (R154). -/
def EncoderView.delivers (x : EncoderView) (count : Nat) (a b : Bool) (l : LaneId) : List Delivery :=
  if (x.sampleA count a).2 = .change ∨ (x.sampleB count b).2 = .change then
    [.encoder l ((x.sampleA count a).1.level.getD (x.taken count a b).decoderA)
      ((x.sampleB count b).1.level.getD (x.taken count a b).decoderB)]
  else []

theorem withLines_none (l : LaneId) (d : Delivery) : d.withLines l none none = d := by
  cases d with
  | encoder m x y => exact ite_self _
  | door m x => rfl
  | exitRequest m => rfl
  | watch k => rfl

theorem takeEncoderStatus_eq (s : State) (l : LaneId) (a b : Bool) (onA onB : LineEvent) :
    s.takeEncoderStatus l a b onA onB = (s.setLane l { s.lane l with
      decoderA := ((s.lane l).statusOf onA a).getD (s.lane l).decoderA
      decoderB := ((s.lane l).statusOf onB b).getD (s.lane l).decoderB }).fitDeliveries l
        ((s.lane l).statusOf onA a) ((s.lane l).statusOf onB b) := by
  unfold State.takeEncoderStatus Lane.statusOf
  by_cases hkind : (s.lane l).setup.kind = .turnstile
  · rw [if_pos hkind, if_pos hkind]
    exact if_neg (not_not.2 hkind)
  · rw [if_neg hkind, if_neg hkind]
    refine (if_pos hkind).trans ?_
    unfold State.fitDeliveries
    rw [show Delivery.withLines l none none = id from funext (withLines_none l), List.map_id]
    exact (setLane_self s l).symm

/-- The encoder lines of a lane sampled, with what the sample leaves of the lane. -/
theorem sampleEncoder_eq (count : Nat) (as bs : LaneSet) (s : State) (l : LaneId) :
    State.sampleEncoder count as bs s l =
      (s.setLane l ((s.encoders l).taken count (inSet as l.val) (inSet bs l.val))).setInputs { s.inputs with
        encodersA := putAt s.inputs.encodersA l ((s.encoders l).sampleA count (inSet as l.val)).1
        encodersB := putAt s.inputs.encodersB l ((s.encoders l).sampleB count (inSet bs l.val)).1
        deliveries := s.inputs.deliveries.map ((s.encoders l).carries count (inSet as l.val) (inSet bs l.val) l) ++
          (s.encoders l).delivers count (inSet as l.val) (inSet bs l.val) l } := by
  have hdelivered : ∀ v : State, v.lane l = (s.encoders l).taken count (inSet as l.val) (inSet bs l.val) → ∀ x y,
      v.deliver (.encoder l (Option.getD x (v.lane l).decoderA) (Option.getD y (v.lane l).decoderB)) = v.setInputs { v.inputs with
        deliveries := v.inputs.deliveries ++
          [.encoder l (x.getD ((s.encoders l).taken count (inSet as l.val) (inSet bs l.val)).decoderA)
            (y.getD ((s.encoders l).taken count (inSet as l.val) (inSet bs l.val)).decoderB)] } := fun v hv x y => by
    rw [hv]
    rfl
  unfold State.sampleEncoder
  dsimp only
  rw [takeEncoderStatus_eq]
  by_cases h : ((s.encoders l).sampleA count (inSet as l.val)).2 = .change ∨
      ((s.encoders l).sampleB count (inSet bs l.val)).2 = .change
  · rw [show (s.encoders l).delivers count (inSet as l.val) (inSet bs l.val) l = _ from if_pos h]
    refine (if_pos h).trans ((hdelivered _ ?_ _ _).trans rfl)
    exact State.setLane_same _ _ _
  · rw [show (s.encoders l).delivers count (inSet as l.val) (inSet bs l.val) l = _ from if_neg h, List.append_nil]
    exact if_neg h

/-! ### The encoder lines of every lane -/

/-- From one state on nothing has changed but the lanes, the encoder lines and what is delivered. -/
structure encodersTaken (s t : State) : Prop where
  frame : unchangedBut [.inputs, .lanes] s t
  inputs : t.inputs =
    { s.inputs with encodersA := t.inputs.encodersA, encodersB := t.inputs.encodersB, deliveries := t.inputs.deliveries }

theorem sampleEncoder_gathers (count : Nat) (as bs : LaneSet) (s : State) :
    Gathers (State.sampleEncoder count as bs) (encodersTaken s) (fun _ _ => True) State.encoders
      (fun l x => ⟨x.taken count (inSet as l.val) (inSet bs l.val), (x.sampleA count (inSet as l.val)).1,
        (x.sampleB count (inSet bs l.val)).1⟩)
      (fun u => u.inputs.deliveries)
      (fun l x d => d.map (x.carries count (inSet as l.val) (inSet bs l.val) l) ++
        x.delivers count (inSet as l.val) (inSet bs l.val) l) where
  keep u l hu _ := by
    rw [sampleEncoder_eq]
    refine ⟨hu.frame.trans (frame_setInputs _ (frame_setLane l _ (.refl _ u) (by decide)) (by decide)), ?_⟩
    rw [State.setInputs_inputs, hu.inputs]
  same u l _ _ := by
    have hlane : ∀ x y, ((u.setLane l x).setInputs y).lane l = x := fun x _ => State.setLane_same u l x
    rw [sampleEncoder_eq]
    unfold State.encoders
    rw [hlane, State.setInputs_inputs]
    simp only [Fin.getElem_fin, putAt_same]
  other u l m _ _ hlm := by
    have hlane : ∀ x y, ((u.setLane l x).setInputs y).lane m = u.lane m := fun x _ => State.setLane_other u l m x hlm
    rw [sampleEncoder_eq]
    unfold State.encoders
    rw [hlane, State.setInputs_inputs]
    simp only [Fin.getElem_fin, putAt_other _ _ _ _ hlm]
  gather u l _ _ := by rw [sampleEncoder_eq, State.setInputs_inputs]

/-! ### The changes of the pairs that wait (R155) -/

theorem carries_other {x : EncoderView} {count : Nat} {a b : Bool} (hlm : l ≠ m) (y z : Bool) :
    x.carries count a b l (.encoder m y z) = .encoder m y z := if_neg (Ne.symm hlm)

theorem carries_same {x : EncoderView} {count : Nat} {a b : Bool} (y z : Bool) : x.carries count a b l (.encoder l y z) =
    .encoder l ((x.lane.statusOf (x.sampleA count a).2 a).getD y) ((x.lane.statusOf (x.sampleB count b).2 b).getD z) :=
  if_pos rfl

/-- Changes carried through each index's own map, with what each index adds after, where no index's map changes what another adds. -/
theorem foldl_map_append {ι β : Type} [DecidableEq ι] {f : ι → β → β} {g : ι → List β}
    (hfixed : ∀ i j, i ≠ j → ∀ x ∈ g i, f j x = x) {is : List ι} (hnodup : is.Nodup) (d : List β) :
    is.foldl (fun d i => d.map (f i) ++ g i) d = d.map (fun x => is.foldl (fun y i => f i y) x) ++ is.flatMap g := by
  induction is generalizing d with
  | nil => simp
  | cons i rest ih =>
    obtain ⟨hi, hrest⟩ := List.nodup_cons.1 hnodup
    have hkept : (g i).map (fun x => rest.foldl (fun y j => f j y) x) = g i := by
      refine (List.map_congr_left fun x hx => ?_).trans (List.map_id _)
      exact List.foldlRecOn (motive := fun y => y = x) rest _ rfl fun y hy j hj => by
        rw [hy, hfixed i j (fun hij => hi (hij ▸ hj)) x hx]
    rw [List.foldl_cons, ih hrest, List.map_append, hkept, List.map_map, List.flatMap_cons, List.append_assoc]
    rfl

/-- A change of a lane's pair that waits, carried through the samples of every lane: that lane's own alone touches it. -/
theorem foldl_carries_encoder (v : LaneId → EncoderView) (count : Nat) (as bs : LaneSet) {is : List LaneId} (hnodup : is.Nodup)
    (m : LaneId) (y z : Bool) :
    is.foldl (fun d l => (v l).carries count (inSet as l.val) (inSet bs l.val) l d) (.encoder m y z) =
      if m ∈ is then (v m).carries count (inSet as m.val) (inSet bs m.val) m (.encoder m y z) else .encoder m y z := by
  have hothers : ∀ (js : List LaneId), m ∉ js → ∀ y z,
      js.foldl (fun d l => (v l).carries count (inSet as l.val) (inSet bs l.val) l d) (.encoder m y z) = .encoder m y z :=
    fun js hm y z => List.foldlRecOn (motive := fun d => d = Delivery.encoder m y z) js _ rfl fun d hd l hl => by
      rw [hd]
      exact carries_other (fun hlm : l = m => hm (hlm ▸ hl)) y z
  induction is with
  | nil => rfl
  | cons l rest ih =>
    obtain ⟨hl, hrest⟩ := List.nodup_cons.1 hnodup
    rw [List.foldl_cons]
    by_cases hlm : l = m
    · subst hlm
      rw [if_pos List.mem_cons_self, carries_same, hothers rest hl]
    · rw [carries_other hlm, ih hrest]
      exact if_congr (by simp [Ne.symm hlm]) rfl rfl

theorem foldl_carries_other (v : LaneId → EncoderView) (count : Nat) (as bs : LaneSet) (is : List LaneId) {d : Delivery}
    (hd : ∀ l a b, Delivery.withLines l a b d = d) :
    is.foldl (fun d l => (v l).carries count (inSet as l.val) (inSet bs l.val) l d) d = d :=
  List.foldlRecOn (motive := fun e => e = d) is _ rfl fun e he l _ => by
    rw [he]
    exact hd l _ _

theorem delivers_carries {x : EncoderView} (v : LaneId → EncoderView) {count : Nat} {a b : Bool} (hlm : l ≠ m) :
    ∀ d ∈ x.delivers count a b l, ∀ a' b', (v m).carries count a' b' m d = d := by
  intro d hd a' b'
  unfold EncoderView.delivers at hd
  split at hd
  · rw [List.mem_singleton] at hd
    subst hd
    exact carries_other (Ne.symm hlm) _ _
  · cases hd

/-- The changes that wait as a sample of the encoder lines of every lane leaves them. -/
def State.carried (s : State) (count : Nat) (as bs : LaneSet) (d : Delivery) : Delivery :=
  allLanes.foldl (fun d l => (s.encoders l).carries count (inSet as l.val) (inSet bs l.val) l d) d

/-- The encoder lines of every lane sampled. -/
theorem sampleEncoder_all (count : Nat) (as bs : LaneSet) (s : State) :
    encodersTaken s (allLanes.foldl (State.sampleEncoder count as bs) s) ∧
      (∀ l, (allLanes.foldl (State.sampleEncoder count as bs) s).encoders l =
        ⟨(s.encoders l).taken count (inSet as l.val) (inSet bs l.val), ((s.encoders l).sampleA count (inSet as l.val)).1,
          ((s.encoders l).sampleB count (inSet bs l.val)).1⟩) ∧
      (allLanes.foldl (State.sampleEncoder count as bs) s).inputs.deliveries = s.inputs.deliveries.map (s.carried count as bs) ++
        allLanes.flatMap fun l => (s.encoders l).delivers count (inSet as l.val) (inSet bs l.val) l := by
  obtain ⟨htaken, hlanes, hdelivered⟩ := (sampleEncoder_gathers count as bs s).foldl_all (is := allLanes) (u := s) (by decide)
    (by decide) ⟨.refl _ s, rfl⟩ fun _ => trivial
  refine ⟨htaken, hlanes, ?_⟩
  rw [hdelivered, foldl_map_append (f := fun l => (s.encoders l).carries count (inSet as l.val) (inSet bs l.val) l)
    (fun l m hlm d hd => delivers_carries s.encoders hlm d hd _ _) (by decide)]
  rfl

theorem carried_encoder (s : State) (count : Nat) (as bs : LaneSet) (m : LaneId) (y z : Bool) :
    s.carried count as bs (.encoder m y z) = .encoder m
      (((s.lane m).statusOf ((s.encoders m).sampleA count (inSet as m.val)).2 (inSet as m.val)).getD y)
      (((s.lane m).statusOf ((s.encoders m).sampleB count (inSet bs m.val)).2 (inSet bs m.val)).getD z) := by
  have hmem : ∀ l : LaneId, l ∈ allLanes := by decide
  exact (foldl_carries_encoder s.encoders count as bs (by decide) m y z).trans ((if_pos (hmem m)).trans (carries_same y z))

theorem statusOf_getD (x : Lane) (e : LineEvent) (level y : Bool) :
    (x.statusOf e level).getD y = if x.setup.kind = .turnstile ∧ e = .status then level else y := by
  unfold Lane.statusOf LineEvent.status?
  by_cases hkind : x.setup.kind = .turnstile
  · by_cases he : e = .status
    · rw [if_pos hkind, if_pos he, if_pos ⟨hkind, he⟩]
      rfl
    · rw [if_pos hkind, if_neg he, if_neg fun h => he h.2]
      rfl
  · rw [if_neg hkind, if_neg fun h => hkind h.1]
    rfl

end

end Sys2Proof.Machine
end

section
/-! ## A sample of each group (R154, R155, R157) -/
namespace Sys2Proof.Machine

section
variable {s t u : State} {l m : LaneId}

theorem exec_debounceGeneral (hrun : s.supply.state = .run) (levels : InputSet) :
    exec (.debounceSample (.general levels)) s = .next (s.sampleGeneral levels) := by
  change execDebounceSample (.general levels) s = _
  exact whileRunning_of_run hrun

theorem exec_debounceContacts (hrun : s.supply.state = .run) (doors exits : LaneSet) :
    exec (.debounceSample (.contacts doors exits)) s = .next (s.sampleContacts doors exits) := by
  change execDebounceSample (.contacts doors exits) s = _
  exact whileRunning_of_run hrun

theorem exec_debounceEncoders (hrun : s.supply.state = .run) (a b : LaneSet) :
    exec (.debounceSample (.encoders a b)) s = .next (s.sampleEncoders a b) := by
  change execDebounceSample (.encoders a b) s = _
  exact whileRunning_of_run hrun

/-! ### The contacts -/

/-- The state as a sample of the contacts begins, the next moment set (R154). -/
def State.contactsTimed (s : State) : State :=
  s.setInputs { s.inputs with nextContacts := s.time.elapsed + s.setup.general.contactDebounce.period }

/-- What a door's line gives at a sample of the contacts. -/
def State.doorSample (s : State) (doors : LaneSet) (l : LaneId) : Line × LineEvent :=
  (s.inputs.doors[l]).sample s.setup.general.contactDebounce.count (inSet doors l.val)

/-- What a request-to-exit's line gives at a sample of the contacts. -/
def State.exitSample (s : State) (exits : LaneSet) (l : LaneId) : Line × LineEvent :=
  (s.inputs.exits[l]).sample s.setup.general.contactDebounce.count (inSet exits l.val)

theorem contacts_eq_iff {x : Lane} {d e : Line} :
    s.contacts l = ⟨x, d, e⟩ ↔ s.lane l = x ∧ s.inputs.doors[l] = d ∧ s.inputs.exits[l] = e := by
  unfold State.contacts
  rw [ContactView.mk.injEq]

theorem Lane.contactTaken_eq_doorFound {x : Lane} {e : LineEvent} (h : e = .status ∧ x.setup.kind = .door) (isOpen : Bool)
    (now : Elapsed) (returned : Option Elapsed) : x.contactTaken isOpen e now returned = x.doorFound isOpen now returned :=
  if_pos h

/-- What the Input Sampler holds after a sample of the contacts has delivered. -/
theorem contactsTaken.inputs_of (h : contactsTaken s.contactsTimed t) {d : List Delivery} (hd : t.inputs.deliveries = d) :
    t.inputs = { s.inputs with
      doors := t.inputs.doors, exits := t.inputs.exits
      nextContacts := s.time.elapsed + s.setup.general.contactDebounce.period
      deliveries := d } := by
  subst hd
  exact h.inputs

/-- The contacts of every lane sampled, where no member of a pair takes a first level of its door. -/
theorem sampleContacts_effects (hlevels : s.levelLaw) (hreached : s.inputs.nextContacts ≤ s.time.elapsed) (doors exits : LaneSet)
    (hpaired : ∀ l, s.inPair l = true → ¬ ((s.doorSample doors l).2 = .status ∧ (s.lane l).setup.kind = .door)) :
    contactsTaken s.contactsTimed (s.sampleContacts doors exits) ∧
      (∀ l, (s.sampleContacts doors exits).contacts l = ⟨(s.lane l).contactTaken (inSet doors l.val) (s.doorSample doors l).2
        s.time.elapsed s.supply.returnedAt, (s.doorSample doors l).1, (s.exitSample exits l).1⟩) ∧
      (s.sampleContacts doors exits).inputs.deliveries = s.inputs.deliveries ++ allLanes.flatMap fun l =>
        contactDeliveries l (inSet doors l.val) (inSet exits l.val) (s.doorSample doors l).2 (s.exitSample exits l).2 := by
  have hunpaired : ∀ l, (s.doorSample doors l).2 = .status → (s.lane l).setup.kind = .door → s.contactsTimed.partnerOf l = none :=
    fun l hd hk => (partnerOf_congr (fun _ => rfl) l).trans
      (partnerOf_eq_none (Bool.eq_false_iff.2 fun hpair => hpaired l hpair ⟨hd, hk⟩))
  obtain ⟨htaken, hlanes, hdelivered⟩ :=
    (sampleContact_gathers s.setup.general.contactDebounce.count doors exits s.contactsTimed).foldl_all (is := allLanes)
      (u := s.contactsTimed) (by decide) (by decide) ⟨.refl _ _, rfl, fun _ => rfl⟩ hunpaired
  have hsampled : s.sampleContacts doors exits = (allLanes.foldl
      (State.sampleContact s.setup.general.contactDebounce.count doors exits) s.contactsTimed).settle := by
    unfold State.sampleContacts State.contactsTimed
    dsimp only
    rw [reach_of_reached hreached]
    rfl
  generalize allLanes.foldl (State.sampleContact s.setup.general.contactDebounce.count doors exits) s.contactsTimed = v
    at htaken hlanes hdelivered hsampled
  have hsame : sameOutputs s v := by
    refine ⟨htaken.levels, by rw [htaken.inputs]; rfl, htaken.frame.same (b := .bells) (by decide), ?_⟩
    rw [htaken.frame.same (b := .supply) (by decide)]
    rfl
  rw [hsampled, settle_of_levelLaw (hsame.levelLaw hlevels)]
  refine ⟨htaken, hlanes, ?_⟩
  rw [hdelivered, foldl_append_flatMap]
  rfl

/-! ### The encoder lines -/

/-- The state as a sample of the encoder lines begins, the next moment set (R154). -/
def State.encodersTimed (s : State) : State :=
  s.setInputs { s.inputs with nextEncoders := s.time.elapsed + s.setup.general.encoderDebounce.period }

theorem encoders_eq_iff {x : Lane} {a b : Line} :
    s.encoders l = ⟨x, a, b⟩ ↔ s.lane l = x ∧ s.inputs.encodersA[l] = a ∧ s.inputs.encodersB[l] = b := by
  unfold State.encoders
  rw [EncoderView.mk.injEq]

/-- What the Input Sampler holds after a sample of the encoder lines has delivered. -/
theorem encodersTaken.inputs_of (h : encodersTaken s.encodersTimed t) {d : List Delivery} (hd : t.inputs.deliveries = d) :
    t.inputs = { s.inputs with
      encodersA := t.inputs.encodersA, encodersB := t.inputs.encodersB
      nextEncoders := s.time.elapsed + s.setup.general.encoderDebounce.period
      deliveries := d } := by
  subst hd
  exact h.inputs

theorem EncoderView.taken_eq (x : EncoderView) (count : Nat) (a b : Bool) : x.taken count a b = { x.lane with
    decoderA := if x.lane.setup.kind = .turnstile ∧ (x.sampleA count a).2 = .status then a else x.lane.decoderA
    decoderB := if x.lane.setup.kind = .turnstile ∧ (x.sampleB count b).2 = .status then b else x.lane.decoderB } := by
  unfold EncoderView.taken
  rw [statusOf_getD, statusOf_getD]

/-- What an encoder line gives at a sample of the encoder lines: the first line, then the second. -/
def State.sampleA (s : State) (as : LaneSet) (l : LaneId) : Line × LineEvent :=
  (s.inputs.encodersA[l]).sample s.setup.general.encoderDebounce.count (inSet as l.val)
def State.sampleB (s : State) (bs : LaneSet) (l : LaneId) : Line × LineEvent :=
  (s.inputs.encodersB[l]).sample s.setup.general.encoderDebounce.count (inSet bs l.val)

/-- A delivery that waits as a sample of the encoder lines leaves it: a change of a pair carries a first level of its lines (R155). -/
def State.acquired (s : State) (as bs : LaneSet) : Delivery → Delivery
  | .encoder l x y => .encoder l
      (if (s.lane l).setup.kind = .turnstile ∧ (s.sampleA as l).2 = .status then inSet as l.val else x)
      (if (s.lane l).setup.kind = .turnstile ∧ (s.sampleB bs l).2 = .status then inSet bs l.val else y)
  | d => d

theorem carried_eq_acquired (s : State) (as bs : LaneSet) :
    s.encodersTimed.carried s.setup.general.encoderDebounce.count as bs = s.acquired as bs := funext fun d => by
  cases d with
  | encoder m y z =>
    rw [carried_encoder, statusOf_getD, statusOf_getD]
    rfl
  | door m y => exact foldl_carries_other _ _ _ _ _ fun _ _ _ => rfl
  | exitRequest m => exact foldl_carries_other _ _ _ _ _ fun _ _ _ => rfl
  | watch k => exact foldl_carries_other _ _ _ _ _ fun _ _ _ => rfl

/-- What a lane's encoder lines deliver at a sample that leaves the lane as `x` (R154). -/
def State.encoderDeliveries (s : State) (as bs : LaneSet) (x : Lane) (l : LaneId) : List Delivery :=
  if (s.sampleA as l).2 = .change ∨ (s.sampleB bs l).2 = .change then
    [.encoder l ((s.sampleA as l).1.level.getD x.decoderA) ((s.sampleB bs l).1.level.getD x.decoderB)]
  else []

theorem sampleEncoders_of_reached (hreached : s.inputs.nextEncoders ≤ s.time.elapsed) (as bs : LaneSet) :
    s.sampleEncoders as bs = allLanes.foldl (State.sampleEncoder s.setup.general.encoderDebounce.count as bs) s.encodersTimed := by
  unfold State.sampleEncoders State.encodersTimed
  dsimp only
  rw [reach_of_reached hreached]
  rfl

/-- The encoder lines of every lane sampled. -/
theorem sampleEncoders_effects (hreached : s.inputs.nextEncoders ≤ s.time.elapsed) (as bs : LaneSet) :
    encodersTaken s.encodersTimed (s.sampleEncoders as bs) ∧
      (∀ l, (s.sampleEncoders as bs).encoders l = ⟨(s.encoders l).taken s.setup.general.encoderDebounce.count (inSet as l.val)
        (inSet bs l.val), (s.sampleA as l).1, (s.sampleB bs l).1⟩) ∧
      (s.sampleEncoders as bs).inputs.deliveries = s.inputs.deliveries.map (s.acquired as bs) ++
        allLanes.flatMap fun l => s.encoderDeliveries as bs ((s.sampleEncoders as bs).lane l) l := by
  obtain ⟨htaken, hlanes, hdelivered⟩ := sampleEncoder_all s.setup.general.encoderDebounce.count as bs s.encodersTimed
  rw [← sampleEncoders_of_reached hreached] at htaken hlanes hdelivered
  generalize s.sampleEncoders as bs = t at htaken hlanes hdelivered
  refine ⟨htaken, hlanes, ?_⟩
  rw [hdelivered, carried_eq_acquired]
  refine congrArg _ (List.flatMap_congr fun l _ => ?_)
  rw [(encoders_eq_iff.1 (hlanes l)).1]
  rfl

end

end Sys2Proof.Machine
end

section
/-! ## The samples as the rules give them (R74, R81, R93, R154, R155, R157) -/
namespace Sys2Proof.Machine

/-- A run that has begun with the level sampled goes on (R155). -/
theorem run_continues {x : Line} {v : Bool} (hpos : 0 < x.run) (hlast : x.last = v) : ¬ (x.run = 0 ∨ x.last ≠ v) := by
  rintro (hzero | hother)
  · omega
  · exact hother hlast

/-- Settles O39: a line's sample case by case; each group's sample as a fold that changes each line, watch or lane alone and adds to
what is delivered. -/
theorem samplesDebounceTheLines : Obligations.SamplesDebounceTheLines := by
  unfold Obligations.SamplesDebounceTheLines
  refine ⟨fun x k v hlevel hk => ⟨sample_of_equal hlevel, fun hrun => ?_, fun hrun => ?_⟩,
    fun x k v hlevel hk hrun => ⟨fun hfresh => ?_, fun hpos hlast hmore => ?_, fun hpos hlast hmore => ?_⟩,
    fun s levels hrun hreached => ?_, fun s doors exits hrun hlevels hreached => ?_, fun s a b hrun hreached => ?_⟩
  · rw [sample_of_differing hlevel, if_neg (by omega)]
  · rw [sample_of_differing hlevel, if_pos hrun]
    rfl
  · rw [sample_of_absent hlevel, if_pos hfresh, if_neg (by omega)]
  · rw [sample_of_absent hlevel, if_neg (run_continues hpos hlast), if_neg (by omega)]
  · rw [sample_of_absent hlevel, if_neg (run_continues hpos hlast), if_pos (by omega)]
    rfl
  · intro event told
    obtain ⟨fired, htold, hdelivered, hequal, hordered, hfired⟩ := sampleGeneral_effects hreached levels
    obtain ⟨hlines, -, -⟩ := scanGeneral_all s levels
    refine ⟨s.sampleGeneral levels, fired, exec_debounceGeneral hrun levels, (scanned_frame s levels).trans htold.frame, ?_,
      fun i => ?_, fun k => ⟨fun hyes henable hmode => ?_, fun hnot => ?_⟩, hordered, fun k => ?_⟩
    · refine htold.inputs.trans ?_
      rw [hdelivered, htold.general]
      rfl
    · rw [htold.general, scanned_general]
      exact hlines i
    · rw [(hequal k).1 hyes, htold.watchMatches]
      exact if_pos ⟨henable, hmode⟩
    · by_cases hyes : told
      · rw [(hequal k).1 hyes]
        exact if_neg fun hasked => hnot ⟨hyes, hasked⟩
      · exact (hequal k).2 hyes
    · rw [hfired, htold.watchMatches]
      constructor
      · rintro ⟨hyes, hlive, hchange | ⟨hmode, hequals, hmatch⟩⟩
        · exact ⟨hlive, .inl hchange⟩
        · exact ⟨hlive, .inr ⟨hmode, hyes, hequals, hmatch⟩⟩
      · rintro ⟨hlive, ⟨hmode, i, hi, hmask⟩ | ⟨hmode, hyes, hequals, hmatch⟩⟩
        · exact ⟨⟨i, fun hquiet => by rw [show s.generalEvent levels i = .change from hi] at hquiet; cases hquiet⟩, hlive,
            .inl ⟨hmode, i, hi, hmask⟩⟩
        · exact ⟨hyes, hlive, .inr ⟨hmode, hequals, hmatch⟩⟩
  · intro count door exit status hpaired
    obtain ⟨htaken, hlanes, hdelivered⟩ := sampleContacts_effects hlevels hreached doors exits hpaired
    have hexec := exec_debounceContacts hrun doors exits
    generalize s.sampleContacts doors exits = t at htaken hlanes hdelivered hexec
    refine ⟨t, hexec, (frame_setInputs _ (.refl _ s) (by decide)).trans htaken.frame, htaken.inputs_of hdelivered, fun l => ?_⟩
    obtain ⟨hlane, hdoor, hexit⟩ := contacts_eq_iff.1 (hlanes l)
    refine ⟨hdoor, hexit, fun hnot => ?_, fun hstatus hopen => ?_, fun hstatus hshut hwas => ?_, fun hstatus hshut hwas => ?_⟩
    · rw [hlane]
      exact if_neg hnot
    all_goals
      refine hlane.trans ((Lane.contactTaken_eq_doorFound hstatus _ _ _).trans ?_)
      unfold Lane.doorFound
    · rw [if_pos hopen]
    · rw [hshut, hwas, if_neg (by decide), if_neg (by decide)]
    · rw [hshut, hwas, if_neg (by decide), if_pos rfl]
  · intro count lineA lineB acquired
    obtain ⟨htaken, hlanes, hdelivered⟩ := sampleEncoders_effects hreached a b
    have hexec := exec_debounceEncoders hrun a b
    generalize s.sampleEncoders a b = t at htaken hlanes hdelivered hexec
    refine ⟨t, hexec, (frame_setInputs _ (.refl _ s) (by decide)).trans htaken.frame, htaken.inputs_of hdelivered, fun l => ?_⟩
    obtain ⟨hlane, hlineA, hlineB⟩ := encoders_eq_iff.1 (hlanes l)
    exact ⟨hlineA, hlineB, hlane.trans (EncoderView.taken_eq _ _ _ _)⟩

end Sys2Proof.Machine
end

section
/-! ## A lane's setup written (R64, R65, R66) -/
namespace Sys2Proof.Machine

section
variable {s t u : State} {l m : LaneId} {r : LaneSetupRequest} {x : LaneSetup} {kind : LaneKind} {mode : ReleaseMode}
  {passback : PassbackPolicy} {miss : MissPolicy} {fail : FailMode}

/-! ### What a setup placed in its lane sets, and what follows for its mode and its pair leaves (R66) -/

/-- What of a lane a setup placed in it sets, with what no mode, pair or dead time changes. -/
structure LaneWork where
  setup : LaneSetup
  pendingSetup : Option LaneSetup
  grant : Option Grant
  encoder : Int
  held : Bool
  exitAllowance : Option Elapsed
  doorOpen : Bool

def Lane.work (x : Lane) : LaneWork :=
  ⟨x.setup, x.pendingSetup, x.grant, x.encoder, x.held, x.exitAllowance, x.doorOpen⟩

theorem Lane.work_eq_iff {x y : Lane} : x.work = y.work ↔ x.setup = y.setup ∧ x.pendingSetup = y.pendingSetup ∧
    x.grant = y.grant ∧ x.encoder = y.encoder ∧ x.held = y.held ∧ x.exitAllowance = y.exitAllowance ∧ x.doorOpen = y.doorOpen := by
  simp only [Lane.work, LaneWork.mk.injEq]

def sameWork (s t : State) : Prop := ∀ l, (t.lane l).work = (s.lane l).work

theorem sameWork.refl (s : State) : sameWork s s := fun _ => rfl

theorem sameWork.trans (h : sameWork s t) (k : sameWork t u) : sameWork s u := fun l => (k l).trans (h l)

theorem sameWork_setLane {x : Lane} (h : x.work = (s.lane l).work) : sameWork s (s.setLane l x) := fun m => by
  by_cases hlm : l = m
  · subst hlm
    rw [State.setLane_same, h]
  · rw [State.setLane_other _ _ _ _ hlm]

theorem sameWork_ite {c : Prop} [Decidable c] (ht : sameWork s t) (hu : sameWork s u) : sameWork s (if c then t else u) := by
  split
  · exact ht
  · exact hu

theorem sameWork_setMode (s : State) (l : LaneId) (m : LaneMode) : sameWork s (s.setMode l m) :=
  sameWork_ite (.refl s) (sameWork_setLane rfl)

theorem sameWork_restoreMode (s : State) (l : LaneId) : sameWork s (s.restoreMode l) := by
  unfold State.restoreMode
  split
  · exact .refl s
  · exact (sameWork_setMode s l _).trans (sameWork_setLane rfl)

theorem sameWork_kindInEvacuation (s : State) (l : LaneId) (was now : LaneKind) :
    sameWork s (s.kindInEvacuation l was now) :=
  sameWork_ite (sameWork_ite (sameWork_setLane rfl) (sameWork_ite (sameWork_restoreMode s l) (.refl s))) (.refl s)

theorem sameWork_fitPairMember (s : State) (l : LaneId) : sameWork s (s.fitPairMember l) := by
  have hmode : sameWork s (s.modeFitted l) := sameWork_ite (sameWork_setMode s l _) (.refl s)
  have hremembered : ∀ v, sameWork v (v.rememberedFitted l) := fun v => sameWork_ite (sameWork_setLane rfl) (.refl v)
  have hheld : ∀ v, sameWork v (v.holdFitted l) := fun v => sameWork_ite (fun _ => rfl) (.refl v)
  rw [fitPairMember_eq]
  exact hmode.trans ((hremembered _).trans (hheld _))

theorem sameWork_fitPair (s : State) (l : LaneId) : sameWork s (s.fitPair l) := by
  cases hpartner : s.partnerOf l with
  | none =>
    rw [fitPair_of_none hpartner]
    exact .refl s
  | some p =>
    rw [fitPair_of_partner hpartner]
    exact (sameWork_fitPairMember s l).trans (sameWork_fitPairMember _ p)

theorem sameWork_dropIfLeft (s : State) (before : Bool) (i : Head) : sameWork s (s.dropIfLeft before i) :=
  sameWork_ite (fun _ => rfl) (.refl s)

theorem sameWork_foldl_keepDead (was : State) (ls : List LaneId) (s : State) : sameWork s (ls.foldl (State.keepDead was) s) :=
  List.foldlRecOn (motive := sameWork s) ls _ (.refl s) fun _ hv _ _ => hv.trans (sameWork_setLane rfl)

theorem applySetup_work (s : State) (l : LaneId) (x : LaneSetup) : sameWork (s.placeSetup l x) (s.applySetup l x) :=
  ((sameWork_kindInEvacuation _ l _ _).trans ((sameWork_fitPair _ l).trans (sameWork_foldl_keepDead s _ _))).trans
    ((sameWork_dropIfLeft _ _ _).trans (sameWork_dropIfLeft _ _ _))

theorem applySetup_lane_work (s : State) (l : LaneId) (x : LaneSetup) :
    ((s.applySetup l x).lane l).work = (s.takenSetup l x).work := by
  rw [applySetup_work s l x l, State.placeSetup, State.setLane_same]

/-- A setup of another kind leaves its lane no count, no alarm and no allowance, and its door as its contact stands (R66). -/
theorem takenSetup_work_of_kind (hkind : (s.lane l).setup.kind ≠ x.kind) : (s.takenSetup l x).work =
    ⟨x, (s.lane l).pendingSetup, (s.lane l).grant, 0, false, none,
      decide (x.kind = .door) && (s.inputs.doors[l].level).getD false⟩ := by
  rw [State.takenSetup, if_pos hkind]
  rfl

/-- A setup of the same kind leaves its lane's count but with another passage step (R66). -/
theorem takenSetup_work_of_same_kind (hkind : (s.lane l).setup.kind = x.kind) : (s.takenSetup l x).work =
    { (s.lane l).work with
      setup := x
      encoder := if (s.lane l).setup.passageStep = x.passageStep then (s.lane l).encoder else 0 } := by
  rw [State.takenSetup, if_neg (not_not.2 hkind)]
  by_cases hstep : (s.lane l).setup.passageStep = x.passageStep
  · rw [if_neg (not_not.2 hstep), if_pos hstep]
    rfl
  · rw [if_pos hstep, if_neg hstep]
    rfl

theorem takenSetup_work (s : State) (l : LaneId) (x : LaneSetup) : (s.takenSetup l x).setup = x ∧
    (s.takenSetup l x).pendingSetup = (s.lane l).pendingSetup ∧ (s.takenSetup l x).grant = (s.lane l).grant := by
  unfold State.takenSetup
  split_ifs <;> exact ⟨rfl, rfl, rfl⟩

/-! ### A setup applied, and what settles after it (R65) -/

/-- An IDLE lane holds no grant and no setup waits for it (R65, R72). -/
theorem laneLaw_idle (h : s.laneLaw) (hidle : (s.lane l).activity = .idle) :
    (s.lane l).grant = none ∧ (s.lane l).pendingSetup = none := by
  obtain ⟨hreleased, hwaiting, -, -, hpending⟩ := h l
  constructor
  · refine Option.eq_none_iff_forall_ne_some.2 fun g hg => ?_
    cases hphase : g.phase with
    | released => simp [hreleased.2 ⟨g, hg, hphase⟩] at hidle
    | waiting => simp [hwaiting.2 ⟨g, hg, hphase⟩] at hidle
  · exact Option.not_isSome_iff_eq_none.1 fun hsome => hpending hsome hidle

/-- A lane without a grant works after its setup is applied and the levels settle as the setup left it. -/
theorem applySetup_settle_work (h : (s.lane l).grant = none) (x : LaneSetup) :
    ((s.applySetup l x).settle.lane l).work = (s.takenSetup l x).work := by
  have hwork := applySetup_lane_work s l x
  obtain ⟨-, -, hgrant, -⟩ := Lane.work_eq_iff.1 hwork
  obtain ⟨-, -, htaken⟩ := takenSetup_work s l x
  rw [settle_lane_of_no_grant (hgrant.trans (htaken.trans h))]
  exact hwork

theorem applySetup_settle_setup_other (x : LaneSetup) (hlm : l ≠ m) :
    ((s.applySetup l x).settle.lane m).setup = (s.lane m).setup := by
  obtain ⟨hsetup, -⟩ := Lane.standing_eq_iff.1 (applySetup_standing_other (s := s) x hlm)
  exact ((sameStance_settle _).setup m).trans hsetup

/-! ### The setup an order names (R64, R191) -/

theorem takePartner_iff (l : LaneId) (n : Option Nat) (p : LaneId) :
    takePartner l n = some p ↔ n = some p.val ∧ p ≠ l := by
  cases n with
  | none => simp [takePartner]
  | some n =>
    simp only [takePartner, Option.some.injEq]
    by_cases hn : n < 8
    · rw [dif_pos hn]
      by_cases hl : n = l.val
      · simp only [if_pos hl, reduceCtorEq, false_iff, not_and, not_not]
        exact fun hp => Fin.ext (hp.symm.trans hl)
      · simp only [if_neg hl, Option.some.injEq, Fin.ext_iff, ne_eq]
        omega
    · rw [dif_neg hn]
      simp only [reduceCtorEq, false_iff, not_and]
      omega

theorem laneFieldsListed_iff (r : LaneSetupRequest) : laneFieldsListed r = true ↔ r.kind.isListed = true ∧
    r.releaseMode.isListed = true ∧ r.passback.isListed = true ∧ r.miss.isListed = true ∧ r.fail.isListed = true := by
  simp only [laneFieldsListed, Bool.and_eq_true, and_assoc]

/-- A lane setup as an order that lists its fields gives it, its numbers brought within range (R64). -/
def laneSetupWithin (r : LaneSetupRequest) (l : LaneId) (kind : LaneKind) (mode : ReleaseMode)
    (passback : PassbackPolicy) (miss : MissPolicy) (fail : FailMode) : LaneSetup :=
  { kind := kind, entryEnable := r.entryEnable, exitEnable := r.exitEnable
    releaseTime := max 1 (min 30 r.releaseTime), releaseMode := mode, heldLimit := max 5 (min 600 r.heldLimit)
    passageStep := max 8 (min 250 r.passageStep), passback := passback, referral := r.referral, miss := miss
    partner := takePartner l r.partner, deadTime := min 100 r.deadTime, waitLimit := max 1 (min 15 r.waitLimit), fail := fail }

theorem clamp_zero (hi n : Nat) : clamp 0 hi n = min hi n := Nat.zero_max _

theorem partnerClamped_eq_false (l : LaneId) (p : Option Nat) :
    partnerClamped l p = false ↔ (p.isSome = true → (takePartner l p).isSome = true) := by
  unfold partnerClamped
  cases p with
  | none => exact iff_of_true rfl nofun
  | some n =>
    cases takePartner l (some n) with
    | none => exact iff_of_false Bool.false_ne_true.symm fun h => Bool.false_ne_true (h rfl)
    | some q => exact iff_of_true rfl fun _ => rfl

/-- Numbers that stand as given are answered OK, and others OK_CLAMPED (R191). -/
theorem okCode_eq {clamped : Bool} {given : Prop} [Decidable given] (h : clamped = false ↔ given) :
    okCode clamped = if given then .ok else .okClamped := by
  cases clamped with
  | false =>
    rw [if_pos (h.1 rfl)]
    rfl
  | true =>
    rw [if_neg fun hgiven => Bool.false_ne_true (h.2 hgiven).symm]
    rfl

theorem takeLaneSetup_listed (l : LaneId) (hkind : r.kind = .listed kind) (hmode : r.releaseMode = .listed mode)
    (hpassback : r.passback = .listed passback) (hmiss : r.miss = .listed miss) (hfail : r.fail = .listed fail) :
    let x := laneSetupWithin r l kind mode passback miss fail
    ∃ clamped, takeLaneSetup l r = some (x, clamped) ∧ okCode clamped =
      if x.releaseTime = r.releaseTime ∧ x.heldLimit = r.heldLimit ∧ x.passageStep = r.passageStep ∧
        x.deadTime = r.deadTime ∧ x.waitLimit = r.waitLimit ∧ (r.partner.isSome = true → x.partner.isSome = true)
      then .ok else .okClamped := by
  intro x
  refine ⟨decide (x.releaseTime ≠ r.releaseTime) || decide (x.heldLimit ≠ r.heldLimit) ||
    decide (x.passageStep ≠ r.passageStep) || decide (x.deadTime ≠ r.deadTime) ||
    decide (x.waitLimit ≠ r.waitLimit) || partnerClamped l r.partner, ?_, okCode_eq ?_⟩
  · unfold takeLaneSetup
    rw [hkind, hmode, hpassback, hmiss, hfail]
    simp only [clamp_zero]
    rfl
  · simp only [Bool.or_eq_false_iff, decide_eq_false_iff_not, not_not, partnerClamped_eq_false, and_assoc]
    rfl

/-! ### The order (R64, R65, R191) -/

theorem exec_setupWrite_lane_unlisted (hrun : s.supply.state = .run) (index : Nat) (h : laneFieldsListed r = false) :
    exec (.setupWrite (.lane index r)) s = .next (s.refuse (.setupWrite (.lane index r)) .badOrder) := by
  change execSetupWrite (.lane index r) s = _
  refine (whileRunning_of_run hrun).trans ?_
  dsimp only
  rw [if_pos h]

theorem exec_setupWrite_lane_beyond (hrun : s.supply.state = .run) {index : Nat} (h : laneFieldsListed r = true) (hindex : 7 < index) :
    exec (.setupWrite (.lane index r)) s = .next (s.refuse (.setupWrite (.lane index r)) .outOfRange) := by
  change execSetupWrite (.lane index r) s = _
  refine (whileRunning_of_run hrun).trans ?_
  dsimp only
  rw [if_neg (by simp [h]), dif_neg (by omega)]

theorem exec_setupWrite_lane (hrun : s.supply.state = .run) (l : LaneId) (h : laneFieldsListed r = true) {clamped : Bool}
    (hx : takeLaneSetup l r = some (x, clamped)) :
    exec (.setupWrite (.lane l.val r)) s = .next ((s.writeLane l x).1.answer (.setupWrite (.lane l.val r)) (okCode clamped)
      (.setup (s.writeLane l x).2 ((s.writeLane l x).1.laneSetupReport l))) := by
  change execSetupWrite (.lane l.val r) s = _
  refine (whileRunning_of_run hrun).trans ?_
  dsimp only
  rw [if_neg (by simp [h]), dif_pos l.isLt, hx]

end

end Sys2Proof.Machine
end

section
/-! ## A watch's settings written (R156, R157) -/
namespace Sys2Proof.Machine

section
variable {s t u : State} {k : WatchId} {r : WatchRequest} {w : WatchSettings} {clamped : Bool}

/-! ### The settings an order names (R156) -/

theorem takeWatchAction_eq_none (a : Choice WatchActionRequest) : takeWatchAction a = none ↔
    a.isListed = false ∨ ∃ set m, a = .listed (.lanes set m) ∧ askOf m = none := by
  cases a with
  | unlisted n => exact iff_of_true rfl (.inl rfl)
  | listed a =>
    cases a with
    | alarm => simp [takeWatchAction, Choice.isListed]
    | evacuate => simp [takeWatchAction, Choice.isListed]
    | bell i => simp [takeWatchAction, Choice.isListed]
    | lanes set m => simp [takeWatchAction, Choice.isListed]

theorem takeWatch_eq_none (r : WatchRequest) : takeWatch r = none ↔ r.mode.isListed = false ∨ takeWatchAction r.action = none := by
  unfold takeWatch
  cases r.mode with
  | unlisted n => exact iff_of_true rfl (.inl rfl)
  | listed mode =>
    cases takeWatchAction r.action with
    | none => exact iff_of_true rfl (.inr rfl)
    | some a => exact iff_of_false nofun (by simp [Choice.isListed])

/-- A watch's settings are as the order gives them, its action as taken (R156). -/
theorem takeWatch_eq_some (h : takeWatch r = some (w, clamped)) : w.enable = r.enable ∧ w.mask = r.mask ∧
    w.compare = r.compare ∧ r.mode = .listed w.mode ∧ takeWatchAction r.action = some (w.action, clamped) := by
  unfold takeWatch at h
  split at h
  · next mode action taken hmode haction =>
    cases h
    exact ⟨rfl, rfl, rfl, hmode, haction⟩
  · cases h

/-! ### The watch written (R157) -/

/-- The state with a watch's settings written. -/
def State.watchWritten (s : State) (k : WatchId) (w : WatchSettings) : State :=
  s.setSetup { s.setup with watches := putAt s.setup.watches k w }

theorem watchWritten_watch (s : State) (k : WatchId) (w : WatchSettings) : (s.watchWritten k w).watch k = w :=
  putAt_same s.setup.watches k w

theorem setEqual_setEqual (s : State) (k : WatchId) (x y : Bool) : (s.setEqual k x).setEqual k y = s.setEqual k y := by
  have hput : putAt (putAt s.inputs.equal k x) k y = putAt s.inputs.equal k y := Vector.set_set ..
  unfold State.setEqual
  rw [State.setInputs_inputs, hput]
  rfl

/-- A watch just written UNEQUAL becomes EQUAL where it is an enabled MATCH watch that matches (R157). -/
theorem setEqual_becomesEqual (s : State) (k : WatchId) : (s.setEqual k false).becomesEqual k =
    ((s.watch k).enable && decide ((s.watch k).mode = .equals) && s.watchMatches k) := by
  have hequal : (s.setEqual k false).inputs.equal[k] = false := putAt_same s.inputs.equal k false
  unfold State.becomesEqual
  rw [hequal]
  simp only [Bool.not_false, Bool.and_true]
  rfl

/-- A watch written takes its equality state at once, and fires where it is live and becomes EQUAL (R157). -/
theorem writeWatch_eq (s : State) (k : WatchId) (w : WatchSettings) :
    let a := s.watchWritten k w
    let b := a.setEqual k (decide (w.mode = .equals) && a.watchMatches k)
    s.writeWatch k w = if (a.watchLive k && (w.enable && decide (w.mode = .equals) && a.watchMatches k)) = true then
      (b.fireWatch k).settle else b := by
  intro a b
  have hbecomes : (a.setEqual k false).becomesEqual k = (w.enable && decide (w.mode = .equals) && a.watchMatches k) := by
    rw [setEqual_becomesEqual, show a.watch k = w from watchWritten_watch s k w]
  have hset : (a.setEqual k false).setEqual k (decide (w.mode = .equals) && a.watchMatches k) = b := setEqual_setEqual ..
  rw [← hbecomes, ← hset]
  rfl

/-- A CHANGE watch, or one that does not match, is written UNEQUAL and does not fire (R157). -/
theorem writeWatch_of_unequal (h : (decide (w.mode = .equals) && (s.watchWritten k w).watchMatches k) = false) :
    s.writeWatch k w = (s.watchWritten k w).setEqual k false := by
  have heq := writeWatch_eq s k w
  dsimp only at heq
  rw [heq, Bool.and_assoc, h, Bool.and_false, Bool.and_false, if_neg (by decide)]

/-- The state with a live MATCH watch of action ALARM written and its firing captured (R157, R158). -/
def State.alarmCaptured (s : State) (k : WatchId) (w : WatchSettings) : State :=
  (s.watchWritten k w).setInputs { s.inputs with
    equal := putAt s.inputs.equal k true
    captures := putAt s.inputs.captures k (some ⟨s.generalLevels, s.now⟩) }

/-- The state with that watch's entry requested (R158). -/
def State.alarmWritten (s : State) (k : WatchId) (w : WatchSettings) : State :=
  (s.alarmCaptured k w).requestEntry (.system s.now (.watch k s.generalLevels .alarm))

theorem alarmWritten_frame (s : State) (k : WatchId) (w : WatchSettings) :
    unchangedBut entryBlocks (s.alarmCaptured k w) (s.alarmWritten k w) := requestEntry_frame _ _

theorem alarmWritten_inputs (s : State) (k : WatchId) (w : WatchSettings) : (s.alarmWritten k w).inputs =
    { s.inputs with
      equal := putAt s.inputs.equal k true
      captures := putAt s.inputs.captures k (some ⟨s.generalLevels, s.now⟩) } :=
  (alarmWritten_frame s k w).same (b := .inputs) (by decide)

theorem alarmWritten_setup (s : State) (k : WatchId) (w : WatchSettings) :
    (s.alarmWritten k w).setup = (s.watchWritten k w).setup := (alarmWritten_frame s k w).same (b := .setup) (by decide)

theorem alarmWritten_report (s : State) (k : WatchId) (w : WatchSettings) :
    (s.alarmWritten k w).watchReport k = .watch w true (some ⟨s.generalLevels, s.now⟩) := by
  have hwatch : (s.alarmWritten k w).watch k = w := by
    unfold State.watch
    rw [alarmWritten_setup]
    exact watchWritten_watch s k w
  unfold State.watchReport
  rw [hwatch, alarmWritten_inputs]
  simp only [Fin.getElem_fin, putAt_same]

/-- A live MATCH watch of action ALARM that matches as it is written is EQUAL and fires (R157, R158). -/
theorem writeWatch_of_alarm (hlevels : s.levelLaw) (hmode : w.mode = .equals)
    (hmatches : (s.watchWritten k w).watchMatches k = true) (hlive : (s.watchWritten k w).watchLive k = true)
    (haction : w.action = .alarm) : s.writeWatch k w = s.alarmWritten k w := by
  have heq := writeWatch_eq s k w
  have henable : w.enable = true := by
    have hboth := hlive
    unfold State.watchLive at hboth
    rw [watchWritten_watch, Bool.and_eq_true] at hboth
    exact hboth.1
  have hacts : (((s.watchWritten k w).setEqual k true).watch k).action = .alarm :=
    (congrArg WatchSettings.action (watchWritten_watch s k w)).trans haction
  have hfired : ((s.watchWritten k w).setEqual k true).fireWatch k = s.alarmWritten k w := by
    unfold State.fireWatch
    rw [hacts]
    exact if_neg fun h => nomatch h.1
  have hcaptured : (s.alarmCaptured k w).levelLaw := hlevels
  dsimp only at heq
  rw [heq, hmode, hmatches, hlive, henable, if_pos (by decide)]
  refine (congrArg State.settle hfired).trans ?_
  exact (sameLevels_of_frame (alarmWritten_frame s k w) (by decide)).settle hcaptured

/-! ### The order (R156, R191) -/

theorem exec_setupWrite_watch_unlisted (hrun : s.supply.state = .run) (index : Nat) (h : takeWatch r = none) :
    exec (.setupWrite (.watch index r)) s = .next (s.refuse (.setupWrite (.watch index r)) .badOrder) := by
  change execSetupWrite (.watch index r) s = _
  refine (whileRunning_of_run hrun).trans ?_
  dsimp only
  rw [h]

theorem exec_setupWrite_watch_beyond (hrun : s.supply.state = .run) {index : Nat} (h : takeWatch r = some (w, clamped))
    (hindex : 3 < index) :
    exec (.setupWrite (.watch index r)) s = .next (s.refuse (.setupWrite (.watch index r)) .outOfRange) := by
  change execSetupWrite (.watch index r) s = _
  refine (whileRunning_of_run hrun).trans ?_
  dsimp only
  rw [h]
  dsimp only
  rw [dif_neg (by omega)]

theorem exec_setupWrite_watch (hrun : s.supply.state = .run) (k : WatchId) (h : takeWatch r = some (w, clamped)) :
    exec (.setupWrite (.watch k.val r)) s = .next ((s.writeWatch k w).answer (.setupWrite (.watch k.val r)) (okCode clamped)
      (.setup false ((s.writeWatch k w).watchReport k))) := by
  change execSetupWrite (.watch k.val r) s = _
  refine (whileRunning_of_run hrun).trans ?_
  dsimp only
  rw [h]
  dsimp only
  rw [dif_pos k.isLt]

/-- A watch written UNEQUAL is answered with its settings and the capture it had (R157; log entry 51). -/
theorem exec_setupWrite_watch_of_unequal (hrun : s.supply.state = .run) (h : takeWatch r = some (w, clamped))
    (hunequal : (decide (w.mode = .equals) && (s.watchWritten k w).watchMatches k) = false) :
    exec (.setupWrite (.watch k.val r)) s = .next (((s.watchWritten k w).setEqual k false).answer (.setupWrite (.watch k.val r))
      (okCode clamped) (.setup false (.watch w false s.inputs.captures[k]))) := by
  have hequal : ((s.watchWritten k w).setEqual k false).inputs.equal[k] = false := putAt_same s.inputs.equal k false
  have hreport : ((s.watchWritten k w).setEqual k false).watchReport k = .watch w false s.inputs.captures[k] := by
    unfold State.watchReport
    rw [hequal, show ((s.watchWritten k w).setEqual k false).watch k = w from watchWritten_watch s k w]
    rfl
  rw [exec_setupWrite_watch hrun k h, writeWatch_of_unequal hunequal, hreport]

end

end Sys2Proof.Machine
end

section
/-! ## SETUP WRITE of a lane and of a watch (R64–R66, R156, R157, R191) -/
namespace Sys2Proof.Machine

section
variable {s : State} {l : LaneId}

/-- A setup written for a lane that is not IDLE waits as its pending setup (R65). -/
theorem writeLane_of_busy (h : (s.lane l).activity ≠ .idle) (x : LaneSetup) :
    s.writeLane l x = (s.setLane l { s.lane l with pendingSetup := some x }, true) := if_neg h

theorem writeLane_of_idle (h : (s.lane l).activity = .idle) (x : LaneSetup) :
    s.writeLane l x = ((s.applySetup l x).settle, false) := if_pos h

theorem busy_report (s : State) (l : LaneId) (x : LaneSetup) :
    (s.setLane l { s.lane l with pendingSetup := some x }).laneSetupReport l = .lane (s.lane l).setup (some x) := by
  unfold State.laneSetupReport
  rw [State.setLane_same]

/-- A setup written for an IDLE lane is in force, and none waits (R65). -/
theorem applied_report (hlanes : s.laneLaw) (hidle : (s.lane l).activity = .idle) (x : LaneSetup) :
    (s.applySetup l x).settle.laneSetupReport l = .lane x none := by
  obtain ⟨hgrant, hpending⟩ := laneLaw_idle hlanes hidle
  obtain ⟨hsetup, hwaits, -⟩ := Lane.work_eq_iff.1 (applySetup_settle_work hgrant x)
  obtain ⟨htakenSetup, htakenWaits, -⟩ := takenSetup_work s l x
  unfold State.laneSetupReport
  rw [hsetup, hwaits, htakenSetup, htakenWaits, hpending]

end

/-- What a watch's action is written as, and whether its entry index was clamped (R156). -/
theorem takeWatchAction_cases {a : Choice WatchActionRequest} {action : WatchAction} {clamped : Bool}
    (h : takeWatchAction a = some (action, clamped)) :
    (∀ i, a = .listed (.bell i) → action = .bell (min 127 i) ∧ (clamped = true ↔ 127 < i)) ∧
    (∀ set m, a = .listed (.lanes set m) → ∃ m', askOf m = some m' ∧ action = .lanes set m') ∧
    ((∀ i, a ≠ .listed (.bell i)) → clamped = false) ∧
    (a = .listed .alarm → action = .alarm) ∧ (a = .listed .evacuate → action = .evacuate) := by
  refine ⟨?_, ?_, fun hbell => ?_, ?_, ?_⟩
  · rintro i rfl
    cases h
    exact ⟨rfl, decide_eq_true_iff⟩
  · rintro set m rfl
    obtain ⟨m', hm, heq⟩ := Option.map_eq_some_iff.1 h
    cases heq
    exact ⟨m', hm, rfl⟩
  · cases a with
    | unlisted n => cases h
    | listed a =>
      cases a with
      | alarm =>
        cases h
        rfl
      | evacuate =>
        cases h
        rfl
      | bell i => exact absurd rfl (hbell i)
      | lanes set m =>
        obtain ⟨m', -, heq⟩ := Option.map_eq_some_iff.1 h
        cases heq
        rfl
  · rintro rfl
    cases h
    rfl
  · rintro rfl
    cases h
    rfl

/-- A lane's setup is written as SETUP WRITE takes it (R64, R65, R66). -/
theorem exec_setupWrite_lane_idle {s : State} {l : LaneId} {r : LaneSetupRequest} {x : LaneSetup} {clamped : Bool}
    (hrun : s.supply.state = .run) (hlanes : s.laneLaw) (hlisted : laneFieldsListed r = true)
    (hx : takeLaneSetup l r = some (x, clamped)) (hidle : (s.lane l).activity = .idle) :
    ∃ t, exec (.setupWrite (.lane l.val r)) s = .next (t.answer (.setupWrite (.lane l.val r)) (okCode clamped)
        (.setup false (.lane x none))) ∧ unchangedBut grantBlocks s t ∧
      (t.lane l).setup = x ∧ (∀ p, p ≠ l → (t.lane p).setup = (s.lane p).setup) ∧
      ((s.lane l).setup.kind ≠ x.kind → (t.lane l).encoder = 0 ∧ (t.lane l).held = false ∧ (t.lane l).exitAllowance = none ∧
        (t.lane l).doorOpen = (decide (x.kind = .door) && (s.inputs.doors[l].level).getD false)) ∧
      ((s.lane l).setup.kind = x.kind → (t.lane l).doorOpen = (s.lane l).doorOpen ∧
        (t.lane l).encoder = if (s.lane l).setup.passageStep = x.passageStep then (s.lane l).encoder else 0) := by
  obtain ⟨hgrant, -⟩ := laneLaw_idle hlanes hidle
  obtain ⟨htakenSetup, -⟩ := takenSetup_work s l x
  have hwork := applySetup_settle_work hgrant x
  have hframe : unchangedBut grantBlocks s (s.writeLane l x).1 := frame_writeLane l x (.refl _ s) (by decide) (by decide) (by decide)
  have hexec := exec_setupWrite_lane hrun l hlisted hx
  rw [writeLane_of_idle hidle] at hexec hframe
  dsimp only at hexec hframe
  rw [applied_report hlanes hidle] at hexec
  have hothers : ∀ p, p ≠ l → ((s.applySetup l x).settle.lane p).setup = (s.lane p).setup := fun p hp =>
    applySetup_settle_setup_other x hp.symm
  generalize (s.applySetup l x).settle = t at hexec hframe hwork hothers
  obtain ⟨hsetup, -⟩ := Lane.work_eq_iff.1 hwork
  refine ⟨t, hexec, hframe, hsetup.trans htakenSetup, hothers, fun hkind => ?_, fun hkind => ?_⟩
  · rw [takenSetup_work_of_kind hkind] at hwork
    simp only [Lane.work, LaneWork.mk.injEq] at hwork
    obtain ⟨-, -, -, hencoder, hheld, hallowance, hdoor⟩ := hwork
    exact ⟨hencoder, hheld, hallowance, hdoor⟩
  · rw [takenSetup_work_of_same_kind hkind] at hwork
    simp only [Lane.work, LaneWork.mk.injEq] at hwork
    obtain ⟨-, -, -, hencoder, -, -, hdoor⟩ := hwork
    exact ⟨hdoor, hencoder⟩

/-- Settles O59: a lane's setup is placed and then leaves what no mode, pair or settling changes; a watch is written UNEQUAL,
and its evaluation follows the cases of its mode and its match. -/
theorem setupWriteAppliesLanesAndWatches : Obligations.SetupWriteAppliesLanesAndWatches := by
  unfold Obligations.SetupWriteAppliesLanesAndWatches
  refine ⟨fun s index r hrun => ?_, fun s index r hrun => ?_⟩
  · intro order listed
    refine ⟨fun hnot => exec_setupWrite_lane_unlisted hrun index (Bool.eq_false_iff.2 (mt (laneFieldsListed_iff r).1 hnot)),
      fun hlisted hindex => exec_setupWrite_lane_beyond hrun ((laneFieldsListed_iff r).2 hlisted) hindex, ?_⟩
    intro l kind mode passback miss fail hindex hkind hmode hpassback hmiss hfail hlanes
    subst hindex
    obtain ⟨clamped, hx, hcode⟩ := takeLaneSetup_listed l hkind hmode hpassback hmiss hfail
    have hlisted : laneFieldsListed r = true := by
      rw [laneFieldsListed_iff, hkind, hmode, hpassback, hmiss, hfail]
      exact ⟨rfl, rfl, rfl, rfl, rfl⟩
    refine ⟨takePartner l r.partner, takePartner_iff l r.partner, ?_⟩
    intro x code
    refine ⟨fun hbusy => ?_, fun hidle => ?_⟩
    · rw [exec_setupWrite_lane hrun l hlisted hx, writeLane_of_busy hbusy, busy_report, hcode]
      rfl
    · have happlied := exec_setupWrite_lane_idle hrun hlanes hlisted hx hidle
      rw [hcode] at happlied
      exact happlied
  · intro order
    refine ⟨(takeWatch_eq_none r).trans (or_congr_right (takeWatchAction_eq_none r.action)),
      exec_setupWrite_watch_unlisted hrun index, fun w clamped hw => ⟨exec_setupWrite_watch_beyond hrun hw, ?_⟩⟩
    intro k hindex a code
    subst hindex
    obtain ⟨henable, hmask, hcompare, hmode, haction⟩ := takeWatch_eq_some hw
    obtain ⟨hbell, hlanes, hclamped, halarm, hevacuate⟩ := takeWatchAction_cases haction
    refine ⟨henable, hmask, hcompare, hmode, hbell, hlanes, hclamped, halarm, hevacuate, fun hchange => ?_,
      fun _ hmatches => ?_, fun hequals hmatches hlive hact hlevels => ?_⟩
    · exact exec_setupWrite_watch_of_unequal hrun hw (by rw [hchange]; rfl)
    · exact exec_setupWrite_watch_of_unequal hrun hw ((congrArg _ hmatches).trans (Bool.and_false _))
    · have hexec := exec_setupWrite_watch hrun k hw
      rw [writeWatch_of_alarm hlevels hequals hmatches hlive hact, alarmWritten_report] at hexec
      exact ⟨s.alarmWritten k w, hexec, ((frame_setInputs _ (frame_setSetup _ (.refl _ s) (by decide)) (by decide)).trans
        ((alarmWritten_frame s k w).mono (by decide))), alarmWritten_setup s k w, alarmWritten_inputs s k w,
        entered_requestEntry _ rfl rfl⟩

end Sys2Proof.Machine
end
